-- ==== Sys2Proof/Word.lean ====
section
/-! DEFINITION. The words of the machine: bytes, 32-bit words and counters, moments, station numbers and sets.
Conventions of 00_scope.md. -/

namespace Sys2Proof

abbrev Byte := BitVec 8

/-- A 32-bit value: a count of the position unit, a register of the window. -/
abbrev Word := BitVec 32

/-- A counter: 32-bit, counts up, wraps (00_scope.md, "Counters"). -/
abbrev Counter := BitVec 32

/-- A moment, or a length of time, in nanoseconds (log 1). -/
abbrev Moment := Nat

/-- A station number, 0 to 7 (R77). Also a channel number (0 to 7) and a frame-table slot (0 to 7). -/
abbrev Station := Fin 8

/-- A set of stations: bit i for station i (11_formats.md). -/
abbrev StationSet := BitVec 8

/-- A tap, a stream (0 or 1). -/
abbrev Tap := Fin 2

/-- Bits 51 to 12 of a 52-bit address aligned to 4 KiB (11_formats.md). -/
abbrev Page := BitVec 40

end Sys2Proof
end

