-- ==== Sys2Proof/Syntax.lean ====
section
/-! DEFINITION. The commands of the MW208: one constructor per row of spec/opcode_table.json, in the table's order.
Every command carries the moment `t` at which it is taken (log 1). -/

namespace Sys2Proof

inductive Instr
  /-- POWER_ON_RESET (R182). -/
  | powerOnReset (t : Moment)
  /-- ENCODER_EVENT (R1): the filtered pair is now (a, b). -/
  | encoderEvent (t : Moment) (a b : Bool)
  /-- STROBE_TIMER_EXPIRY (R8). -/
  | strobeTimerExpiry (t : Moment) (strobe : Fin 4)
  /-- TRIG_PULSE_END (R18). -/
  | trigPulseEnd (t : Moment) (tap : Tap)
  /-- TRIGGER_TIMEOUT (R19). -/
  | triggerTimeout (t : Moment) (tap : Tap)
  /-- SYNC_WORD (R20): `cut` are the bytes received of a packet that this sync word cuts short. -/
  | syncWord (t : Moment) (tap : Tap) (cut : List Byte)
  /-- PACKET_ARRIVAL (R22): `bytes` are all the bytes between SYNC and IDLE. -/
  | packetArrival (t : Moment) (tap : Tap) (bytes : List Byte)
  /-- NOTE_SEND_START (R43). -/
  | noteSendStart (t : Moment)
  /-- LEAD_MARK (R51): another station's lead mark. -/
  | leadMark (t : Moment)
  /-- STRETCH_LIMIT (R52). -/
  | stretchLimit (t : Moment)
  /-- CONFIRM_SLOT (R46): `cells` are the data cells this station sampled, `othersVeto` says that another station
  holds TKDAT low at the 3T sample. -/
  | confirmSlot (t : Moment) (cells : List Bool) (othersVeto : Bool)
  /-- NOTE_ABANDONED (R41): `cells` are the data cells sampled up to then. -/
  | noteAbandoned (t : Moment) (cells : List Bool)
  /-- TRUNK_IDLE (R42). -/
  | trunkIdle (t : Moment)
  /-- TRUNK_ERROR (R42). -/
  | trunkError (t : Moment)
  /-- STALL (R54): `cells` are the data cells sampled before the stall. -/
  | stall (t : Moment) (cells : List Bool)
  /-- PROCESS_SIGNAL (R162). -/
  | processSignal (t : Moment)
  /-- PROCESS_DROP (R88). -/
  | processDrop (t : Moment)
  /-- PROCESS_OPEN (R103). -/
  | processOpen (t : Moment)
  /-- PROCESS_DONE (R144). -/
  | processDone (t : Moment)
  /-- PROCESS_GATE (R114). -/
  | processGate (t : Moment)
  /-- PROCESS_GRANT (R108). -/
  | processGrant (t : Moment)
  /-- PROCESS_ROLL (R80). -/
  | processRoll (t : Moment)
  /-- PROCESS_ROSTER_JOIN (R82). -/
  | processRosterJoin (t : Moment)
  /-- PROCESS_ROSTER_LEAVE (R90). -/
  | processRosterLeave (t : Moment)
  /-- PORT_ISSUE (R125). -/
  | portIssue (t : Moment)
  /-- FLUSH_COMPLETION (R136): `number` is the flush number the completion carries back. -/
  | flushCompletion (t : Moment) (number : Nat)
  /-- FLUSH_TIMEOUT (R137): of the own part in this slot and stream. -/
  | flushTimeout (t : Moment) (slot : Fin 8) (stream : Fin 2)
  /-- RECORD_FLUSH_TIMEOUT (R153). -/
  | recordFlushTimeout (t : Moment)
  /-- LEG_TIMER_EXPIRY (R138): of the own part in this slot and stream. -/
  | legTimerExpiry (t : Moment) (slot : Fin 8) (stream : Fin 2)
  /-- LINK_DOWN (R139). -/
  | linkDown (t : Moment)
  /-- LINK_UP (R139). -/
  | linkUp (t : Moment)
  /-- SIGNAL_EDGE (R158): the samples of this input show this level (log 34). -/
  | signalEdge (t : Moment) (input : Fin 4) (level : Bool)
  /-- GROUP_FAULT_EDGE (R180): the filter has accepted a low level of TKFLT. -/
  | groupFaultEdge (t : Moment)
  /-- CONFIG_CHECK (R177): `upsets` are the stored bytes that have changed by themselves since the last check. -/
  | configCheck (t : Moment) (upsets : List Host.Cell)
  /-- LISTEN_TIMER_EXPIRY (R79). -/
  | listenTimerExpiry (t : Moment)
  /-- ROLL_TIMER_EXPIRY (R84). -/
  | rollTimerExpiry (t : Moment)
  /-- SILENCE_TIMER_EXPIRY (R87). -/
  | silenceTimerExpiry (t : Moment) (peer : Station)
  /-- ACCEPT_CONFIG (R172, R175). -/
  | acceptConfig (t : Moment)
  /-- ACCEPT_CONFIG_DONE (R175): `straps` is the level of SNUM2 to SNUM0, `samples` the first sample of SIN0 to SIN3. -/
  | acceptConfigDone (t : Moment) (straps : Station) (samples : Vector Bool 4)
  /-- JOIN (R78). -/
  | join (t : Moment)
  /-- LEAVE (R78). -/
  | leave (t : Moment)
  /-- POST_GRANT (R106). -/
  | postGrant (t : Moment)
  /-- GATE_CLOSE (R113). -/
  | gateClose (t : Moment)
  /-- GATE_OPEN (R113). -/
  | gateOpen (t : Moment)
  /-- MARK (R161). -/
  | mark (t : Moment)
  /-- SET_OUTPUT (R167). -/
  | setOutput (t : Moment)
  /-- CLEAR_FAULTS (R179). -/
  | clearFaults (t : Moment)
  /-- RESET_ACQUISITION (R183). -/
  | resetAcquisition (t : Moment)
  /-- RESET_STATION (R182). -/
  | resetStation (t : Moment)
  /-- RESET_STATION_COMPLETE (R182). -/
  | resetStationComplete (t : Moment)
  /-- UNKNOWN_COMMAND (R172): a command word with a code that names no command. -/
  | unknownCommand (t : Moment) (code : Byte)
  /-- COMMAND_COLLISION (R173). -/
  | commandCollision (t : Moment)
  /-- CONFIG_WRITE (R174): a write of the 32-bit location number `location` (window offset 4 × location). -/
  | configWrite (t : Moment) (location : Fin 1024) (value : Word)
  /-- IGNORED_WRITE (R185). -/
  | ignoredWrite (t : Moment) (location : Fin 1024) (value : Word)
  /-- STALL_END (R54). -/
  | stallEnd (t : Moment)
  /-- TKFLT_RELEASED (R180): the filter has accepted a high level of TKFLT. -/
  | tkfltReleased (t : Moment)
  /-- ARGUMENT_WORD_WRITE (R172). -/
  | argumentWordWrite (t : Moment) (index : Fin 4) (value : Word)
  deriving DecidableEq, Repr

end Sys2Proof
end

