-- ==== Sys2Proof/Decode.lean ====
section
/-! DEFINITION. Commands read from words. No row of spec/opcode_table.json gives bits (98_reader.md,
"n_rows_with_fixed": 0 and "n_rows_with_fields": 0), so no word spells a command (log 4). -/

namespace Sys2Proof

/-- The command that the word `w` of `nbits` bits spells: none, for every word (log 4). -/
def decodeTableWord (_nbits _w : Nat) : Option Instr := none

end Sys2Proof
end

