-- ==== Sys2Proof/Machine/Types.lean ====
section
/-! DEFINITION. The kinds of data the units of the station hold, with the manual's names. -/

namespace Sys2Proof.Machine

/-! ### Notes (04_trunk_notes.md, 11_formats.md) -/

/-- The eight kinds, in the order of their codes (R57). -/
inductive NoteKind
  | signal | drop | opening | done | gate | grant | roll | roster
  deriving DecidableEq, Repr

/-- Where a SIGNAL comes from (R65). -/
inductive Origin
  | sin (input : Fin 4)
  | host
  deriving DecidableEq, Repr

/-- A steered entry of an OPEN (R67), and a grant as named by it. -/
structure Steer where
  channel : Fin 8
  seq : Byte
  base : Page
  deriving DecidableEq, Repr

/-- The stream entries of an OPEN, one per stream; an unsteered entry is `none` (R67). -/
inductive StreamEntries
  | one (stream0 : Option Steer)
  | two (stream0 stream1 : Option Steer)
  deriving DecidableEq, Repr

/-- A channel entry of a ROLL (R71). -/
structure RollChannel where
  complete : Bool
  nextSeq : Byte
  queueLength : BitVec 5
  deriving DecidableEq, Repr

/-- The fields of a ROLL (R71). -/
structure Roll where
  groupCount : Word
  roster : StationSet
  gateOpen : Bool
  gateFrame : BitVec 16
  h : BitVec 16
  digest : BitVec 16
  faultSummary : Bool
  occupied : List (BitVec 16)
  channels : List RollChannel
  deriving DecidableEq, Repr

/-- A note's kind and payload (R65 to R72). -/
inductive Note
  | signal (id : BitVec 4) (level : Bool) (origin : Origin) (line : Word)
  | drop (station : Station)
  | opening (frame : BitVec 16) (mask : StationSet) (entries : StreamEntries)
  | done (frame : BitVec 16) (stream : Fin 2) (delivered : Bool) (gapRows : BitVec 17)
  | gate (isOpen : Bool) (frame : BitVec 16)
  | grant (channel : Fin 8) (seq : Byte) (base : Page)
  | roll (r : Roll)
  | rosterJoin (digest : BitVec 16) (founding : Bool)
  | rosterLeave
  deriving DecidableEq, Repr

/-- A pending note's fields fixed at its claim (R64). -/
inductive Claim
  | signal (id : BitVec 4) (level : Bool) (origin : Origin) (line : Word)
  | drop (station : Station)
  | opening (frame : Nat)
  | done (frame : Nat) (stream : Fin 2) (delivered : Bool) (gapRows : Nat)
  | gate (isOpen : Bool)
  | grant (channel : Fin 8) (seq : Byte) (base : Page)
  | roll
  | rosterJoin
  | rosterLeave
  deriving DecidableEq, Repr

/-- Why a note on the wire is to leave its list when its attempt ends (R62, R63): not at all, because a note was
processed or the station state changed, or by a reset. -/
inductive Doom
  | none | withdrawn | reset
  deriving DecidableEq, Repr

/-- A pending note (R57). -/
structure Pending where
  claim : Claim
  attempts : Nat
  doom : Doom
  deriving DecidableEq, Repr

/-! ### Position unit -/

/-- R4. -/
inductive PositionMode
  | stopped | tracking | issuing
  deriving DecidableEq, Repr

/-- A captured raw count and group count (R3). -/
structure Latch where
  raw : Word
  group : Word
  deriving DecidableEq, Repr

structure Position where
  raw : Word
  offset : Word
  reference : Option (Bool × Bool)
  latch : Option Latch
  mode : PositionMode
  w : Word
  lineIndex : Nat
  nextDue : Word
  lastIssue : Option Moment
  indexEnd : Bool
  /-- the current frame as the unit left it when it last entered STOPPED (R4) -/
  leftFrame : Nat
  /-- per strobe output: the moment its pulse ends while it is high (R8) -/
  strobes : Vector (Option Moment) 4
  deriving DecidableEq, Repr

/-! ### Camera taps -/

/-- A trigger record (R7). -/
structure Trigger where
  index : Nat
  phase : Nat
  issued : Moment
  deriving DecidableEq, Repr

/-- An entry of a line queue (R26), with the pixels its slot holds (log 9). -/
structure Line where
  index : Nat
  phase : Nat
  slot : Fin 256
  pixels : List Byte
  deriving DecidableEq, Repr

/-- The line port receiver: no packet, a packet into the fill slot, a packet into nowhere (R20, R21). -/
inductive LinePort
  | idle
  | filling (slot : Fin 256)
  | nowhere
  deriving DecidableEq, Repr

structure TapState where
  triggers : List Trigger
  expected : Byte
  primed : Bool
  port : LinePort
  lines : List Line
  /-- the moment the TRIG pulse ends while it is active (R18) -/
  pulse : Option Moment
  deriving DecidableEq, Repr

/-! ### Trunk port -/

/-- R37. -/
inductive TrunkView
  | detached | settling | idle | busy
  deriving DecidableEq, Repr

/-- The station's role in the note on the wire: sender, with the cells it drives; a sender known to have lost after
the header (R45, R54); receiver; or none (R37, R52). -/
inductive WireRole
  | sender (kind : NoteKind) (note : Note) (cells : List Bool)
  | loser (kind : NoteKind)
  | receiver
  | aside
  deriving DecidableEq, Repr

/-- The note on the wire, as this station stands in it. -/
structure Wire where
  role : WireRole
  /-- the pair captured at its lead mark (R3) -/
  latch : Latch
  /-- a receive queue place is reserved for it (R51) -/
  reserved : Bool
  /-- while the station stretches: the moment its hold of TKCLK began (R52) -/
  stretch : Option Moment
  /-- the station has stopped taking part and only drives the note to its end (R55) -/
  released : Bool
  deriving DecidableEq, Repr

/-- An accepted note in the receive queue (R51). -/
structure Received where
  sender : Station
  note : Note
  latch : Latch
  deriving DecidableEq, Repr

structure Trunk where
  view : TrunkView
  wire : Option Wire
  queue : List Received
  vetoRun : Nat
  stalled : Bool
  deriving DecidableEq, Repr

structure TransmitQueue where
  lists : Vector (List Pending) 8
  held : Option Claim
  deriving DecidableEq, Repr

/-! ### Membership unit -/

/-- R77, in the order of the codes of 11_formats.md. -/
inductive StationState
  | unconfigured | configured | listening | joining | member | leaving | lapsed
  deriving DecidableEq, Repr

/-- A timer: stopped, running to a moment, or standing still with its time left (R54). -/
inductive Timer
  | stopped
  | running (deadline : Moment)
  | held (left : Moment)
  deriving DecidableEq, Repr

/-- What a peer's latest ROLL said (R80, R85). -/
structure PeerRoll where
  channels : List RollChannel
  faultSummary : Bool
  digest : BitVec 16
  deriving DecidableEq, Repr

/-- A peer record (R80, R83, R95); `skew` is the latest comparison, true for agree (R86). -/
structure Peer where
  lastHeard : Moment
  roll : Option PeerRoll
  skew : Option Bool
  deriving DecidableEq, Repr

structure Membership where
  state : StationState
  number : Option Station
  roster : StationSet
  peers : Vector (Option Peer) 8
  silence : Vector Timer 8
  roll : Timer
  listen : Timer
  joinFrame : Nat
  heardRoll : Bool
  latestDigest : Option (BitVec 16)
  leavingByReset : Bool
  /-- the moment LAPSED was entered, while LAPSED: the peer records stand frozen there (R91, R95) -/
  lapsedAt : Option Moment
  deriving DecidableEq, Repr

/-! ### Frame unit and own parts -/

inductive PartState
  | collecting | flushing | reported | void
  deriving DecidableEq, Repr

structure TapProgress where
  written : Nat
  filled : Nat
  done : Bool
  deriving DecidableEq, Repr

/-- R122: stopped, running with its time left, or expired. -/
inductive LegTimer
  | stopped
  | running (deadline : Moment)
  | expired
  deriving DecidableEq, Repr

/-- R122, R136: no flush, a flush waiting in the port, or the flush issued and when. -/
inductive FlushState
  | none
  | waiting
  | issued (number : Nat) (moment : Moment)
  deriving DecidableEq, Repr

/-- R122. -/
structure OwnPart where
  state : PartState
  taps : Vector TapProgress 2
  gapRows : Nat
  timer : LegTimer
  flush : FlushState
  deriving DecidableEq, Repr

inductive LegStatus
  | pending | unsteered | retired
  deriving DecidableEq, Repr

/-- R97. -/
structure Leg where
  status : LegStatus
  steer : Option Steer
  mask : StationSet
  delivered : StationSet
  void : StationSet
  removed : StationSet
  gapTotal : Nat
  flags : Byte
  own : Option OwnPart
  deriving DecidableEq, Repr

/-- A known entry (R96). -/
structure Entry where
  frame : Nat
  resumed : Bool
  legs : Vector Leg 2
  deriving DecidableEq, Repr

inductive Slot
  | free
  | foreign (frame : Nat)
  | known (entry : Entry)
  deriving DecidableEq, Repr

/-- A grant in a channel's queue (R102). -/
structure Grant where
  seq : Byte
  base : Page
  deriving DecidableEq, Repr

/-- A channel's grant queue and state (R102). -/
structure Channel where
  queue : List Grant
  complete : Bool
  blind : Option Byte
  nextSeq : Byte
  lastSeen : Option Byte
  deriving DecidableEq, Repr

structure FrameUnit where
  slots : Vector Slot 8
  h : Nat
  gateOpen : Bool
  gateFrame : Nat
  resume : Option Nat
  channels : Vector Channel 8
  rotation : Vector (Option (Fin 8)) 2
  founded : Bool
  lostGrant : Option Steer
  deriving DecidableEq, Repr

/-! ### Delivery engine and host write port -/

/-- A row buffer of the repeat store (R124). -/
structure StoredRow where
  frame : Nat
  pixels : List Byte
  deriving DecidableEq, Repr

/-- The current turn (R126, R130, R135): the fill rows left, in order; how many bytes of the current row have been
issued; the current line, of a write turn; the frame a finish turn finishes. -/
structure Turn where
  tap : Tap
  rows : List Nat
  sent : Nat
  line : Option Line
  finish : Option Nat
  deriving DecidableEq, Repr

/-- A record-class request waiting in the port (R125): a notice with its destination, the flush of the own part in a
slot and stream, or the head record's step (R152). -/
inductive PortRequest
  | notice (address : Nat) (data : Word)
  | partFlush (slot : Fin 8) (stream : Fin 2)
  | recordWrite
  | recordFlush
  | recordMessage
  deriving DecidableEq, Repr

/-- A request as the port issues it (R125). -/
inductive Request
  | memoryWrite (address : Nat) (data : List Byte)
  | messageWrite (address : Nat) (data : Word)
  | flush (number : Nat)
  deriving DecidableEq, Repr

structure Delivery where
  handled : Vector Nat 2
  waiting : Vector Bool 2
  store : Vector (Vector (Option StoredRow) 4) 2
  turn : Option Turn
  lastTap : Tap
  port : List PortRequest
  linkUp : Bool
  flushCount : Nat
  deriving DecidableEq, Repr

/-! ### Completion and record unit -/

/-- R150. -/
inductive PartOutcome
  | notExpected | delivered | void | absent
  deriving DecidableEq, Repr

/-- A frame record (R150). The steer holds channel, grant sequence and buffer base. -/
structure FrameRecord where
  steer : Steer
  stream : Fin 2
  frame : Nat
  firstLine : Nat
  rowsPerPlane : Nat
  planeCount : Nat
  mask : StationSet
  status : Vector PartOutcome 8
  gapTotal : Nat
  flags : Byte
  resumed : Bool
  poster : Station
  deriving DecidableEq, Repr

/-- The step of R152 that the head record has reached: no head; its write waits; its flush waits; its flush is
issued; its message write waits. -/
inductive RecordStep
  | idle
  | write
  | flushWaiting
  | flushIssued (number : Nat) (moment : Moment)
  | message
  deriving DecidableEq, Repr

structure Records where
  queue : List FrameRecord
  step : RecordStep
  deriving DecidableEq, Repr

/-! ### Signal unit -/

/-- A signal output's own state (R163 to R167): the ranges of a PULSE schedule, the changes of a FOLLOW schedule. -/
structure Output where
  ranges : List (Nat × Nat)
  changes : List (Nat × Bool)
  follow : Bool
  lastApplied : Option Nat
  manual : Bool
  deriving DecidableEq, Repr

/-- What the samples of an input show (R158; log 34). -/
structure Sample where
  level : Bool
  /-- no sample after this moment is known to have shown the other level -/
  since : Moment
  /-- the latest moment at which a sample is known to have shown the level -/
  shown : Moment
  deriving DecidableEq, Repr

structure Signals where
  filtered : Vector (Option Bool) 4
  sampled : Vector (Option Sample) 4
  outputs : Vector Output 4
  deriving DecidableEq, Repr

/-! ### Host window -/

/-- The sixteen fault kinds in the order of R178 (11_formats.md). -/
inductive FaultKind
  | encoder | skew | stretch | stall | noise | vetoRun | duplicate | desync | configCorrupt | configMismatch | link
  | poolOverrun | signalOverrun | markOverrun | dropped | grantLost
  deriving DecidableEq, Repr

/-- R181. -/
inductive EventKind
  | fault (kind : FaultKind)
  | state (state : StationState)
  | groupFault
  | reset
  deriving DecidableEq, Repr

structure Event where
  number : Word
  kind : EventKind
  deriving DecidableEq, Repr

/-- The results in the order of their codes (11_formats.md). -/
inductive Result
  | accepted | refusedBusy | refusedState | refusedArgument | refusedNotHome | refusedFull
  deriving DecidableEq, Repr

/-- The result word and value (R172). -/
structure ResultWord where
  code : Byte
  result : Result
  value : Word
  done : Bool
  deriving DecidableEq, Repr

/-- The latched command while TAKING (R172). -/
structure Taking where
  code : Byte
  args : Vector Word 4
  deriving DecidableEq, Repr

structure Window where
  /-- the configuration area: listed bytes in rising order, none of them 0 (R174; Memory.lean) -/
  area : List Host.Cell
  digest : BitVec 16
  taking : Option Taking
  command : Byte
  args : Vector Word 4
  result : ResultWord
  collision : Bool
  faults : BitVec 16
  events : List Event
  eventNumber : Word
  /-- the filtered level of TKFLT, true for high (R180) -/
  tkflt : Option Bool
  nextCheck : Option Moment
  deriving DecidableEq, Repr

/-! ### Counters -/

/-- R16. -/
structure PositionCounters where
  linesIssued : Counter := 0
  linesSuppressed : Counter := 0
  encoderErrors : Counter := 0
  deriving DecidableEq, Repr

/-- R33. -/
structure TapCounters where
  triggersSent : Counter := 0
  overtrigger : Counter := 0
  timeout : Counter := 0
  skipped : Counter := 0
  triggersMissed : Counter := 0
  linesGood : Counter := 0
  stale : Counter := 0
  breaks : Counter := 0
  unsolicited : Counter := 0
  malformed : Counter := 0
  poolOverrun : Counter := 0
  statusNonzero : Counter := 0
  deriving DecidableEq, Repr

/-- R56. -/
structure TrunkCounters where
  notesSent : Counter := 0
  notesAccepted : Counter := 0
  arbitrationLost : Counter := 0
  attemptsFailed : Counter := 0
  vetoesGiven : Counter := 0
  notesAbandoned : Counter := 0
  trunkErrors : Counter := 0
  stretches : Counter := 0
  stalls : Counter := 0
  duplicateSeen : Counter := 0
  deriving DecidableEq, Repr

/-- R76. -/
structure QueueCounters where
  notesClaimed : Counter := 0
  claimsMet : Counter := 0
  claimsRefused : Counter := 0
  notesWithdrawn : Counter := 0
  notesExhausted : Counter := 0
  notesIgnored : Counter := 0
  deriving DecidableEq, Repr

/-- R94. -/
structure MembershipCounters where
  stateChanges : Counter := 0
  joinsSeen : Counter := 0
  removals : Counter := 0
  dropsClaimed : Counter := 0
  skewDisagree : Counter := 0
  lapses : Counter := 0
  deriving DecidableEq, Repr

/-- R121. -/
structure FrameCounters where
  framesOpened : Counter := 0
  framesLost : Counter := 0
  framesSkipped : Counter := 0
  opensIgnored : Counter := 0
  grantsPosted : Counter := 0
  grantsConsumed : Counter := 0
  grantsDiscarded : Counter := 0
  grantsIgnored : Counter := 0
  orphanDeclared : Counter := 0
  gatesUnchanged : Counter := 0
  desyncSeen : Counter := 0
  deriving DecidableEq, Repr

/-- R143. -/
structure DeliveryCounters where
  linesWritten : Counter := 0
  linesDiscarded : Counter := 0
  linesDropped : Counter := 0
  discardClosed : Counter := 0
  discardNoPart : Counter := 0
  discardPartClosed : Counter := 0
  discardNotAllowed : Counter := 0
  discardNotInTable : Counter := 0
  discardUnopened : Counter := 0
  openWaits : Counter := 0
  rowsFilled : Counter := 0
  burstsIssued : Counter := 0
  bytesWritten : Counter := 0
  flushesIssued : Counter := 0
  partsDelivered : Counter := 0
  partsVoid : Counter := 0
  legTimeouts : Counter := 0
  flushTimeouts : Counter := 0
  linkDowns : Counter := 0
  deriving DecidableEq, Repr

/-- R157. -/
structure RecordCounters where
  donesApplied : Counter := 0
  donesIgnored : Counter := 0
  removalsApplied : Counter := 0
  legsCompleted : Counter := 0
  legsCompletedByRemoval : Counter := 0
  legsUnposted : Counter := 0
  legsRetired : Counter := 0
  slotsFreed : Counter := 0
  recordsBuilt : Counter := 0
  recordsQueued : Counter := 0
  recordsWritten : Counter := 0
  recordLost : Counter := 0
  recordOverflows : Counter := 0
  deriving DecidableEq, Repr

/-- R171, per input. -/
structure InputCounters where
  edgesAccepted : Counter := 0
  edgesUnclaimed : Counter := 0
  deriving DecidableEq, Repr

/-- R171, per output. -/
structure OutputCounters where
  entriesInserted : Counter := 0
  entriesMerged : Counter := 0
  partlyLate : Counter := 0
  lateSkipped : Counter := 0
  lateApplied : Counter := 0
  scheduleFull : Counter := 0
  outOfRange : Counter := 0
  deriving DecidableEq, Repr

/-- R171, per station. -/
structure SignalCounters where
  signalOverruns : Counter := 0
  marksAccepted : Counter := 0
  signalsApplied : Counter := 0
  flagsSet : Counter := 0
  flagMissed : Counter := 0
  deriving DecidableEq, Repr

/-- R185. -/
structure WindowCounters where
  commandsTaken : Counter := 0
  commandsRefused : Counter := 0
  collisions : Counter := 0
  configWritesIgnored : Counter := 0
  configChecks : Counter := 0
  configCorruptSeen : Counter := 0
  groupFaultEdges : Counter := 0
  eventsOverwritten : Counter := 0
  noticesIssued : Counter := 0
  noticesLost : Counter := 0
  deriving DecidableEq, Repr

/-- Every counter of the station; a reset sets all of them to 0 (R182, R184). -/
structure Counters where
  pos : PositionCounters := {}
  taps : Vector TapCounters 2 := Vector.replicate 2 {}
  trunk : TrunkCounters := {}
  queue : QueueCounters := {}
  mem : MembershipCounters := {}
  frames : FrameCounters := {}
  delivery : DeliveryCounters := {}
  records : RecordCounters := {}
  inputs : Vector InputCounters 4 := Vector.replicate 4 {}
  outputs : Vector OutputCounters 4 := Vector.replicate 4 {}
  signals : SignalCounters := {}
  window : WindowCounters := {}
  /-- the raise counters, in the order of R178 -/
  raises : Vector Counter 16 := Vector.replicate 16 0
  deriving DecidableEq, Repr

end Sys2Proof.Machine
end

