-- ==== Sys2Proof/Machine/Bits.lean ====
section
/-! DEFINITION. Bit fields, sets of stations, the two CRCs (R186, R187) and the comparisons of counts and sequences. -/

namespace Sys2Proof.Machine

/-! ### Cells: a field on the trunk, most significant bit first (R39) -/

def cellsOf {w : Nat} (x : BitVec w) : List Bool := (List.range w).map x.getMsbD

def cellsValue (cells : List Bool) : Nat := cells.foldl (fun n b => 2 * n + b.toNat) 0

/-- Takes a field of `w` cells from the front; none when too few cells are left. -/
def takeField (w : Nat) (cells : List Bool) : Option (BitVec w × List Bool) :=
  if w ≤ cells.length then some (BitVec.ofNat w (cellsValue (cells.take w)), cells.drop w) else none

/-! ### Bytes -/

def byteOf (n : Nat) : Byte := BitVec.ofNat 8 n

/-- The `count` low bytes of `n`, little-endian (11_formats.md). -/
def bytesLE : Nat → Nat → List Byte
  | 0, _ => []
  | count + 1, n => byteOf n :: bytesLE count (n / 256)

/-! ### Checks -/

/-- One cell of the note check (R186). -/
def crc8Step (r : Byte) (b : Bool) : Byte :=
  if b != r.getMsbD 0 then (r <<< 1) ^^^ 0x07#8 else r <<< 1

/-- The check of a note over its header and payload cells (R186). -/
def noteCheck (cells : List Bool) : Byte := cells.foldl crc8Step 0xFF#8

/-- One bit of the 16-bit CRC (R187). -/
def crc16Step (r : BitVec 16) (b : Bool) : BitVec 16 :=
  if b != r.getMsbD 0 then (r <<< 1) ^^^ 0x1021#16 else r <<< 1

/-- The 16-bit CRC of bytes in order, each from bit 7 down (R187). -/
def crc16 (bytes : List Byte) : BitVec 16 :=
  bytes.foldl (fun r b => (cellsOf b).foldl crc16Step r) 0xFFFF#16

/-! ### Sets of stations (00_scope.md, "Sets and lists") -/

def hasStation (m : StationSet) (p : Station) : Bool := m.getLsbD p.val

def addStation (m : StationSet) (p : Station) : StationSet := m ||| (1#8 <<< p.val)

def dropStation (m : StationSet) (p : Station) : StationSet := m &&& ~~~(1#8 <<< p.val)

def lowestStation (m : StationSet) : Option Station := (List.finRange 8).find? (hasStation m)

/-! ### Comparisons -/

/-- Sequence `a` is at or below sequence `b` (R101). -/
def seqAtOrBelow (a b : Byte) : Bool := decide ((b - a).toNat ≤ 127)

/-- Sequence `a` is below sequence `b` (R101). -/
def seqBelow (a b : Byte) : Bool := decide (1 ≤ (b - a).toNat) && seqAtOrBelow a b

/-- Sequence `a` is above sequence `b` (R101). -/
def seqAbove (a b : Byte) : Bool := !seqAtOrBelow a b

/-- The signed 32-bit difference `a` minus `b` is 0 or more (R5). -/
def countReached (a b : Word) : Bool := decide (0 ≤ (a - b).toInt)

/-- The magnitude of the signed 32-bit difference (R86). -/
def countDistance (a b : Word) : Nat := (a - b).toInt.natAbs

/-! ### Codes (11_formats.md) -/

def NoteKind.code : NoteKind → Fin 8
  | .signal => 0 | .drop => 1 | .opening => 2 | .done => 3 | .gate => 4 | .grant => 5 | .roll => 6 | .roster => 7

/-- The kinds from the lowest code (R57). -/
def NoteKind.all : List NoteKind := [.signal, .drop, .opening, .done, .gate, .grant, .roll, .roster]

def Note.kind : Note → NoteKind
  | .signal .. => .signal | .drop .. => .drop | .opening .. => .opening | .done .. => .done | .gate .. => .gate
  | .grant .. => .grant | .roll .. => .roll | .rosterJoin .. => .roster | .rosterLeave => .roster

def Claim.kind : Claim → NoteKind
  | .signal .. => .signal | .drop .. => .drop | .opening .. => .opening | .done .. => .done | .gate .. => .gate
  | .grant .. => .grant | .roll => .roll | .rosterJoin => .roster | .rosterLeave => .roster

def FaultKind.bit : FaultKind → Fin 16
  | .encoder => 0 | .skew => 1 | .stretch => 2 | .stall => 3 | .noise => 4 | .vetoRun => 5 | .duplicate => 6
  | .desync => 7 | .configCorrupt => 8 | .configMismatch => 9 | .link => 10 | .poolOverrun => 11
  | .signalOverrun => 12 | .markOverrun => 13 | .dropped => 14 | .grantLost => 15

def StationState.code : StationState → Nat
  | .unconfigured => 0 | .configured => 1 | .listening => 2 | .joining => 3 | .member => 4 | .leaving => 5 | .lapsed => 6

def Result.code : Result → Nat
  | .accepted => 0 | .refusedBusy => 1 | .refusedState => 2 | .refusedArgument => 3 | .refusedNotHome => 4
  | .refusedFull => 5

end Sys2Proof.Machine
end

