-- ==== Sys2Proof/Machine/NoteFormat.lean ====
section
/-! DEFINITION. Notes on the trunk: the cells a sender drives and what a receiver reads (11_formats.md, "Notes on the
trunk"; R39, R46, R73, R186). -/

namespace Sys2Proof.Machine

/-! ### Writing -/

def flagCell (b : Bool) : List Bool := [b]

def originCode : Origin → BitVec 3
  | .sin input => BitVec.ofNat 3 input.val
  | .host => 4

def steerCells : Option Steer → List Bool
  | none => [false]
  | some e => true :: (cellsOf (BitVec.ofNat 3 e.channel.val) ++ cellsOf e.seq ++ cellsOf e.base)

def entriesCells : StreamEntries → List Bool
  | .one e0 => cellsOf 1#2 ++ steerCells e0
  | .two e0 e1 => cellsOf 2#2 ++ steerCells e0 ++ steerCells e1

def rollChannelCells (c : RollChannel) : List Bool := flagCell c.complete ++ cellsOf c.nextSeq ++ cellsOf c.queueLength

def rollCells (r : Roll) : List Bool :=
  cellsOf r.groupCount ++ cellsOf r.roster ++ cellsOf (if r.gateOpen then 2#2 else 1#2) ++ cellsOf r.gateFrame
    ++ cellsOf r.h ++ cellsOf r.digest ++ flagCell r.faultSummary
    ++ cellsOf (BitVec.ofNat 4 r.occupied.length) ++ r.occupied.flatMap (fun f => cellsOf f)
    ++ cellsOf (BitVec.ofNat 4 r.channels.length) ++ r.channels.flatMap rollChannelCells

/-- The payload cells of a note (11_formats.md). -/
def payloadCells : Note → List Bool
  | .signal id level origin line => cellsOf id ++ flagCell level ++ cellsOf (originCode origin) ++ cellsOf line
  | .drop p => cellsOf (BitVec.ofNat 3 p.val)
  | .opening frame mask entries => cellsOf frame ++ cellsOf mask ++ entriesCells entries
  | .done frame stream delivered gapRows =>
    cellsOf frame ++ flagCell (decide (stream = 1)) ++ cellsOf (if delivered then 1#2 else 2#2) ++ cellsOf gapRows
  | .gate isOpen frame => cellsOf (if isOpen then 2#2 else 1#2) ++ cellsOf frame
  | .grant channel seq base => cellsOf (BitVec.ofNat 3 channel.val) ++ cellsOf seq ++ cellsOf base
  | .roll r => rollCells r
  | .rosterJoin digest founding => cellsOf 1#2 ++ cellsOf digest ++ flagCell founding
  | .rosterLeave => cellsOf 2#2

/-- Header and payload, over which the check runs (R186). -/
def bodyCells (sender : Station) (n : Note) : List Bool :=
  cellsOf (BitVec.ofNat 3 n.kind.code.val) ++ cellsOf (BitVec.ofNat 3 sender.val) ++ payloadCells n

/-- All the data cells of a note (R39). -/
def noteCells (sender : Station) (n : Note) : List Bool := bodyCells sender n ++ cellsOf (noteCheck (bodyCells sender n))

/-! ### Reading: a reserved value or too few cells makes the note faulty (R46, R73, R186) -/

def readFlag : List Bool → Option (Bool × List Bool)
  | [] => none
  | b :: rest => some (b, rest)

def readStation (cells : List Bool) : Option (Fin 8 × List Bool) :=
  (takeField 3 cells).map fun (x, rest) => (x.toFin, rest)

def readOrigin (cells : List Bool) : Option (Origin × List Bool) :=
  (takeField 3 cells).bind fun (x, rest) =>
    if h : x.toNat < 4 then some (.sin ⟨x.toNat, h⟩, rest) else if x = 4#3 then some (.host, rest) else none

def readSteer (cells : List Bool) : Option (Option Steer × List Bool) :=
  (readFlag cells).bind fun (steered, rest) =>
    if steered then
      (readStation rest).bind fun (channel, rest) => (takeField 8 rest).bind fun (seq, rest) =>
        (takeField 40 rest).map fun (base, rest) => (some { channel, seq, base }, rest)
    else some (none, rest)

def readEntries (cells : List Bool) : Option (StreamEntries × List Bool) :=
  (takeField 2 cells).bind fun (count, rest) =>
    if count = 1#2 then (readSteer rest).map fun (e0, rest) => (.one e0, rest)
    else if count = 2#2 then
      (readSteer rest).bind fun (e0, rest) => (readSteer rest).map fun (e1, rest) => (.two e0 e1, rest)
    else none

/-- A two-cell code whose legal values are 1 and 2: true for the second. -/
def readCode12 (cells : List Bool) : Option (Bool × List Bool) :=
  (takeField 2 cells).bind fun (code, rest) =>
    if code = 1#2 then some (false, rest) else if code = 2#2 then some (true, rest) else none

def readRollChannel (cells : List Bool) : Option (RollChannel × List Bool) :=
  (readFlag cells).bind fun (complete, rest) => (takeField 8 rest).bind fun (nextSeq, rest) =>
    (takeField 5 rest).bind fun (queueLength, rest) =>
      if queueLength.toNat ≤ 16 then some ({ complete, nextSeq, queueLength }, rest) else none

def readMany {α : Type} (readOne : List Bool → Option (α × List Bool)) : Nat → List Bool → Option (List α × List Bool)
  | 0, cells => some ([], cells)
  | n + 1, cells =>
    (readOne cells).bind fun (x, rest) => (readMany readOne n rest).map fun (xs, rest) => (x :: xs, rest)

def readRoll (cells : List Bool) : Option (Note × List Bool) :=
  (takeField 32 cells).bind fun (groupCount, rest) => (takeField 8 rest).bind fun (roster, rest) =>
  (readCode12 rest).bind fun (gateOpen, rest) => (takeField 16 rest).bind fun (gateFrame, rest) =>
  (takeField 16 rest).bind fun (h, rest) => (takeField 16 rest).bind fun (digest, rest) =>
  (readFlag rest).bind fun (faultSummary, rest) => (takeField 4 rest).bind fun (occupiedCount, rest) =>
  if occupiedCount.toNat ≤ 8 then
    (readMany (takeField 16) occupiedCount.toNat rest).bind fun (occupied, rest) =>
    (takeField 4 rest).bind fun (channelCount, rest) =>
    if 1 ≤ channelCount.toNat ∧ channelCount.toNat ≤ 8 then
      (readMany readRollChannel channelCount.toNat rest).map fun (channels, rest) =>
        (.roll { groupCount, roster, gateOpen, gateFrame, h, digest, faultSummary, occupied, channels }, rest)
    else none
  else none

/-- The payload of a kind, with the cells that follow it. -/
def readPayload (kind : BitVec 3) (cells : List Bool) : Option (Note × List Bool) :=
  match kind.toNat with
  | 0 =>
    (takeField 4 cells).bind fun (id, rest) => (readFlag rest).bind fun (level, rest) =>
    (readOrigin rest).bind fun (origin, rest) => (takeField 32 rest).map fun (line, rest) =>
      (.signal id level origin line, rest)
  | 1 => (readStation cells).map fun (p, rest) => (.drop p, rest)
  | 2 =>
    (takeField 16 cells).bind fun (frame, rest) => (takeField 8 rest).bind fun (mask, rest) =>
    (readEntries rest).map fun (entries, rest) => (.opening frame mask entries, rest)
  | 3 =>
    (takeField 16 cells).bind fun (frame, rest) => (readFlag rest).bind fun (stream, rest) =>
    (readCode12 rest).bind fun (void, rest) => (takeField 17 rest).map fun (gapRows, rest) =>
      (.done frame (if stream then 1 else 0) (!void) gapRows, rest)
  | 4 => (readCode12 cells).bind fun (isOpen, rest) => (takeField 16 rest).map fun (frame, rest) =>
      (.gate isOpen frame, rest)
  | 5 =>
    (readStation cells).bind fun (channel, rest) => (takeField 8 rest).bind fun (seq, rest) =>
    (takeField 40 rest).map fun (base, rest) => (.grant channel seq base, rest)
  | 6 => readRoll cells
  | _ =>
    (readCode12 cells).bind fun (leave, rest) =>
      if leave then some (.rosterLeave, rest)
      else (takeField 16 rest).bind fun (digest, rest) => (readFlag rest).map fun (founding, rest) =>
        (.rosterJoin digest founding, rest)

/-- A note as a receiver reads it from its data cells: none when it is faulty (R46). -/
def readNote (cells : List Bool) : Option (Station × Note) :=
  (takeField 3 cells).bind fun (kind, rest) => (readStation rest).bind fun (sender, rest) =>
  (readPayload kind rest).bind fun (note, rest) =>
    if rest = cellsOf (noteCheck (cells.take (cells.length - 8))) then some (sender, note) else none

/-- A note whose count fields are legal: the only notes that a station composes (R71, R73). -/
def Note.wf : Note → Bool
  | .roll r => decide (r.occupied.length ≤ 8) && decide (1 ≤ r.channels.length) && decide (r.channels.length ≤ 8)
      && r.channels.all (fun c => decide (c.queueLength.toNat ≤ 16))
  | .signal .. | .drop .. | .opening .. | .done .. | .gate .. | .grant .. | .rosterJoin .. | .rosterLeave => true

end Sys2Proof.Machine
end

