-- ==== Sys2Proof/Config.lean ====
section
/-! DEFINITION. The free values: what the manual leaves open and the machine goes on. None has a body, so no proof can
see a value of one. Each is applied to a plain counter in the state (`State.draws`), fresh at each use. -/

namespace Sys2Proof

/-- Which free slot the line pool takes (R31: "which free slot is taken is the pool's choice"), as a place in the free
set, taken modulo its size (log 6). -/
opaque Config.poolChoice : Nat → Nat

/-- Whether tap 1 is served before tap 0 when the two take one trigger record (R7, R32; log 7). -/
opaque Config.tapOneFirst : Nat → Bool

/-- Whether the orphan rule (R111) is judged before the sole-member rule (R112) on an event that calls for both
(log 8). -/
opaque Config.orphanFirst : Nat → Bool

end Sys2Proof
end

