-- ==== Sys2Proof/Machine/Memory.lean ====
section
/-! DEFINITION. The addressed store of the block: the configuration area (R174), as a list of (offset, byte) pairs in
one canonical form. An unlisted offset reads 0, the contents after a power-on or station reset (R182). -/

namespace Sys2Proof.Machine

abbrev Memory := List Host.Cell

/-- What an unlisted offset reads as (R182: "every byte is 0"). -/
def Memory.unlisted : Byte := 0

/-- The canonical form: offsets strictly rising, no listed byte equal to what an unlisted offset reads as. -/
def Memory.wf : Memory → Bool
  | [] => true
  | (a, v) :: rest => decide (v ≠ Memory.unlisted) && rest.all (fun c => decide (a < c.1)) && Memory.wf rest

def Memory.read : Memory → Nat → Byte
  | [], _ => Memory.unlisted
  | (b, w) :: rest, a => if a = b then w else Memory.read rest a

def Memory.write : Memory → Nat → Byte → Memory
  | [], a, v => if v = Memory.unlisted then [] else [(a, v)]
  | (b, w) :: rest, a, v =>
    if a < b then (if v = Memory.unlisted then (b, w) :: rest else (a, v) :: (b, w) :: rest)
    else if a = b then (if v = Memory.unlisted then rest else (a, v) :: rest)
    else (b, w) :: Memory.write rest a v

/-- Writes in order. -/
def Memory.writeAll (m : Memory) (cells : List Host.Cell) : Memory :=
  cells.foldl (fun m c => m.write c.1 c.2) m

/-- The four bytes of a word at an offset, little-endian (11_formats.md). -/
def wordCells (offset : Nat) (value : Word) : List Host.Cell :=
  [(offset, value.extractLsb' 0 8), (offset + 1, value.extractLsb' 8 8), (offset + 2, value.extractLsb' 16 8),
   (offset + 3, value.extractLsb' 24 8)]

/-! Fields of one, two, four and eight bytes, little-endian (11_formats.md). -/

def Memory.u8 (m : Memory) (a : Nat) : Nat := (m.read a).toNat

def Memory.u16 (m : Memory) (a : Nat) : Nat := m.u8 a + 256 * m.u8 (a + 1)

def Memory.u32 (m : Memory) (a : Nat) : Nat := m.u16 a + 65536 * m.u16 (a + 2)

def Memory.u64 (m : Memory) (a : Nat) : Nat := m.u32 a + 4294967296 * m.u32 (a + 4)

end Sys2Proof.Machine
end

