-- ==== Sys2Proof/Machine/State.lean ====
section
/-! DEFINITION. The state of the station, the reasons a step can stop, and the state after a power-on reset (R182). -/

namespace Sys2Proof.Machine

structure State where
  /-- the commands that wait, the next one first (log 3) -/
  pending : List Instr
  /-- the moment of the latest command (log 1) -/
  now : Moment
  /-- how many free values have been drawn (log 6, 7, 8) -/
  draws : Nat
  /-- the request the host write port issued last (R125; log 37) -/
  lastRequest : Option Request
  pos : Position
  taps : Vector TapState 2
  /-- the free low mark (R31) -/
  freeLow : Nat
  trunk : Trunk
  tx : TransmitQueue
  mem : Membership
  frames : FrameUnit
  delivery : Delivery
  records : Records
  signals : Signals
  window : Window
  ctr : Counters
  deriving DecidableEq, Repr

/-- Why a step stops with a fault: never. The manual's faults are sticky flags of the state (R178), and no command of
the table stops the station. -/
inductive Fault
  deriving DecidableEq, Repr

/-- Why a step refuses. -/
inductive Refusal
  /-- Raised by `exec` alone, for a command that has no meaning yet; safe. No arm of `exec` raises it now. -/
  | notModelled (mnemonic : String)
  deriving DecidableEq, Repr

/-- The position unit after a power-on or station reset (R13). -/
def Position.reset : Position :=
  { raw := 0, offset := 0, reference := none, latch := none, mode := .stopped, w := 0, lineIndex := 0, nextDue := 0,
    lastIssue := none, indexEnd := false, leftFrame := 0, strobes := Vector.replicate 4 none }

/-- A tap after a reset (R35). -/
def TapState.reset : TapState :=
  { triggers := [], expected := 0, primed := false, port := .idle, lines := [], pulse := none }

/-- The trunk port after a power-on or station reset (R55). -/
def Trunk.reset : Trunk := { view := .detached, wire := none, queue := [], vetoRun := 0, stalled := false }

/-- An empty transmit queue (R57). -/
def TransmitQueue.reset : TransmitQueue := { lists := Vector.replicate 8 [], held := none }

/-- The membership unit after a power-on or station reset (R77). -/
def Membership.reset : Membership :=
  { state := .unconfigured, number := none, roster := 0, peers := Vector.replicate 8 none,
    silence := Vector.replicate 8 .stopped, roll := .stopped, listen := .stopped, joinFrame := 0, heardRoll := false,
    latestDigest := none, leavingByReset := false, lapsedAt := none }

/-- A channel with nothing in it (R102). -/
def Channel.reset : Channel := { queue := [], complete := false, blind := none, nextSeq := 0, lastSeen := none }

/-- The frame unit after a reset (R107, R120). -/
def FrameUnit.reset : FrameUnit :=
  { slots := Vector.replicate 8 .free, h := 0, gateOpen := false, gateFrame := 0, resume := none,
    channels := Vector.replicate 8 Channel.reset, rotation := Vector.replicate 2 none, founded := false,
    lostGrant := none }

/-- The delivery engine and the port after a power-on reset (R123, R124, R126, R136, R142); the link is up (log 5). -/
def Delivery.reset : Delivery :=
  { handled := Vector.replicate 2 0, waiting := Vector.replicate 2 false,
    store := Vector.replicate 2 (Vector.replicate 4 none), turn := none, lastTap := 1, port := [], linkUp := true,
    flushCount := 0 }

/-- An empty record queue (R156). -/
def Records.reset : Records := { queue := [], step := .idle }

/-- An output after a reset (R170). -/
def Output.reset : Output := { ranges := [], changes := [], follow := false, lastApplied := none, manual := false }

/-- The signal unit after a power-on or station reset (R158, R170). -/
def Signals.reset : Signals :=
  { filtered := Vector.replicate 4 none, sampled := Vector.replicate 4 none, outputs := Vector.replicate 4 Output.reset }

/-- The window after a power-on reset (R182). -/
def Window.reset : Window :=
  { area := [], digest := 0, taking := none, command := 0, args := Vector.replicate 4 0,
    result := { code := 0, result := .accepted, value := 0, done := true }, collision := false, faults := 0,
    events := [{ number := 1, kind := .reset }], eventNumber := 1, tkflt := none, nextCheck := none }

/-- The station right after a power-on reset (R182). -/
def State.reset : State :=
  { pending := [], now := 0, draws := 0, lastRequest := none, pos := Position.reset,
    taps := Vector.replicate 2 TapState.reset, freeLow := 256, trunk := Trunk.reset, tx := TransmitQueue.reset,
    mem := Membership.reset, frames := FrameUnit.reset, delivery := Delivery.reset, records := Records.reset,
    signals := Signals.reset, window := Window.reset, ctr := {} }

end Sys2Proof.Machine
end

