-- ==== Sys2Proof/Machine/Operands.lean ====
section
/-! DEFINITION. The configured quantities, read from the configuration area by its layout (11_formats.md,
"Configuration record"), the checks of ACCEPT-CONFIG (R175), the digest (R176), and the quantities derived from the
configuration and the state: frame, row, plane, address, resolved index. -/

namespace Sys2Proof.Machine

abbrev State.area (s : State) : Memory := s.window.area

/-! ### Group part -/

/-- D, encoder counts per line. -/
def cfgD (a : Memory) : Nat := a.u16 0x000

/-- L, frame length in lines. -/
def cfgL (a : Memory) : Nat := a.u16 0x002

/-- P, number of phases. -/
def cfgP (a : Memory) : Nat := a.u8 0x004

def cfgStreams (a : Memory) : Nat := a.u8 0x005

inductive FillPolicy
  | zero | repeated | skip
  deriving DecidableEq, Repr

def cfgFill (a : Memory) : FillPolicy := match a.u8 0x006 with | 1 => .repeated | 2 => .skip | _ => .zero

/-- T, the bit time of the trunk, in ns (03_trunk_signalling_and_arbitration.md). -/
def cfgBitTime (a : Memory) : Nat := match a.u8 0x007 with | 0 => 8000 | 1 => 4000 | 2 => 2000 | _ => 1000

/-- The stream of a phase, or none. -/
def cfgPhaseStream (a : Memory) (p : Nat) : Option (Fin 2) :=
  if p < 4 then (match a.u8 (0x008 + p) with | 0 => some 0 | 1 => some 1 | _ => none) else none

def cfgSkew (a : Memory) : Nat := a.u8 0x00C

/-- Strobe width in ns. -/
def cfgStrobeWidth (a : Memory) : Nat := a.u8 0x00D * 100

/-- R in ns. -/
def cfgR (a : Memory) : Nat := a.u8 0x00E * 1000000

def cfgChannels (a : Memory) : Nat := a.u8 0x00F

def cfgLegTimeout (a : Memory) : Nat := a.u16 0x010 * 1000000

def cfgCheckInterval (a : Memory) : Nat := a.u16 0x012 * 1000000

def cfgTriggerTimeout (a : Memory) : Nat := a.u16 0x014 * 1000

def cfgLinePeriod (a : Memory) : Nat := a.u16 0x016 * 100

def cfgPitch (a : Memory) (stream : Fin 2) : Nat := a.u32 (0x018 + 4 * stream.val)

def cfgChannelAt (c : Nat) : Nat := 0x020 + 24 * c

def cfgChannelStream (a : Memory) (c : Fin 8) : Nat := a.u8 (cfgChannelAt c)

def cfgHome (a : Memory) (c : Fin 8) : Nat := a.u8 (cfgChannelAt c + 1)

def cfgMessageData (a : Memory) (c : Fin 8) : Word := BitVec.ofNat 32 (a.u32 (cfgChannelAt c + 4))

def cfgRingBase (a : Memory) (c : Fin 8) : Nat := a.u64 (cfgChannelAt c + 8)

def cfgMessageAddress (a : Memory) (c : Fin 8) : Nat := a.u64 (cfgChannelAt c + 0x10)

def cfgLayoutAt (station : Nat) (tap : Nat) : Nat := 0x0E0 + 12 * (2 * station + tap)

def cfgPresent (a : Memory) (station tap : Nat) : Bool := a.u8 (cfgLayoutAt station tap) != 0

def cfgWidth (a : Memory) (station tap : Nat) : Nat := a.u16 (cfgLayoutAt station tap + 2)

def cfgColumn (a : Memory) (station tap : Nat) (stream : Nat) : Nat := a.u32 (cfgLayoutAt station tap + 4 + 4 * stream)

/-! ### Station part -/

def cfgOverride (a : Memory) : Option Nat := if a.u8 0x200 = 0xFF then none else some (a.u8 0x200)

inductive TapMode
  | off | live | pattern
  deriving DecidableEq, Repr

def cfgTapMode (a : Memory) (tap : Tap) : TapMode :=
  match a.u8 (0x201 + tap.val) with | 1 => .live | 2 => .pattern | _ => .off

/-- The ramp pattern is selected (R28). -/
def cfgRamp (a : Memory) (tap : Tap) : Bool := a.u8 (0x203 + tap.val) == 1

def cfgMaxPayload (a : Memory) : Nat := match a.u8 0x205 with | 0 => 128 | 1 => 256 | _ => 512

def cfgAutoRejoin (a : Memory) : Bool := (a.read 0x206).getLsbD 0

def cfgStateNotice (a : Memory) : Bool := (a.read 0x207).getLsbD 0

def cfgGroupFaultNotice (a : Memory) : Bool := (a.read 0x207).getLsbD 1

/-- Whether the strobe mask of a phase names a strobe output (R8). -/
def cfgStrobeNamed (a : Memory) (phase : Nat) (strobe : Fin 4) : Bool := (a.read (0x208 + phase)).getLsbD strobe.val

def cfgFaultNotices (a : Memory) : BitVec 16 := BitVec.ofNat 16 (a.u16 0x20C)

def cfgFaultLines (a : Memory) : BitVec 16 := BitVec.ofNat 16 (a.u16 0x20E)

def cfgNoticeAddress (a : Memory) : Nat := a.u64 0x210

def cfgNoticeData (a : Memory) : Word := BitVec.ofNat 32 (a.u32 0x218)

def cfgInputAt (i : Fin 4) : Nat := 0x220 + 4 * i.val

def cfgInputId (a : Memory) (i : Fin 4) : BitVec 4 := (a.read (cfgInputAt i)).extractLsb' 0 4

def cfgInputOff (a : Memory) (i : Fin 4) : Bool := (a.read (cfgInputAt i)).getLsbD 7

/-- Whether the edge selection includes a rise (`level` true) or a fall. -/
def cfgInputEdge (a : Memory) (i : Fin 4) (level : Bool) : Bool :=
  (a.read (cfgInputAt i + 1)).getLsbD (if level then 0 else 1)

def cfgInputFilter (a : Memory) (i : Fin 4) : Nat := a.u8 (cfgInputAt i + 2) * 1000

inductive OutputMode
  | off | pulse | follow | manual
  deriving DecidableEq, Repr

def cfgOutputAt (j : Fin 4) : Nat := 0x230 + 8 * j.val

def cfgOutputMode (a : Memory) (j : Fin 4) : OutputMode :=
  match a.u8 (cfgOutputAt j) with | 1 => .pulse | 2 => .follow | 3 => .manual | _ => .off

def cfgOutputId (a : Memory) (j : Fin 4) : BitVec 4 := (a.read (cfgOutputAt j + 1)).extractLsb' 0 4

def cfgActiveLow (a : Memory) (j : Fin 4) : Bool := (a.read (cfgOutputAt j + 2)).getLsbD 0

def cfgOutputOffset (a : Memory) (j : Fin 4) : Nat := a.u16 (cfgOutputAt j + 4)

def cfgOutputWidth (a : Memory) (j : Fin 4) : Nat := a.u16 (cfgOutputAt j + 6)

/-! ### The checks of ACCEPT-CONFIG (R175) -/

def within (low high x : Nat) : Bool := decide (low ≤ x) && decide (x ≤ high)

def multipleOf (m x : Nat) : Bool := x % m == 0

/-- The sixteen layout entries, as station and tap. -/
def layoutPlaces : List (Nat × Nat) := (List.range 16).map fun i => (i / 2, i % 2)

/-- The column ranges of the present layout entries in a stream, as first and past-the-last byte. -/
def columnRanges (a : Memory) (stream : Nat) : List (Nat × Nat) :=
  (layoutPlaces.filter fun e => cfgPresent a e.1 e.2).map fun e =>
    (cfgColumn a e.1 e.2 stream, cfgColumn a e.1 e.2 stream + cfgWidth a e.1 e.2)

def disjointRanges : List (Nat × Nat) → Bool
  | [] => true
  | r :: rest => rest.all (fun q => decide (r.2 ≤ q.1) || decide (q.2 ≤ r.1)) && disjointRanges rest

def configCheck1 (a : Memory) : Bool :=
  within 1 256 (cfgD a) && within 1 4 (cfgP a) && within 16 32768 (cfgL a) && multipleOf (cfgP a) (cfgL a)

def configCheck2 (a : Memory) : Bool :=
  within 2 100 (a.u8 0x00E) && within 1 1000 (a.u16 0x010) && within 10 65535 (a.u16 0x014)
    && within 1 65535 (a.u16 0x016) && within 10 1000 (a.u16 0x012)

def configCheck3 (a : Memory) : Bool :=
  within 0 3 (a.u8 0x007) && within 0 255 (cfgSkew a) && within 1 255 (a.u8 0x00D) && within 0 2 (a.u8 0x006)

def configCheck4 (a : Memory) : Bool :=
  within 1 2 (cfgStreams a)
    && (List.range 4).all (fun p =>
      let x := a.u8 (0x008 + p)
      if p < cfgP a then decide (x < cfgStreams a) || x == 0xFF else x == 0xFF)
    && (List.range (cfgStreams a)).all (fun st => (List.range (cfgP a)).any fun p => a.u8 (0x008 + p) == st)

def configCheck5 (a : Memory) : Bool :=
  (List.range (cfgStreams a)).all fun st => multipleOf 16 (a.u32 (0x018 + 4 * st)) && within 16 131072 (a.u32 (0x018 + 4 * st))

def configCheck6 (a : Memory) : Bool :=
  within 1 8 (cfgChannels a) && (List.range (cfgChannels a)).all fun c =>
    let at_ := cfgChannelAt c
    decide (a.u8 at_ < cfgStreams a) && within 0 7 (a.u8 (at_ + 1)) && multipleOf 1024 (a.u64 (at_ + 8))
      && decide (a.u64 (at_ + 8) < 2 ^ 52) && multipleOf 4 (a.u64 (at_ + 0x10))

def configCheck7 (a : Memory) : Bool :=
  (List.range (cfgStreams a)).all fun st => (List.range (cfgChannels a)).any fun c => a.u8 (cfgChannelAt c) == st

def configCheck8 (a : Memory) : Bool :=
  layoutPlaces.all fun e => !cfgPresent a e.1 e.2 || (multipleOf 16 (cfgWidth a e.1 e.2) && within 16 8192 (cfgWidth a e.1 e.2))

def configCheck9 (a : Memory) : Bool :=
  (List.range (cfgStreams a)).all fun st =>
    (columnRanges a st).all (fun r => multipleOf 16 r.1 && decide (r.2 ≤ a.u32 (0x018 + 4 * st)))
      && disjointRanges (columnRanges a st)

/-- Every output's width is judged, whatever its mode (log 31). -/
def configCheck10 (a : Memory) : Bool :=
  (match cfgOverride a with | none => true | some n => within 0 7 n)
    && within 0 2 (a.u8 0x201) && within 0 2 (a.u8 0x202) && within 0 1 (a.u8 0x203) && within 0 1 (a.u8 0x204)
    && within 0 2 (a.u8 0x205)
    && (List.finRange 4).all (fun j => within 0 3 (a.u8 (cfgOutputAt j)) && within 1 65535 (cfgOutputWidth a j))

/-- The checks in the order of R175. -/
def configChecks (a : Memory) : List Bool :=
  [configCheck1 a, configCheck2 a, configCheck3 a, configCheck4 a, configCheck5 a, configCheck6 a, configCheck7 a,
   configCheck8 a, configCheck9 a, configCheck10 a]

/-- The number of the first check that fails (R175). -/
def failedCheck (a : Memory) : Option Nat := ((configChecks a).findIdx? (fun ok => !ok)).map (· + 1)

/-- The digest over bytes 000h to 19Fh (R176, R187). -/
def configDigest (a : Memory) : BitVec 16 := crc16 ((List.range 0x1A0).map a.read)

/-! ### Lines, frames, rows and planes -/

/-- The last line the position unit handles (R11). -/
def lastLine (a : Memory) : Nat := ((2 ^ 32 - 1) / cfgD a + 1) / cfgL a * cfgL a - 1

/-- The frame of a line (R9). -/
def frameOf (a : Memory) (line : Nat) : Nat := line / cfgL a

def phaseOf (a : Memory) (line : Nat) : Nat := line % cfgP a

/-- The current frame (R9): the frame of the line index, and in STOPPED the value that the unit left, whatever the open
area holds by then (R4; log 65). -/
def Position.currentFrame (p : Position) (a : Memory) : Nat :=
  match p.mode with
  | .stopped => p.leftFrame
  | .tracking | .issuing => frameOf a p.lineIndex

def State.currentFrame (s : State) : Nat := s.pos.currentFrame s.area

/-- The unit enters STOPPED, or stays there, and keeps its current frame (R4). -/
def Position.stop (p : Position) (a : Memory) : Position := { p with mode := .stopped, leftFrame := p.currentFrame a }

/-- The stream of a line's phase (R9, R131). -/
def streamOf (a : Memory) (line : Nat) : Option (Fin 2) := cfgPhaseStream a (phaseOf a line)

/-- The phases of a stream, in increasing number. -/
def streamPhases (a : Memory) (stream : Fin 2) : List Nat :=
  (List.range (cfgP a)).filter fun p => cfgPhaseStream a p == some stream

/-- The rank of a line's phase among the phases of its stream (R131). -/
def planeOf (a : Memory) (stream : Fin 2) (line : Nat) : Nat :=
  ((streamPhases a stream).filter fun p => p < phaseOf a line).length

/-- The address of a tap's row (R131). -/
def rowAddress (a : Memory) (station : Station) (tap : Tap) (stream : Fin 2) (base : Page) (line : Nat) : Nat :=
  base.toNat * 4096 + planeOf a stream line * (cfgL a / cfgP a) * cfgPitch a stream
    + (line % cfgL a / cfgP a) * cfgPitch a stream + cfgColumn a station tap stream

/-- The slot of a frame (R96). -/
def slotOf (frame : Nat) : Fin 8 := ⟨frame % 8, Nat.mod_lt _ (by decide)⟩

/-- A received 16-bit frame number extended by a reference frame (R74; log 32). -/
def extendFrame (a : Memory) (reference : Nat) (f : BitVec 16) : Nat :=
  let d := (f.toNat + 65536 - reference % 65536) % 65536
  let near := if d ≤ 32767 ∨ reference + d < 65536 then reference + d else reference + d - 65536
  if frameOf a (lastLine a) < near then near - 65536 else near

/-! ### The station and its taps -/

/-- The station's own number (R77). -/
def State.self (s : State) : Station := s.mem.number.getD 0

def State.configured (s : State) : Bool := s.mem.state != .unconfigured

/-- The effective mode of a tap (R17). -/
def State.tapMode (s : State) (t : Tap) : TapMode :=
  if s.configured && cfgPresent s.area s.self t then cfgTapMode s.area t else .off

/-- The layout width of a tap (R17). -/
def State.tapWidth (s : State) (t : Tap) : Nat := cfgWidth s.area s.self t

/-- The group count (R3). -/
def State.groupCount (s : State) : Word := s.pos.raw + s.pos.offset

/-- The resolved index of a tap (R30; R17 for a tap that is OFF). -/
def State.resolved (s : State) (t : Tap) : Nat :=
  match s.taps[t].triggers with
  | [] => s.pos.lineIndex
  | e :: _ => e.index - 1

/-- Frame k is allowed by the gate record (R100). -/
def State.allowed (s : State) (k : Nat) : Bool :=
  if s.frames.gateOpen then decide (s.frames.gateFrame ≤ k) else decide (k < s.frames.gateFrame)

/-- Delivery is closed (R141, R142). -/
def State.closed (s : State) : Bool :=
  s.mem.state == .lapsed || (s.mem.state == .leaving && s.mem.leavingByReset)

/-- The station takes part in the trunk (R37). -/
def takesPart : StationState → Bool
  | .unconfigured | .configured => false
  | .listening | .joining | .member | .leaving | .lapsed => true

/-- The station may veto (R37). -/
def mayVeto : StationState → Bool
  | .unconfigured | .configured | .lapsed => false
  | .listening | .joining | .member | .leaving => true

end Sys2Proof.Machine
end

