-- ==== Sys2Proof/Machine/Flags.lean ====
section
/-! DEFINITION. Counters, the fault flags (R178), the event list and the notices (R181), the pull on TKFLT (R180), and
the result word (R172). -/

namespace Sys2Proof.Machine

/-- Counts. -/
def State.bump (s : State) (f : Counters → Counters) : State := { s with ctr := f s.ctr }

def countWindow (f : WindowCounters → WindowCounters) (c : Counters) : Counters := { c with window := f c.window }

def countTap (t : Tap) (f : TapCounters → TapCounters) (c : Counters) : Counters :=
  { c with taps := c.taps.set t (f c.taps[t]) }

def countInput (i : Fin 4) (f : InputCounters → InputCounters) (c : Counters) : Counters :=
  { c with inputs := c.inputs.set i (f c.inputs[i]) }

def countOutput (j : Fin 4) (f : OutputCounters → OutputCounters) (c : Counters) : Counters :=
  { c with outputs := c.outputs.set j (f c.outputs[j]) }

def countRaise (k : FaultKind) (c : Counters) : Counters :=
  { c with raises := c.raises.set k.bit (c.raises[k.bit] + 1) }

def PortRequest.isNotice : PortRequest → Bool
  | .notice _ _ => true
  | .partFlush _ _ | .recordWrite | .recordFlush | .recordMessage => false

/-- Presents a record-class request to the host write port, behind those that wait (R125). -/
def State.present (s : State) (r : PortRequest) : State :=
  { s with delivery := { s.delivery with port := s.delivery.port ++ [r] } }

def noticesWaiting (s : State) : Nat := s.delivery.port.countP PortRequest.isNotice

/-- A notice arises: it waits in the port, or is lost while the link is down or when eight wait (R181). -/
def State.notice (s : State) : State :=
  if s.delivery.linkUp && decide (noticesWaiting s < 8) then
    s.present (.notice (cfgNoticeAddress s.area) (cfgNoticeData s.area))
  else s.bump (countWindow fun c => { c with noticesLost := c.noticesLost + 1 })

/-- Records an event: it joins the tail of the list, the oldest leaving a full one (R181). -/
def State.event (s : State) (k : EventKind) : State :=
  let n := s.window.eventNumber + 1
  let e : Event := { number := n, kind := k }
  if s.window.events.length < 16 then
    { s with window := { s.window with events := s.window.events ++ [e], eventNumber := n } }
  else
    { s with window := { s.window with events := s.window.events.drop 1 ++ [e], eventNumber := n } }.bump
      (countWindow fun c => { c with eventsOverwritten := c.eventsOverwritten + 1 })

/-- An event with a notice when its enable is set (R181). -/
def State.eventNoticed (s : State) (k : EventKind) (enabled : Bool) : State :=
  if enabled then (s.event k).notice else s.event k

def State.faultSet (s : State) (k : FaultKind) : Bool := s.window.faults.getLsbD k.bit.val

/-- Raises a fault (R178): the flag is set, the raise counter rises, and a raise of a clear flag is an event. -/
def State.raise (s : State) (k : FaultKind) : State :=
  let s1 := { s with window := { s.window with faults := s.window.faults ||| (1#16 <<< k.bit.val) } }.bump (countRaise k)
  if s.faultSet k then s1
  else s1.eventNoticed (.fault k) (s.configured && (cfgFaultNotices s.area).getLsbD k.bit.val)

def State.clearFault (s : State) (k : FaultKind) : State :=
  { s with window := { s.window with faults := s.window.faults &&& ~~~(1#16 <<< k.bit.val) } }

/-- The station pulls TKFLT low; also the ROLL's fault summary (R71, R180). -/
def State.pullsFaultLine (s : State) : Bool :=
  s.configured && (s.window.faults &&& cfgFaultLines s.area) != 0

/-- A change of the station state: counted and recorded (R77, R181). The change into UNCONFIGURED is noticed by the
enables held just before it, which are those of the kept area. -/
def State.changeState (s : State) (st : StationState) : State :=
  (({ s with mem := { s.mem with state := st } }).bump
      (fun c => { c with mem := { c.mem with stateChanges := c.mem.stateChanges + 1 } })).eventNoticed
    (.state st) (cfgStateNotice s.area)

/-- Writes the result word: the interface returns to IDLE (R172). -/
def State.answer (s : State) (code : Byte) (r : Result) (value : Word) : State :=
  { s with window := { s.window with taking := none, result := { code, result := r, value, done := true } } }.bump
    (countWindow fun c =>
      { c with commandsTaken := c.commandsTaken + 1,
               commandsRefused := if r = Result.accepted then c.commandsRefused else c.commandsRefused + 1 })

/-- A write to the command word, or to the area during ACCEPT-CONFIG, while TAKING (R173). -/
def State.collide (s : State) : State :=
  { s with window := { s.window with collision := true } }.bump
    (countWindow fun c => { c with collisions := c.collisions + 1 })

end Sys2Proof.Machine
end

