-- ==== Sys2Proof/Machine/TransmitQueue.lean ====
section
/-! DEFINITION. The transmit queue: claims under quota, the offer, withdrawals (R57 to R63). -/

namespace Sys2Proof.Machine

def countQueue (f : QueueCounters → QueueCounters) (c : Counters) : Counters := { c with queue := f c.queue }

/-- The pending notes of a kind, the head first (R57). -/
def State.pendingOf (s : State) (k : NoteKind) : List Pending := s.tx.lists[k.code]

def State.setPending (s : State) (k : NoteKind) (l : List Pending) : State :=
  { s with tx := { s.tx with lists := s.tx.lists.set k.code l } }

/-- The quota of each kind (04_trunk_notes.md, "The kinds and their order"). -/
def NoteKind.quota : NoteKind → Nat
  | .signal => 4 | .drop => 7 | .opening => 1 | .done => 16 | .gate => 1 | .grant => 4 | .roll => 1 | .roster => 1

/-- The kind of the note this station is sending, while it is on the wire (R43). -/
def State.wireKind (s : State) : Option NoteKind :=
  match s.trunk.wire with
  | some { role := .sender kind _ _, .. } => some kind
  | some { role := .loser kind, .. } => some kind
  | some { role := .receiver, .. } | some { role := .aside, .. } | none => none

def State.onWire (s : State) (k : NoteKind) : Bool := s.wireKind == some k

/-- A claim joins the tail of its list with attempt count 0 (R57). -/
def State.joinList (s : State) (c : Claim) : State :=
  (s.setPending c.kind (s.pendingOf c.kind ++ [{ claim := c, attempts := 0, doom := .none }])).bump
    (countQueue fun q => { q with notesClaimed := q.notesClaimed + 1 })

def State.claimMet (s : State) : State := s.bump (countQueue fun q => { q with claimsMet := q.claimsMet + 1 })

def State.claimRefused (s : State) : State :=
  s.bump (countQueue fun q => { q with claimsRefused := q.claimsRefused + 1 })

/-- The list of a kind has room (R58, R59). -/
def State.hasRoom (s : State) (k : NoteKind) : Bool := decide ((s.pendingOf k).length < k.quota)

/-- A claim of SIGNAL, GATE, GRANT or DONE (R59). -/
def State.claimFifo (s : State) (c : Claim) : State := if s.hasRoom c.kind then s.joinList c else s.claimRefused

/-- A claim of DROP (R59). -/
def State.claimDrop (s : State) (p : Station) : State :=
  if (s.pendingOf .drop).any (fun n => n.claim == .drop p) then s.claimMet else s.claimFifo (.drop p)

/-- A claim of ROLL (R59). -/
def State.claimRoll (s : State) : State := if (s.pendingOf .roll).isEmpty then s.joinList .roll else s.claimMet

/-- The view of the latest lost grant takes a GRANT that is withdrawn (R107). -/
def State.lostGrantBy (s : State) : Claim → State
  | .grant channel seq base => { s with frames := { s.frames with lostGrant := some { channel, seq, base } } }
  | .signal .. | .drop _ | .opening _ | .done .. | .gate _ | .roll | .rosterJoin | .rosterLeave => s

def countWithdrawn (n : Nat) : Counters → Counters :=
  countQueue fun q => { q with notesWithdrawn := q.notesWithdrawn + BitVec.ofNat 32 n }

/-- Withdraws one note that has left its list: counted; a GRANT sets the view of R107 unless a reset withdrew it. -/
def State.withdrawn (s : State) (n : Pending) (byReset : Bool) : State :=
  let s1 := s.bump (countWithdrawn 1)
  if byReset then s1 else s1.lostGrantBy n.claim

/-- A claim of OPEN for frame k (R60). -/
def State.claimOpening (s : State) (k : Nat) : State :=
  match s.pendingOf .opening with
  | [] => s.joinList (.opening k)
  | n :: _ =>
    match n.claim with
    | .opening j =>
      if k ≤ j then s.claimMet
      else if s.onWire .opening then s.claimRefused
      else ((s.withdrawn n false).setPending .opening []).joinList (.opening k)
    | .signal .. | .drop _ | .done .. | .gate _ | .grant .. | .roll | .rosterJoin | .rosterLeave => s.claimRefused

/-- A claim of ROSTER-JOIN or ROSTER-LEAVE (R61). -/
def State.claimRoster (s : State) (c : Claim) : State :=
  match s.pendingOf .roster with
  | [] => s.joinList c
  | n :: _ =>
    if n.claim = c then s.claimMet
    else if s.onWire .roster then { s with tx := { s.tx with held := some c } }
    else ((s.withdrawn n false).setPending .roster []).joinList c

/-- Withdraws the notes of one list that `hit` names: a head on the wire is marked and runs to its end (R62, R63). They go
from head to tail, so that of several GRANTs the tail's is the latest lost (R107): the model's choice (log 51). -/
def State.withdrawFrom (s : State) (k : NoteKind) (doom : Doom) (hit : Pending → Bool) : State :=
  let mark : Pending → Pending := fun n => { n with doom := if n.doom = .reset then .reset else doom }
  let gone (l : List Pending) (s : State) : State :=
    (l.filter hit).foldl (fun s n => s.withdrawn n (doom == .reset)) s
  match s.pendingOf k, s.onWire k with
  | n :: rest, true =>
    gone rest (s.setPending k ((if hit n then mark n else n) :: rest.filter fun m => !hit m))
  | l, _ => gone l (s.setPending k (l.filter fun m => !hit m))

/-- Withdraws every pending note but DONE when `keepDone`; the emptyings of the whole queue drop a held claim (R61,
R63). -/
def State.withdrawAll (s : State) (doom : Doom) (keepDone : Bool) : State :=
  let s1 := (NoteKind.all.filter fun k => !(keepDone && k == .done)).foldl (fun s k => s.withdrawFrom k doom fun _ => true) s
  if keepDone then s1 else { s1 with tx := { s1.tx with held := none } }

/-- The station state allows a pending note to be sent (R43). -/
def maySend (st : StationState) : Claim → Bool
  | .signal .. | .drop _ | .opening _ | .gate _ | .grant .. | .roll => st == .member
  | .done .. => st == .member || st == .leaving
  | .rosterJoin => st == .joining
  | .rosterLeave => st == .leaving || st == .lapsed

/-- The note the queue offers: the head of the lowest kind that the station state allows (R57). -/
def State.offer (s : State) : Option Claim :=
  NoteKind.all.findSome? fun k =>
    match s.pendingOf k with
    | n :: _ => if maySend s.mem.state n.claim then some n.claim else none
    | [] => none

/-- A ROSTER-LEAVE is pending, on the wire or held (R89). -/
def State.leavePending (s : State) : Bool :=
  (s.pendingOf .roster).any (fun n => n.claim == .rosterLeave) || s.tx.held == some .rosterLeave

/-- A ROSTER-LEAVE carrying the station's own number waits in the receive queue (log 18). -/
def State.leaveReceived (s : State) : Bool :=
  s.trunk.queue.any fun r => r.note == .rosterLeave && r.sender == s.self

/-- While LEAVING or LAPSED the unit keeps one ROSTER-LEAVE claimed (R89). -/
def State.keepLeaveClaimed (s : State) : State :=
  if (s.mem.state == .leaving || s.mem.state == .lapsed) && !s.leavePending && !s.leaveReceived then
    s.claimRoster .rosterLeave
  else s

end Sys2Proof.Machine
end

