-- ==== Sys2Proof/Machine/Ops.lean ====
section
/-! DEFINITION. Named operations over the station's tables: taps and pool slots, timers, the frame table and its own
parts, the claims of DONE (R140). -/

namespace Sys2Proof.Machine

/-! ### Moments and timers -/

/-- A command is taken at its moment; a moment never goes back (log 1). -/
def State.tick (s : State) (t : Moment) : State := { s with now := max s.now t }

/-- A timer that runs has reached its end. -/
def Timer.due (now : Moment) : Timer → Bool
  | .running deadline => decide (deadline ≤ now)
  | .stopped | .held _ => false

/-- Starts a silence or listen timer; it stands still while the trunk is stalled (R54, R79, R87). -/
def State.startTimer (s : State) (length : Nat) : Timer :=
  if s.trunk.stalled then .held length else .running (s.now + length)

/-- A timer stands still (R54). -/
def Timer.hold (now : Moment) : Timer → Timer
  | .running deadline => .held (deadline - now)
  | .stopped => .stopped
  | .held left => .held left

/-- A timer runs on (R54). -/
def Timer.run (now : Moment) : Timer → Timer
  | .held left => .running (now + left)
  | .stopped => .stopped
  | .running deadline => .running deadline

/-! ### Taps and the line pool -/

def State.setTap (s : State) (t : Tap) (x : TapState) : State := { s with taps := s.taps.set t x }

def LinePort.slots : LinePort → List (Fin 256)
  | .filling slot => [slot]
  | .idle | .nowhere => []

def turnSlots : Option Turn → List (Fin 256)
  | some { line := some l, .. } => [l.slot]
  | some { line := none, .. } | none => []

/-- The slots a tap's port and line queue hold (R31). -/
def TapState.slots (x : TapState) : List (Fin 256) := x.port.slots ++ x.lines.map Line.slot

/-- Every slot that is not in the free set: fill slots, line queues, current line (R31). -/
def State.heldSlots (s : State) : List (Fin 256) :=
  s.taps[(0 : Fin 2)].slots ++ s.taps[(1 : Fin 2)].slots ++ turnSlots s.delivery.turn

/-- The free set (R31): every slot that stands in no other place (log 9). -/
def State.freeSlots (s : State) : List (Fin 256) := (List.finRange 256).filter fun x => !s.heldSlots.contains x

/-- How many slots are free; equal to the length of the free set while no slot stands in two places. -/
def State.freeCount (s : State) : Nat := 256 - s.heldSlots.length

/-- The slots a tap holds (R31). -/
def State.tapHolds (s : State) (t : Tap) : Nat :=
  s.taps[t].slots.length
    + (match s.delivery.turn with
       | some tu => if tu.tap = t then (turnSlots (some tu)).length else 0
       | none => 0)

/-- The conditions of R21 for a tap that asks for a slot. -/
def State.slotGranted (s : State) (t : Tap) : Bool := decide (0 < s.freeCount) && decide (s.tapHolds t < 192)

/-- The slot the pool takes from the free set: its choice (R31; log 6). -/
def State.choice (s : State) : Fin 256 :=
  (s.freeSlots[Config.poolChoice s.draws % s.freeSlots.length]?).getD 0

/-- A slot has been taken: the choice is used up, and the free low mark falls to the free slots now left (R31). -/
def State.slotTaken (s : State) : State :=
  { s with draws := s.draws + 1, freeLow := min s.freeLow s.freeCount }

/-! ### The frame table -/

def Slot.entry : Slot → Option Entry
  | .known e => some e
  | .free | .foreign _ => none

def Slot.occupied : Slot → Bool
  | .free => false
  | .foreign _ | .known _ => true

def Slot.isForeign : Slot → Bool
  | .foreign _ => true
  | .free | .known _ => false

def Slot.frame : Slot → Option Nat
  | .free => none
  | .foreign k => some k
  | .known e => some e.frame

def State.setSlot (s : State) (i : Fin 8) (x : Slot) : State :=
  { s with frames := { s.frames with slots := s.frames.slots.set i x } }

/-- The known entry for frame k, if the table holds one (R96). -/
def State.entryFor (s : State) (k : Nat) : Option Entry :=
  (s.frames.slots[slotOf k].entry).filter fun e => e.frame == k

def State.legAt (s : State) (i : Fin 8) (j : Fin 2) : Option Leg := (s.frames.slots[i].entry).map fun e => e.legs[j]

def State.partAt (s : State) (i : Fin 8) (j : Fin 2) : Option OwnPart := (s.legAt i j).bind Leg.own

def Entry.setLeg (e : Entry) (j : Fin 2) (l : Leg) : Entry := { e with legs := e.legs.set j l }

def State.modifyLeg (s : State) (i : Fin 8) (j : Fin 2) (f : Leg → Leg) : State :=
  match s.frames.slots[i] with
  | .known e => s.setSlot i (.known (e.setLeg j (f e.legs[j])))
  | .free | .foreign _ => s

def State.modifyPart (s : State) (i : Fin 8) (j : Fin 2) (f : OwnPart → OwnPart) : State :=
  s.modifyLeg i j fun l => { l with own := l.own.map f }

/-- Places a slot in a list kept in increasing frame number. -/
def insertByFrame (frame : Fin 8 → Nat) (i : Fin 8) : List (Fin 8) → List (Fin 8)
  | [] => [i]
  | j :: rest => if frame i ≤ frame j then i :: j :: rest else j :: insertByFrame frame i rest

/-- The slots that hold known entries, in increasing frame number. -/
def State.knownSlots (s : State) : List (Fin 8) :=
  ((List.finRange 8).filter fun i => (s.frames.slots[i].entry).isSome).foldr
    (insertByFrame fun i => (s.frames.slots[i].frame).getD 0) []

/-- The legs of the table in increasing frame number, stream 0 before stream 1 (R147; log 24). -/
def State.legPlaces (s : State) : List (Fin 8 × Fin 2) := s.knownSlots.flatMap fun i => [(i, 0), (i, 1)]

/-- The frame of the entry in a slot. -/
def State.frameAt (s : State) (i : Fin 8) : Nat := (s.frames.slots[i].frame).getD 0

/-! ### Own parts -/

def countDelivery (f : DeliveryCounters → DeliveryCounters) (c : Counters) : Counters := { c with delivery := f c.delivery }

/-- A new own part (R122). -/
def OwnPart.new : OwnPart :=
  { state := .collecting, taps := Vector.replicate 2 { written := 0, filled := 0, done := false }, gapRows := 0,
    timer := .stopped, flush := .none }

/-- Drops the waiting flush of a part from the port (R139). -/
def State.dropFlush (s : State) (i : Fin 8) (j : Fin 2) : State :=
  { s with delivery := { s.delivery with port := s.delivery.port.filter fun r => r != .partFlush i j } }

/-- The claim of DONE for an ended part, its fields fixed now (R68, R140). -/
def State.claimDone (s : State) (i : Fin 8) (j : Fin 2) (delivered : Bool) : State :=
  match s.partAt i j with
  | some p => s.claimFifo (.done (s.frameAt i) j delivered p.gapRows)
  | none => s

/-- The part becomes VOID and its timer and flush are dropped. -/
def State.markVoid (s : State) (i : Fin 8) (j : Fin 2) : State :=
  (s.modifyPart i j fun p => { p with state := .void, timer := .stopped, flush := .none }).dropFlush i j

/-- The part becomes VOID and claims DONE VOID (R137, R138, R139, R140). -/
def State.voidPart (s : State) (i : Fin 8) (j : Fin 2) : State :=
  ((s.markVoid i j).claimDone i j false).bump (countDelivery fun c => { c with partsVoid := c.partsVoid + 1 })

/-- The part becomes REPORTED and claims DONE DELIVERED (R136, R140). -/
def State.reportPart (s : State) (i : Fin 8) (j : Fin 2) : State :=
  ((s.modifyPart i j fun p => { p with state := .reported, timer := .stopped, flush := .none }).claimDone i j true).bump
    (countDelivery fun c => { c with partsDelivered := c.partsDelivered + 1 })

/-- Frame k's leg timers start when the line index stands at (k + 1)L or beyond (R138). -/
def State.startLegTimers (s : State) : State :=
  if s.closed then s else
  s.legPlaces.foldl (fun s (i, j) =>
    if (s.frameAt i + 1) * cfgL s.area ≤ s.pos.lineIndex then
      s.modifyPart i j fun p =>
        if (p.state == .collecting || p.state == .flushing) && p.timer == .stopped then
          { p with timer := .running (s.now + cfgLegTimeout s.area) }
        else p
    else s) s

/-- The current turn ends with its unissued bursts dropped; its line returns its slot and counts as dropped (R139,
R141). -/
def State.dropTurn (s : State) : State :=
  match s.delivery.turn with
  | none => s
  | some tu =>
    { s with delivery := { s.delivery with turn := none, lastTap := tu.tap } }.bump
      (countDelivery fun c => if tu.line.isSome then { c with linesDropped := c.linesDropped + 1 } else c)

end Sys2Proof.Machine
end

