-- ==== Sys2Proof/Machine/Records.lean ====
section
/-! DEFINITION. Leg completion, retirement, frame records and the record queue (R144 to R156, R188), and the meanings of
PROCESS_DONE's table effects and RECORD_FLUSH_TIMEOUT. -/

namespace Sys2Proof.Machine

def countRecords (f : RecordCounters → RecordCounters) (c : Counters) : Counters := { c with records := f c.records }

/-- The next record, if there is one, begins at step 1 of R152. -/
def State.beginRecord (s : State) : State :=
  match s.records.queue with
  | [] => { s with records := { s.records with step := .idle } }
  | _ :: _ => { s with records := { s.records with step := .write } }.present .recordWrite

def countLost (n : Nat) : Counters → Counters :=
  countRecords fun c => { c with recordLost := c.recordLost + BitVec.ofNat 32 n }

/-- A built record joins the record queue, or is lost when the link is down or the queue is full (R151). -/
def State.offerRecord (s : State) (r : FrameRecord) : State :=
  if !s.delivery.linkUp then s.bump (countLost 1)
  else if s.records.queue.length < 16 then
    let s1 := { s with records := { s.records with queue := s.records.queue ++ [r] } }.bump
      (countRecords fun c => { c with recordsQueued := c.recordsQueued + 1 })
    if s.records.queue.isEmpty then s1.beginRecord else s1
  else s.bump (countRecords fun c => { c with recordLost := c.recordLost + 1, recordOverflows := c.recordOverflows + 1 })

/-- The status of a station in a leg (R150). -/
def stationStatus (l : Leg) (p : Station) : PartOutcome :=
  if !hasStation l.mask p then .notExpected
  else if hasStation l.delivered p then .delivered
  else if hasStation l.void p then .void
  else if hasStation l.removed p then .absent
  else .notExpected

/-- The frame record of a completed leg (R150). -/
def buildRecord (a : Memory) (poster : Station) (e : Entry) (j : Fin 2) (l : Leg) : FrameRecord :=
  { steer := l.steer.getD { channel := 0, seq := 0, base := 0 }, stream := j, frame := e.frame,
    firstLine := e.frame * cfgL a, rowsPerPlane := cfgL a / cfgP a, planeCount := (streamPhases a j).length,
    mask := l.mask, status := Vector.ofFn (stationStatus l), gapTotal := l.gapTotal, flags := l.flags,
    resumed := e.resumed, poster := poster }

def outcomeCode : PartOutcome → Nat
  | .notExpected => 0 | .delivered => 1 | .void => 2 | .absent => 3

/-- The 64 bytes of a frame record (R188). -/
def recordBytes (r : FrameRecord) : List Byte :=
  [1#8, byteOf r.steer.channel.val, byteOf r.stream.val, r.steer.seq] ++ bytesLE 4 r.frame ++ bytesLE 4 r.firstLine
    ++ bytesLE 2 r.rowsPerPlane ++ [byteOf r.planeCount, r.mask]
    ++ bytesLE 2 ((r.status.toList.map outcomeCode).foldr (fun x n => x + 4 * n) 0)
    ++ [r.flags, if r.resumed then 1#8 else 0#8, byteOf r.poster.val] ++ List.replicate 3 0#8 ++ bytesLE 4 r.gapTotal
    ++ List.replicate 4 0#8 ++ bytesLE 8 (r.steer.base.toNat * 4096) ++ List.replicate 24 0#8

/-- The place of a record in its channel's ring (R152). -/
def recordAddress (a : Memory) (r : FrameRecord) : Nat := cfgRingBase a r.steer.channel + r.steer.seq.toNat % 16 * 64

/-- Every expected station has finished with the leg (R147). -/
def Leg.covered (l : Leg) : Bool := (l.mask &&& ~~~(l.delivered ||| l.void ||| l.removed)) == 0

/-- A leg that owes nothing: its slot need not be kept for it (R98). -/
def Leg.settled (l : Leg) : Bool := l.status == .retired || l.status == .unsteered

/-- A completed leg is retired, and its slot freed when the other leg owes nothing (R149); its own part goes with it
(log 42). The expected mask stays: the model's choice (log 61). -/
def State.retireLeg (s : State) (i : Fin 8) (j : Fin 2) : State :=
  match s.frames.slots[i] with
  | .known e =>
    let l := e.legs[j]
    let e1 := e.setLeg j { l with status := .retired, delivered := 0, void := 0, removed := 0, gapTotal := 0, flags := 0,
                                  own := none }
    let s1 := (s.dropFlush i j).bump (countRecords fun c => { c with legsRetired := c.legsRetired + 1 })
    if e1.legs[(0 : Fin 2)].settled && e1.legs[(1 : Fin 2)].settled then
      (s1.setSlot i .free).bump (countRecords fun c => { c with slotsFreed := c.slotsFreed + 1 })
    else s1.setSlot i (.known e1)
  | .free | .foreign _ => s

/-- The poster's part of a completion: the record is built when the station itself is the poster (R147, R148). -/
def State.postLeg (s : State) (i : Fin 8) (j : Fin 2) (poster : Option Station) : State :=
  match poster with
  | none => s.bump (countRecords fun c => { c with legsUnposted := c.legsUnposted + 1 })
  | some p =>
    if p = s.self then
      match s.frames.slots[i] with
      | .known e =>
        (s.bump (countRecords fun c => { c with recordsBuilt := c.recordsBuilt + 1 })).offerRecord
          (buildRecord s.area p e j e.legs[j])
      | .free | .foreign _ => s
    else s

/-- A pending leg is tested, and completed when it is covered (R147). -/
def State.testLeg (s : State) (i : Fin 8) (j : Fin 2) (poster : Option Station) (byRemoval : Bool) : State :=
  match s.legAt i j with
  | some l =>
    if l.status = .pending ∧ l.covered then
      ((s.bump (countRecords fun c =>
          { c with legsCompleted := c.legsCompleted + 1,
                   legsCompletedByRemoval :=
                     if byRemoval then c.legsCompletedByRemoval + 1 else c.legsCompletedByRemoval })).postLeg i j
        poster).retireLeg i j
    else s
  | none => s

/-- A removal of station p from the roster, applied to the legs (R146). -/
def State.removeFromLegs (s : State) (p : Station) (poster : Option Station) : State :=
  s.legPlaces.foldl (fun s (i, j) =>
    match s.legAt i j with
    | some l =>
      if l.status = .pending ∧ hasStation l.mask p ∧ ¬ hasStation (l.delivered ||| l.void ||| l.removed) p then
        ((s.modifyLeg i j fun l => { l with removed := addStation l.removed p }).bump
          (countRecords fun c => { c with removalsApplied := c.removalsApplied + 1 })).testLeg i j poster true
      else s
    | none => s) s

/-- The head record leaves the queue and the next begins (R152, R153). -/
def State.dropHeadRecord (s : State) : State :=
  { s with records := { s.records with queue := s.records.queue.drop 1 } }.beginRecord

/-- The request belongs to the record unit. -/
def PortRequest.isRecord : PortRequest → Bool
  | .recordWrite | .recordFlush | .recordMessage => true
  | .notice _ _ | .partFlush _ _ => false

/-- The record queue is emptied and its waiting requests dropped (R154, R155, R156). -/
def State.emptyRecords (s : State) : State :=
  { s with records := { queue := [], step := .idle },
           delivery := { s.delivery with port := s.delivery.port.filter fun r => !r.isRecord } }

/-- PROCESS_DONE: the effects of an applied DONE (R144, R145). A frame number that is not the one received, a clamped one,
names no entry (R74; log 32). -/
def State.applyDone (s : State) (sender : Station) (frame : BitVec 16) (stream : Fin 2) (delivered : Bool)
    (gapRows : BitVec 17) : State :=
  let k := extendFrame s.area s.currentFrame frame
  let i := slotOf k
  let ignored := s.bump (countRecords fun c => { c with donesIgnored := c.donesIgnored + 1 })
  match (s.entryFor k).filter fun _ => BitVec.ofNat 16 k == frame with
  | none => ignored
  | some e =>
    let l := e.legs[stream]
    if l.status = .pending ∧ hasStation l.mask sender ∧ ¬ hasStation (l.delivered ||| l.void ||| l.removed) sender
        ∧ ((s.mem.state = .listening ∨ s.mem.state = .joining) → hasStation s.mem.roster sender) then
      ((s.modifyLeg i stream fun l =>
          { l with delivered := if delivered then addStation l.delivered sender else l.delivered,
                   void := if delivered then l.void else addStation l.void sender,
                   gapTotal := l.gapTotal + gapRows.toNat }).bump
        (countRecords fun c => { c with donesApplied := c.donesApplied + 1 })).testLeg i stream (some sender) false
    else ignored

/-- RECORD_FLUSH_TIMEOUT (R153): a record flush outstanding for 2 ms loses the head record. -/
def execRecordFlushTimeout (t : Moment) (s : State) : Host.Outcome State Fault Refusal :=
  let s := s.tick t
  .next <| match s.records.step with
    | .flushIssued _ moment =>
      if moment + 2000000 ≤ s.now then ((s.bump (countLost 1)).raise .link).dropHeadRecord else s
    | .idle | .write | .flushWaiting | .message => s

end Sys2Proof.Machine
end

