-- ==== Sys2Proof/Machine/Delivery.lean ====
section
/-! DEFINITION. Line delivery (R122 to R142): head decisions, turns, bursts, fills, ends of parts, flushes, the host
write port, and the meanings of PORT_ISSUE, FLUSH_COMPLETION, FLUSH_TIMEOUT, LEG_TIMER_EXPIRY, LINK_DOWN, LINK_UP. -/

namespace Sys2Proof.Machine

/-! ### The decision for a head entry (R127, R128, R129) -/

inductive DiscardCase
  | closed | noPart | partClosed | notAllowed | notInTable | unopened
  deriving DecidableEq, Repr

inductive Decision
  | write
  | wait
  | discard (why : DiscardCase)
  deriving DecidableEq, Repr

/-- The decision for a line, the first case of R127 that applies. -/
def State.headDecision (s : State) (l : Line) : Decision :=
  let k := frameOf s.area l.index
  if s.closed then .discard .closed
  else match s.entryFor k with
    | some e =>
      match cfgPhaseStream s.area l.phase with
      | none => .discard .noPart
      | some j =>
        match e.legs[j].own with
        | none => .discard .noPart
        | some p => if p.state = .collecting then .write else .discard .partClosed
    | none =>
      if !s.allowed k then .discard .notAllowed
      else if k ≤ s.frames.h then .discard .notInTable
      else if s.pos.lineIndex < (k + 2) * cfgL s.area then .wait
      else .discard .unopened

def countDiscard (why : DiscardCase) : Counters → Counters :=
  countDelivery fun c =>
    let c := { c with linesDiscarded := c.linesDiscarded + 1 }
    match why with
    | .closed => { c with discardClosed := c.discardClosed + 1 }
    | .noPart => { c with discardNoPart := c.discardNoPart + 1 }
    | .partClosed => { c with discardPartClosed := c.discardPartClosed + 1 }
    | .notAllowed => { c with discardNotAllowed := c.discardNotAllowed + 1 }
    | .notInTable => { c with discardNotInTable := c.discardNotInTable + 1 }
    | .unopened => { c with discardUnopened := c.discardUnopened + 1 }

def State.setLines (s : State) (t : Tap) (lines : List Line) : State := s.setTap t { s.taps[t] with lines := lines }

def State.setWaiting (s : State) (t : Tap) (b : Bool) : State :=
  { s with delivery := { s.delivery with waiting := s.delivery.waiting.set t b } }

/-- Discards the heads that R127 decides so, one after another, until a head is written or waits (R128). -/
def State.discardHeads (t : Tap) : List Line → State → State
  | [], s => s
  | l :: rest, s =>
    match s.headDecision l with
    | .discard why => State.discardHeads t rest (((s.setLines t rest).setWaiting t false).bump (countDiscard why))
    | .write | .wait => s

/-- The head begins a wait when it is decided so for the first time (R129). -/
def State.judgeWait (s : State) (t : Tap) : State :=
  match s.taps[t].lines with
  | [] => s.setWaiting t false
  | l :: _ =>
    if s.headDecision l = .wait then
      if s.delivery.waiting[t] then s
      else (s.setWaiting t true).bump (countDelivery fun c => { c with openWaits := c.openWaits + 1 })
    else s.setWaiting t false

/-! ### The end of a tap's part (R135, R136) -/

/-- Tap t has reached the end of frame k (R135). -/
def State.reachedEnd (s : State) (t : Tap) (k : Nat) : Bool :=
  decide ((k + 1) * cfgL s.area ≤ s.resolved t + 1)
    && s.taps[t].lines.all (fun l => decide ((k + 1) * cfgL s.area ≤ l.index))
    && (match s.delivery.turn with
        | some { tap := u, line := some l, .. } => !(u == t && frameOf s.area l.index == k)
        | some { line := none, .. } | none => true)

def OwnPart.tapOpen (p : OwnPart) (t : Tap) : Bool := p.state == .collecting && !p.taps[t].done

def OwnPart.setTap (p : OwnPart) (t : Tap) (f : TapProgress → TapProgress) : OwnPart :=
  { p with taps := p.taps.set t (f p.taps[t]) }

/-- Tap t becomes done in every COLLECTING own part of frames at or below k (R135). -/
def State.tapDone (s : State) (t : Tap) (k : Nat) : State :=
  s.legPlaces.foldl (fun s (i, j) =>
    if s.frameAt i ≤ k then
      s.modifyPart i j fun p => if p.state = .collecting then p.setTap t fun x => { x with done := true } else p
    else s) s

/-- The frames, in increasing number, that have a COLLECTING own part in which tap t is not done. -/
def State.openFrames (s : State) (t : Tap) : List Nat :=
  s.legPlaces.filterMap fun (i, j) =>
    match s.partAt i j with
    | some p => if p.tapOpen t then some (s.frameAt i) else none
    | none => none

/-- No finish turn is needed for frame k: the handled mark is there, or the tap is OFF (R135). -/
def State.markAtEnd (s : State) (t : Tap) (k : Nat) : Bool :=
  s.tapMode t == .off || decide ((k + 1) * cfgL s.area ≤ s.delivery.handled[t] + 1)

/-- The tap becomes done at once where it has reached the end and its mark is there (R135). -/
def State.finishMarked (s : State) (t : Tap) : State :=
  (s.openFrames t).foldl (fun s k => if s.reachedEnd t k && s.markAtEnd t k then s.tapDone t k else s) s

/-- Parts with both taps done enter FLUSHING, and their flushes wait in the port (R136; log 24). -/
def State.startFlushes (s : State) : State :=
  s.legPlaces.foldl (fun s (i, j) =>
    match s.partAt i j with
    | some p =>
      if p.state = .collecting ∧ p.taps[(0 : Fin 2)].done ∧ p.taps[(1 : Fin 2)].done then
        (s.modifyPart i j fun p => { p with state := .flushing, flush := .waiting }).present (.partFlush i j)
      else s
    | none => s) s

/-- The check of R135 for one tap. -/
def State.endCheck (s : State) (t : Tap) : State := if s.closed then s else (s.finishMarked t).startFlushes

def State.endChecks (s : State) : State := (s.endCheck 0).endCheck 1

/-- The heads of a tap's line queue are decided (R127); a discard is followed by the end check (R135). -/
def State.settleTap (s : State) (t : Tap) : State :=
  let s1 := State.discardHeads t s.taps[t].lines s
  let s2 := s1.judgeWait t
  if s2.taps[t].lines.length < s.taps[t].lines.length then s2.endCheck t else s2

/-- The decisions that follow a note, a line-index advance, a change of state or a new head (R127). -/
def State.settle (s : State) : State := (s.settleTap 0).settleTap 1

/-! ### Turns (R126, R130, R135) -/

/-- The rows of tap t to be filled between two indexes, the first included and the last not, in increasing order
(R130). -/
def State.fillRows (s : State) (t : Tap) (first last : Nat) : List Nat :=
  s.knownSlots.flatMap fun i =>
    let k := s.frameAt i
    let low := max first (k * cfgL s.area)
    let high := min last ((k + 1) * cfgL s.area)
    (List.range' low (high - low)).filter fun r =>
      match streamOf s.area r with
      | some j => (match s.partAt i j with | some p => p.tapOpen t | none => false)
      | none => false

/-- The frame that a finish turn of tap t would finish: the lowest that is due (R135; log 23). -/
def State.finishReady (s : State) (t : Tap) : Option Nat :=
  (s.openFrames t).find? fun k => s.reachedEnd t k && !s.markAtEnd t k

/-- The head that a write turn of tap t would write (R126). -/
def State.writeReady (s : State) (t : Tap) : Option Line :=
  match s.taps[t].lines with
  | [] => none
  | l :: _ => if s.headDecision l = .write then some l else none

def State.turnReady (s : State) (t : Tap) : Bool := (s.finishReady t).isSome || (s.writeReady t).isSome

def otherTap (t : Tap) : Tap := if t = 0 then 1 else 0

/-- The tap that the port offers a new turn to (R126). -/
def State.nextTap (s : State) : Option Tap :=
  if s.turnReady (otherTap s.delivery.lastTap) then some (otherTap s.delivery.lastTap)
  else if s.turnReady s.delivery.lastTap then some s.delivery.lastTap
  else none

def State.setTurn (s : State) (tu : Option Turn) : State := { s with delivery := { s.delivery with turn := tu } }

def State.setHandled (s : State) (t : Tap) (n : Nat) : State :=
  { s with delivery := { s.delivery with handled := s.delivery.handled.set t n } }

/-- The own part that tap t's row at index r belongs to: slot and stream. -/
def State.rowPlace (s : State) (r : Nat) : Option (Fin 8 × Fin 2) :=
  match s.entryFor (frameOf s.area r), streamOf s.area r with
  | some _, some j => some (slotOf (frameOf s.area r), j)
  | some _, none => none
  | none, _ => none

/-- A row has been filled (R133). -/
def State.rowFilled (s : State) (t : Tap) (r : Nat) : State :=
  let s1 := match s.rowPlace r with
    | some (i, j) => s.modifyPart i j fun p =>
        let p1 := p.setTap t fun x => { x with filled := x.filled + 1 }
        { p1 with gapRows := p.gapRows + 1 }
    | none => s
  (s1.setHandled t r).bump (countDelivery fun c => { c with rowsFilled := c.rowsFilled + 1 })

/-- Starts a turn of tap t: a finish turn goes first (R126). Under SKIP the fill rows take no port time (R134). -/
def State.startTurn (s : State) (t : Tap) : State :=
  let begin_ (s : State) (rows : List Nat) (line : Option Line) (finish : Option Nat) : State :=
    if cfgFill s.area = .skip then
      (rows.foldl (fun s r => s.rowFilled t r) s).setTurn (some { tap := t, rows := [], sent := 0, line, finish })
    else s.setTurn (some { tap := t, rows, sent := 0, line, finish })
  match s.finishReady t with
  | some k =>
    begin_ s (s.fillRows t (s.delivery.handled[t] + 1) ((k + 1) * cfgL s.area)) none (some k)
  | none =>
    match s.writeReady t with
    | some l =>
      begin_ ((s.setLines t (s.taps[t].lines.drop 1)).setWaiting t false)
        (s.fillRows t (s.delivery.handled[t] + 1) l.index) (some l) none
    | none => s

/-- The turn ends: a finish turn leaves its tap done (R135), and the end check follows. -/
def State.endTurn (s : State) (tu : Turn) : State :=
  let s1 := { s with delivery := { s.delivery with turn := none, lastTap := tu.tap } }
  let s2 := match tu.finish with
    | some k => (s1.setHandled tu.tap ((k + 1) * cfgL s.area - 1)).tapDone tu.tap k
    | none => s1
  s2.endCheck tu.tap

/-! ### Bursts (R132) and fills (R134) -/

/-- The pixels that a filled row writes (R134). -/
def State.fillPixels (s : State) (t : Tap) (r : Nat) : List Byte :=
  let zeros := List.replicate (s.tapWidth t) 0#8
  match cfgFill s.area with
  | .repeated =>
    if h : phaseOf s.area r < 4 then
      match s.delivery.store[t][phaseOf s.area r] with
      | some row => if row.frame = frameOf s.area r then row.pixels else zeros
      | none => zeros
    else zeros
  | .zero | .skip => zeros

/-- The length of the burst that starts at an address with `left` bytes of the row to go (R132). -/
def burstLength (payload address left : Nat) : Nat := min payload (min (4096 - address % 4096) left)

/-- Issues one burst of a row, and tells whether it was the row's last. -/
def State.burst (s : State) (t : Tap) (i : Fin 8) (j : Fin 2) (r sent : Nat) (pixels : List Byte) : State × Nat :=
  let base := ((s.legAt i j).bind Leg.steer).elim 0 Steer.base
  let address := rowAddress s.area s.self t j base r + sent
  let n := burstLength (cfgMaxPayload s.area) address (s.tapWidth t - sent)
  ({ s with lastRequest := some (.memoryWrite address ((pixels.drop sent).take n)) }.bump
    (countDelivery fun c =>
      { c with burstsIssued := c.burstsIssued + 1, bytesWritten := c.bytesWritten + BitVec.ofNat 32 n }), sent + n)

/-- The written line's pixels enter the repeat store (R124). -/
def State.storeRow (s : State) (t : Tap) (l : Line) : State :=
  if h : l.phase < 4 then
    let row : StoredRow := { frame := frameOf s.area l.index, pixels := l.pixels.take (s.tapWidth t) }
    let rows := s.delivery.store[t].set l.phase (some row)
    { s with delivery := { s.delivery with store := s.delivery.store.set t rows } }
  else s

/-- The last burst of a line has been issued (R130): its slot goes back with the turn that held it. -/
def State.lineWritten (s : State) (t : Tap) (l : Line) (i : Fin 8) (j : Fin 2) : State :=
  (((s.storeRow t l).modifyPart i j fun p => p.setTap t fun x => { x with written := x.written + 1 }).setHandled t
    l.index).bump (countDelivery fun c => { c with linesWritten := c.linesWritten + 1 })

/-- Issues the next burst of a turn: of its first fill row, then of its line; a turn with nothing left ends
(R126, R130, R135). Rows, or a line, whose frame entry has gone from the table leave the turn: the model's choice
(log 52). Answers whether a request was issued. -/
def State.turnBurst (s : State) (tu : Turn) : State × Bool :=
  match tu.rows, tu.line with
  | r :: rest, _ =>
    match s.rowPlace r with
    | none => (s.setTurn (some { tu with rows := rest.filter fun q => (s.rowPlace q).isSome, sent := 0 }), false)
    | some (i, j) =>
      let (s1, sent) := s.burst tu.tap i j r tu.sent (s.fillPixels tu.tap r)
      if s.tapWidth tu.tap ≤ sent then
        let s2 := s1.rowFilled tu.tap r
        let tu1 := { tu with rows := rest, sent := 0 }
        if rest.isEmpty && tu.line.isNone then (s2.endTurn tu1, true) else (s2.setTurn (some tu1), true)
      else (s1.setTurn (some { tu with sent := sent }), true)
  | [], some l =>
    match s.rowPlace l.index with
    | none => (s.dropTurn, false)
    | some (i, j) =>
      let (s1, sent) := s.burst tu.tap i j l.index tu.sent l.pixels
      if s.tapWidth tu.tap ≤ sent then ((s1.lineWritten tu.tap l i j).endTurn tu, true)
      else (s1.setTurn (some { tu with sent := sent }), true)
  | [], none => (s.endTurn tu, false)

/-! ### The host write port (R125) -/

/-- A flush is issued: it takes the next flush number (R136; log 25). -/
def State.issueFlush (s : State) : State :=
  let n := s.delivery.flushCount + 1
  { s with delivery := { s.delivery with flushCount := n }, lastRequest := some (.flush n) }.bump
    (countDelivery fun c => { c with flushesIssued := c.flushesIssued + 1 })

def State.issueMessage (s : State) (address : Nat) (data : Word) : State :=
  { s with lastRequest := some (.messageWrite address data) }

/-- Issues a record-class request (R125, R136, R152, R181). -/
def State.issueRecordClass (s : State) (r : PortRequest) : State :=
  match r with
  | .notice address data =>
    (s.issueMessage address data).bump (countWindow fun c => { c with noticesIssued := c.noticesIssued + 1 })
  | .partFlush i j =>
    let s1 := s.issueFlush
    s1.modifyPart i j fun p =>
      if p.flush = .waiting then { p with flush := .issued s1.delivery.flushCount s.now } else p
  | .recordWrite =>
    match s.records.queue with
    | [] => s
    | rec :: _ =>
      { s with lastRequest := some (.memoryWrite (recordAddress s.area rec) (recordBytes rec)),
               records := { s.records with step := .flushWaiting } }.present .recordFlush
  | .recordFlush =>
    let s1 := s.issueFlush
    { s1 with records := { s1.records with step := .flushIssued s1.delivery.flushCount s.now } }
  | .recordMessage =>
    match s.records.queue with
    | [] => s
    | rec :: _ =>
      ((s.issueMessage (cfgMessageAddress s.area rec.steer.channel) (cfgMessageData s.area rec.steer.channel)).bump
        (countRecords fun c => { c with recordsWritten := c.recordsWritten + 1 })).dropHeadRecord

/-- The port, free to issue: the oldest record-class request, else the next burst of the current turn, else a new turn
and its first burst. A turn that needs no write is carried out as soon as it is started, and the port goes on (R125,
R126). The fuel bounds the turns carried out so: each leaves a tap done in a part. -/
def State.portIssue : Nat → State → State
  | 0, s => s
  | fuel + 1, s =>
    match s.delivery.port with
    | r :: rest => ({ s with delivery := { s.delivery with port := rest } }).issueRecordClass r
    | [] =>
      match s.delivery.turn with
      | some tu => match s.turnBurst tu with
        | (s1, true) => s1
        | (s1, false) => State.portIssue fuel s1
      | none =>
        if s.closed then s
        else match s.nextTap with
          | some t => State.portIssue fuel (s.startTurn t)
          | none => s

/-- PORT_ISSUE (R125): while the link is down the port issues nothing. -/
def execPortIssue (t : Moment) (s : State) : Host.Outcome State Fault Refusal :=
  let s := s.tick t
  .next <| if s.delivery.linkUp then (State.portIssue 100 s.settle).settle else s

/-! ### Completions and timeouts -/

/-- The own part that awaits a flush of this number (R136). -/
def State.awaiting (s : State) (number : Nat) : Option (Fin 8 × Fin 2) :=
  s.legPlaces.find? fun (i, j) =>
    match s.partAt i j with
    | some { state := .flushing, flush := .issued n _, .. } => n == number
    | some _ | none => false

/-- FLUSH_COMPLETION (R136, R141, R152). -/
def execFlushCompletion (t : Moment) (number : Nat) (s : State) : Host.Outcome State Fault Refusal :=
  let s := s.tick t
  let record := match s.records.step with
    | .flushIssued n _ => n == number
    | .idle | .write | .flushWaiting | .message => false
  .next <|
    if record then { s with records := { s.records with step := .message } }.present .recordMessage
    else if s.closed then s
    else match s.awaiting number with
      | some (i, j) => s.reportPart i j
      | none => s

/-- FLUSH_TIMEOUT (R137): a part's flush outstanding for 2 ms. -/
def execFlushTimeout (t : Moment) (slot : Fin 8) (stream : Fin 2) (s : State) : Host.Outcome State Fault Refusal :=
  let s := s.tick t
  .next <|
    match s.partAt slot stream with
    | some { state := .flushing, flush := .issued _ moment, .. } =>
      if moment + 2000000 ≤ s.now ∧ ¬ s.closed then
        (((s.voidPart slot stream).bump (countDelivery fun c => { c with flushTimeouts := c.flushTimeouts + 1 })).raise
          .link).settle
      else s
    | some _ | none => s

/-- A row belongs to the part in a slot and stream. -/
def State.rowOf (s : State) (i : Fin 8) (j : Fin 2) (r : Nat) : Bool := s.rowPlace r == some (i, j)

/-- The bursts not yet issued for a part leave the current turn (R138). -/
def State.cutTurn (s : State) (i : Fin 8) (j : Fin 2) : State :=
  match s.delivery.turn with
  | none => s
  | some tu =>
    let mine (r : Nat) : Bool := s.rowOf i j r
    let cutLine := tu.line.any fun l => mine l.index
    let rows := tu.rows.filter fun r => !mine r
    let headCut := match tu.rows, tu.line with
      | r :: _, _ => mine r
      | [], some l => mine l.index
      | [], none => false
    let tu1 := { tu with rows := rows, sent := if headCut then 0 else tu.sent,
                         line := if cutLine then none else tu.line }
    let s1 := if cutLine then s.bump (countDelivery fun c => { c with linesDropped := c.linesDropped + 1 }) else s
    if (headCut || cutLine || rows.length < tu.rows.length) && rows.isEmpty && tu1.line.isNone then
      { s1 with delivery := { s1.delivery with turn := none, lastTap := tu.tap } }
    else s1.setTurn (some tu1)

/-- LEG_TIMER_EXPIRY (R138). -/
def execLegTimerExpiry (t : Moment) (slot : Fin 8) (stream : Fin 2) (s : State) : Host.Outcome State Fault Refusal :=
  let s := s.tick t
  .next <|
    match s.partAt slot stream with
    | some { state := st, timer := .running deadline, .. } =>
      if deadline ≤ s.now ∧ ¬ s.closed then
        if st = .collecting then
          (((s.cutTurn slot stream).voidPart slot stream).bump
            (countDelivery fun c => { c with legTimeouts := c.legTimeouts + 1 })).settle
        else s.modifyPart slot stream fun p => { p with timer := .expired }
      else s
    | some _ | none => s

/-- Every COLLECTING or FLUSHING part becomes VOID with its DONE (R139). -/
def State.voidParts (s : State) : State :=
  s.legPlaces.foldl (fun s (i, j) =>
    match s.partAt i j with
    | some p => if p.state = .collecting ∨ p.state = .flushing then s.voidPart i j else s
    | none => s) s

/-- LINK_DOWN (R139, R154, R181). -/
def execLinkDown (t : Moment) (s : State) : Host.Outcome State Fault Refusal :=
  let s := s.tick t
  .next <|
    if s.delivery.linkUp then
      let s1 := (if s.closed then s else s.voidParts).dropTurn
      let notices := noticesWaiting s1
      let lost := s1.records.queue.length
      let s2 := { s1.emptyRecords with delivery := { s1.emptyRecords.delivery with port := [], linkUp := false } }
      let s3 := (s2.bump (countWindow fun c => { c with noticesLost := c.noticesLost + BitVec.ofNat 32 notices })).bump
        (countLost lost)
      ((s3.bump (countDelivery fun c => { c with linkDowns := c.linkDowns + 1 })).raise .link).settle
    else s

/-- LINK_UP (R139). -/
def execLinkUp (t : Moment) (s : State) : Host.Outcome State Fault Refusal :=
  let s := s.tick t
  .next { s with delivery := { s.delivery with linkUp := true } }

end Sys2Proof.Machine
end

