-- ==== Sys2Proof/Machine/Membership.lean ====
section
/-! DEFINITION. Changes of the station state and what each unit does at them (R4, R15, R36, R55, R63, R77 to R79, R89 to
R94, R120, R141, R142, R155, R170, R177), the rules for a channel's completeness on removals (R111, R112), and the
meanings of the membership timers. -/

namespace Sys2Proof.Machine

def countMembership (f : MembershipCounters → MembershipCounters) (c : Counters) : Counters := { c with mem := f c.mem }

def countFrames (f : FrameCounters → FrameCounters) (c : Counters) : Counters := { c with frames := f c.frames }

/-! ### The units on entry into CONFIGURED -/

/-- What is dropped on an entry into CONFIGURED other than by a reset is counted (R36, R142, R155; log 22). -/
def State.countDropped (s : State) : State :=
  let line := match s.delivery.turn with | some tu => if tu.line.isSome then 1 else 0 | none => 0
  let lines := s.taps[(0 : Fin 2)].lines.length + s.taps[(1 : Fin 2)].lines.length + line
  let missed (t : Tap) : Counters → Counters :=
    countTap t fun c => { c with triggersMissed := c.triggersMissed + BitVec.ofNat 32 s.taps[t].triggers.length }
  (((s.bump (countDelivery fun c => { c with linesDropped := c.linesDropped + BitVec.ofNat 32 lines })).bump
    (missed 0)).bump (missed 1)).bump (countLost s.records.queue.length)

/-- The position unit on entry into CONFIGURED and at an acquisition reset (R14, R15). -/
def Position.toConfigured (p : Position) (a : Memory) : Position :=
  { p.stop a with offset := 0, latch := none, lastIssue := none, strobes := Vector.replicate 4 none }

/-- A tap on entry into CONFIGURED and at an acquisition reset (R35, R36); a TRIG pulse runs to its end (log 12). -/
def TapState.toConfigured (x : TapState) : TapState := { TapState.reset with pulse := x.pulse }

/-- The delivery engine and the port on entry into CONFIGURED (R123, R124, R126, R142, R155): notices stay (R181). -/
def Delivery.toConfigured (d : Delivery) : Delivery :=
  { Delivery.reset with port := d.port.filter PortRequest.isNotice, linkUp := d.linkUp, flushCount := d.flushCount }

/-- The trunk port stops taking part; a note it is sending runs to its end (R55; log 15). A stall does not outlive it: the
model's choice (log 46). -/
def Trunk.detach (tr : Trunk) : Trunk :=
  { Trunk.reset with
    wire := match tr.wire with
      | some w => match w.role with
        | .sender _ _ _ => some { w with reserved := false, stretch := none, released := true }
        | .loser _ | .receiver | .aside => none
      | none => none }

/-- The membership unit's own values on entry into CONFIGURED (R94): state and station number stay. -/
def Membership.toConfigured (m : Membership) : Membership :=
  { Membership.reset with state := m.state, number := m.number }

/-- Every unit is put into the condition that an acquisition reset gives it (R94, R120, R170, R184). -/
def State.unitsToConfigured (s : State) (byReset : Bool) : State :=
  let s1 := if byReset then s else s.countDropped
  let s2 := ({ s1 with trunk := s1.trunk.detach }).withdrawAll (if byReset then .reset else .withdrawn) false
  { s2 with
    pos := s2.pos.toConfigured s2.area
    taps := s2.taps.map TapState.toConfigured
    freeLow := 256
    mem := s2.mem.toConfigured
    frames := { FrameUnit.reset with lostGrant := if byReset then none else s2.frames.lostGrant }
    delivery := s2.delivery.toConfigured
    records := Records.reset
    signals := { s2.signals with outputs := Vector.replicate 4 Output.reset } }

/-- Entry into UNCONFIGURED by the configuration check (R93, R174, R177; log 36): the area is kept. -/
def State.enterUnconfigured (s : State) : State :=
  let s1 := s.changeState .unconfigured
  { s1 with
    taps := s1.taps.map fun x => { x with pulse := none }
    mem := { s1.mem with number := none }
    signals := { s1.signals with filtered := Vector.replicate 4 none, sampled := Vector.replicate 4 none }
    window := { s1.window with digest := 0, nextCheck := none } }

/-- Entry into CONFIGURED (R94); with CONFIG-CORRUPT set the station passes on to UNCONFIGURED (R177). -/
def State.enterConfigured (s : State) (byReset : Bool) : State :=
  let s1 := s.unitsToConfigured byReset
  let s2 := if s1.mem.state = .configured then s1 else s1.changeState .configured
  if s2.faultSet .configCorrupt then s2.enterUnconfigured else s2

/-! ### Entering LISTENING, LEAVING, LAPSED -/

/-- Entry into LISTENING, from CONFIGURED or back from JOINING: a full listen period, no alignment and no ROLL yet
(R4, R72, R79; log 19). A station that was not taking part waits to see the trunk idle (R37). -/
def State.enterListening (s : State) : State :=
  let s1 := s.changeState .listening
  { s1 with
    pos := s1.pos.stop s1.area
    trunk := { s1.trunk with view := if takesPart s.mem.state then s1.trunk.view else .settling }
    mem := { s1.mem with heardRoll := false, listen := s1.startTimer (2 * cfgR s1.area) } }

/-- Every timer of the membership unit stops (R89, R91). -/
def Membership.stopTimers (m : Membership) : Membership :=
  { m with roll := .stopped, listen := .stopped, silence := Vector.replicate 8 .stopped }

def Peer.forgetSkew (p : Peer) : Peer := { p with skew := none }

/-- MEMBER or JOINING to LEAVING by the LEAVE command (R15, R63, R78, R89). -/
def State.enterLeaving (s : State) : State :=
  let wasMember := s.mem.state = .member
  let s1 := s.changeState .leaving
  let s2 := { s1 with mem := { s1.mem.stopTimers with peers := s1.mem.peers.map (Option.map Peer.forgetSkew), leavingByReset := false } }
  let s3 := if wasMember then
      { s2 with pos := { s2.pos with mode := .tracking } }.withdrawAll .withdrawn true
    else s2
  s3.claimRoster .rosterLeave

/-- The own parts' leg timers stop (R141). -/
def State.stopLegTimers (s : State) : State :=
  s.legPlaces.foldl (fun s (i, j) => s.modifyPart i j fun p => { p with timer := .stopped }) s

/-- Entry into LAPSED (R15, R63, R91, R141). -/
def State.lapse (s : State) : State :=
  let s1 := (s.changeState StationState.lapsed).bump (countMembership fun c => { c with lapses := c.lapses + 1 })
  let s2 := { s1 with
    pos := { s1.pos with mode := if s1.pos.mode = PositionMode.issuing then PositionMode.tracking else s1.pos.mode }
    trunk := { s1.trunk with vetoRun := 0 }
    mem := { s1.mem.stopTimers with leavingByReset := false, lapsedAt := some s1.now } }
  (((s2.withdrawAll .withdrawn false).dropTurn.stopLegTimers).claimRoster .rosterLeave).settle

/-- A cause of R91 in one of the states it acts from. -/
def State.lapseFrom (s : State) (from_ : List StationState) : State := if from_.contains s.mem.state then s.lapse else s

/-- The station leaves LAPSED (R92). -/
def State.leaveLapsed (s : State) : State :=
  let s1 := s.enterConfigured false
  if s1.mem.state = .configured ∧ cfgAutoRejoin s1.area then s1.enterListening else s1

/-! ### Completeness on removals (R111, R112) -/

def State.setChannel (s : State) (c : Fin 8) (x : Channel) : State :=
  { s with frames := { s.frames with channels := s.frames.channels.set c x } }

/-- The configured channels. -/
def State.channelNumbers (s : State) : List (Fin 8) := (List.finRange 8).filter fun c => c.val < cfgChannels s.area

/-- The next sequence of a channel that declares itself complete: one more than the last seen value, or 0, unless it is
already above that (R111, R112). -/
def Channel.restart (ch : Channel) : Byte :=
  let m := (ch.lastSeen.map (· + 1)).getD 0
  if seqAbove ch.nextSeq m then ch.nextSeq else m

/-- Some station of the roster other than this one reported channel c complete in its latest ROLL. -/
def State.reportedComplete (s : State) (c : Fin 8) : Bool :=
  (List.finRange 8).any fun p =>
    p != s.self && hasStation s.mem.roster p
      && (match s.mem.peers[p] with
          | some { roll := some r, .. } => (r.channels[c.val]?).any RollChannel.complete
          | some { roll := none, .. } | none => false)

/-- The orphan rule (R111). -/
def State.orphanRule (s : State) : State :=
  s.channelNumbers.foldl (fun s c =>
    let ch := s.frames.channels[c]
    if cfgHome s.area c = s.self.val ∧ ¬ ch.complete ∧ ¬ s.reportedComplete c then
      (s.setChannel c { ch with queue := [], complete := true, blind := none, nextSeq := ch.restart }).bump
        (countFrames fun f => { f with orphanDeclared := f.orphanDeclared + 1,
                                       grantsDiscarded := f.grantsDiscarded + BitVec.ofNat 32 ch.queue.length })
    else s) s

/-- The sole-member rule (R112). -/
def State.soleRule (s : State) : State :=
  if s.mem.roster = addStation 0 s.self then
    s.channelNumbers.foldl (fun s c =>
      let ch := s.frames.channels[c]
      if ch.complete then s else s.setChannel c { ch with complete := true, blind := none, nextSeq := ch.restart }) s
  else s

/-- A MEMBER's checks on entry and on a removal; their order is open (R111, R112; log 8). -/
def State.memberChecks (s : State) : State :=
  if s.mem.state = .member then
    let s1 := { s with draws := s.draws + 1 }
    if Config.orphanFirst s.draws then s1.orphanRule.soleRule else s1.soleRule.orphanRule
  else s

/-! ### Removals -/

/-- The station leaves the roster, its peer record and timer with it. -/
def State.dropFromRoster (s : State) (p : Station) : State :=
  { s with mem := { s.mem with roster := dropStation s.mem.roster p, peers := s.mem.peers.set p none,
                               silence := s.mem.silence.set p .stopped } }

/-- Who posts the legs that a removal completes: the DROP's sender, or the lowest station left (R148). -/
def removalPoster (dropSender : Option Station) (rosterAfter : StationSet) : Option Station :=
  match dropSender with
  | some d => some d
  | none => lowestStation rosterAfter

/-- Removes p from the roster and from the legs (R81, R88, R90, R146); the own removal is not applied to the legs (R146;
log 21). At a MEMBER or LEAVING station it is counted. -/
def State.removeStation (s : State) (p : Station) (dropSender : Option Station) : State :=
  let s1 := s.dropFromRoster p
  let s2 := if s.mem.state = .member ∨ s.mem.state = .leaving then
      s1.bump (countMembership fun c => { c with removals := c.removals + 1 })
    else s1
  (if p = s.self then s2 else s2.removeFromLegs p (removalPoster dropSender s1.mem.roster)).memberChecks

/-! ### Timers -/

/-- LISTEN_TIMER_EXPIRY (R79). -/
def execListenTimerExpiry (t : Moment) (s : State) : Host.Outcome State Fault Refusal :=
  let s := s.tick t
  .next <|
    if s.mem.state = .listening ∧ s.mem.listen.due s.now then
      let s1 := s.claimRoster .rosterJoin
      { s1 with mem := { s1.mem with listen := .stopped } }.changeState .joining
    else s

/-- ROLL_TIMER_EXPIRY (R84). -/
def execRollTimerExpiry (t : Moment) (s : State) : Host.Outcome State Fault Refusal :=
  let s := s.tick t
  .next <|
    if s.mem.state = .member ∧ s.mem.roll.due s.now then
      let s1 := s.claimRoll
      { s1 with mem := { s1.mem with roll := .running (s1.now + cfgR s1.area) } }
    else s

/-- SILENCE_TIMER_EXPIRY (R87): the timer restarts with 2R of its 3R elapsed. -/
def execSilenceTimerExpiry (t : Moment) (p : Station) (s : State) : Host.Outcome State Fault Refusal :=
  let s := s.tick t
  .next <|
    if s.mem.state = .member ∧ s.mem.silence[p].due s.now then
      let s1 := (s.claimDrop p).bump (countMembership fun c => { c with dropsClaimed := c.dropsClaimed + 1 })
      { s1 with mem := { s1.mem with silence := s1.mem.silence.set p (s1.startTimer (cfgR s1.area)) } }
    else s

end Sys2Proof.Machine
end

