-- ==== Sys2Proof/Machine/Signals.lean ====
section
/-! DEFINITION. The signal unit (R158 to R170): input edges, output schedules, frame flags, and the meaning of
SIGNAL_EDGE. -/

namespace Sys2Proof.Machine

def countSignals (f : SignalCounters → SignalCounters) (c : Counters) : Counters := { c with signals := f c.signals }

def State.setOutputState (s : State) (j : Fin 4) (o : Output) : State :=
  { s with signals := { s.signals with outputs := s.signals.outputs.set j o } }

/-- The output is asserted (R163). -/
def State.asserted (s : State) (j : Fin 4) : Bool :=
  let o := s.signals.outputs[j]
  match cfgOutputMode s.area j with
  | .off => false
  | .pulse => match o.ranges with
    | r :: _ => decide (r.1 ≤ s.pos.lineIndex) && decide (s.pos.lineIndex < r.2)
    | [] => false
  | .follow => o.follow
  | .manual => o.manual

/-- The level of the pin SOUTj, true for high (R163). -/
def State.outputPin (s : State) (j : Fin 4) : Bool := s.configured && (s.asserted j != cfgActiveLow s.area j)

/-! ### Schedules -/

/-- What an advance to line index n does to an output's schedule (R165, R166). -/
def Output.advance (n : Nat) (o : Output) : Output :=
  let due := o.changes.takeWhile fun c => c.1 ≤ n
  { o with ranges := o.ranges.dropWhile (fun r => r.2 ≤ n), changes := o.changes.dropWhile (fun c => c.1 ≤ n),
           follow := (due.getLast?.map Prod.snd).getD o.follow,
           lastApplied := (due.getLast?.map Prod.fst).or o.lastApplied }

/-- Each output acts on a line-index advance (R10, R165, R166). -/
def State.advanceOutputs (s : State) : State :=
  { s with signals := { s.signals with outputs := s.signals.outputs.map (Output.advance s.pos.lineIndex) } }

def overlaps (r q : Nat × Nat) : Bool := decide (r.1 < q.2) && decide (q.1 < r.2)

/-- Inserts an entry in start order. -/
def insertByStart {α : Type} (e : Nat × α) : List (Nat × α) → List (Nat × α)
  | [] => [e]
  | q :: rest => if e.1 ≤ q.1 then e :: q :: rest else q :: insertByStart e rest

/-- A PULSE output takes a SIGNAL with line index x (R164). -/
def State.takePulse (s : State) (j : Fin 4) (x : Nat) : State :=
  let n := s.pos.lineIndex
  let o := s.signals.outputs[j]
  let r : Nat × Nat := (x + cfgOutputOffset s.area j, x + cfgOutputOffset s.area j + cfgOutputWidth s.area j)
  let count (f : OutputCounters → OutputCounters) (s : State) : State := s.bump (countOutput j f)
  let late (start : Nat) (s : State) : State :=
    if start ≤ n then count (fun c => { c with partlyLate := c.partlyLate + 1 }) s else s
  if lastLine s.area < r.1 then count (fun c => { c with outOfRange := c.outOfRange + 1 }) s
  else if r.2 ≤ n then count (fun c => { c with lateSkipped := c.lateSkipped + 1 }) s
  else if o.ranges.any (overlaps r) then
    let hit := o.ranges.filter (overlaps r)
    let merged := hit.foldl (fun m q => (min m.1 q.1, max m.2 q.2)) r
    late merged.1 (count (fun c => { c with entriesMerged := c.entriesMerged + 1 })
      (s.setOutputState j { o with ranges := insertByStart merged (o.ranges.filter fun q => !overlaps r q) }))
  else if 8 ≤ o.ranges.length then
    (count (fun c => { c with scheduleFull := c.scheduleFull + 1 }) s).raise .markOverrun
  else
    late r.1 (count (fun c => { c with entriesInserted := c.entriesInserted + 1 })
      (s.setOutputState j { o with ranges := insertByStart r o.ranges }))

/-- A FOLLOW output takes a SIGNAL with line index x and level v (R166). -/
def State.takeFollow (s : State) (j : Fin 4) (x : Nat) (v : Bool) : State :=
  let n := s.pos.lineIndex
  let o := s.signals.outputs[j]
  let start := x + cfgOutputOffset s.area j
  let count (f : OutputCounters → OutputCounters) (s : State) : State := s.bump (countOutput j f)
  if lastLine s.area < start then count (fun c => { c with outOfRange := c.outOfRange + 1 }) s
  else if start ≤ n then
    if o.lastApplied.any (fun last => decide (start < last)) then
      count (fun c => { c with lateSkipped := c.lateSkipped + 1 }) s
    else
      count (fun c => { c with lateApplied := c.lateApplied + 1 })
        (s.setOutputState j { o with follow := v, lastApplied := some start })
  else if o.changes.any (fun c => c.1 == start) then
    count (fun c => { c with entriesMerged := c.entriesMerged + 1 })
      (s.setOutputState j { o with changes := o.changes.map fun c => if c.1 = start then (start, v) else c })
  else if 8 ≤ o.changes.length then
    (count (fun c => { c with scheduleFull := c.scheduleFull + 1 }) s).raise .markOverrun
  else
    count (fun c => { c with entriesInserted := c.entriesInserted + 1 })
      (s.setOutputState j { o with changes := insertByStart (start, v) o.changes })

/-- An output takes a SIGNAL when its mode and subscribed ID call for it (R162). -/
def State.takeSignal (s : State) (j : Fin 4) (id : BitVec 4) (level : Bool) (x : Nat) : State :=
  if cfgOutputId s.area j = id then
    match cfgOutputMode s.area j with
    | .pulse => s.takePulse j x
    | .follow => s.takeFollow j x level
    | .off | .manual => s
  else s

/-- Flag i is set in the pending legs of the frame of line x, or counted as missed (R168). -/
def State.setFlag (s : State) (i : Nat) (x : Nat) : State :=
  let k := frameOf s.area x
  match s.entryFor k with
  | some e =>
    let flagged : Leg → Leg := fun l => if l.status = .pending then { l with flags := l.flags ||| (1#8 <<< i) } else l
    (s.setSlot (slotOf k) (.known { e with legs := e.legs.map flagged })).bump
      (countSignals fun c => { c with flagsSet := c.flagsSet + 1 })
  | none => s.bump (countSignals fun c => { c with flagMissed := c.flagMissed + 1 })

/-- The effects of an applied SIGNAL (R162); after an acquisition reset a LEAVING station takes no output entry
(R169). -/
def State.applySignal (s : State) (id : BitVec 4) (level : Bool) (line : Word) : State :=
  let x := line.toNat
  let s1 := if s.closed then s else (List.finRange 4).foldl (fun s j => s.takeSignal j id level x) s
  let s2 := if id.toNat < 8 then s1.setFlag id.toNat x else s1
  s2.bump (countSignals fun c => { c with signalsApplied := c.signalsApplied + 1 })

/-! ### Inputs -/

/-- The claim of a SIGNAL for an accepted edge (R159, R160). -/
def State.claimEdge (s : State) (i : Fin 4) (level : Bool) : State :=
  let claim : Claim := .signal (cfgInputId s.area i) level (.sin i) (BitVec.ofNat 32 s.pos.lineIndex)
  if s.hasRoom .signal then s.claimFifo claim
  else ((s.claimFifo claim).bump (countSignals fun c => { c with signalOverruns := c.signalOverruns + 1 })).raise
    .signalOverrun

/-- The samples show a level: the last sample known to show another is the latest that showed the old level (R158). -/
def Sample.next (old : Option Sample) (level : Bool) (now : Moment) : Sample :=
  match old with
  | some x => { level := level, since := if x.level = level then x.since else x.shown, shown := now }
  | none => { level := level, since := now, shown := now }

/-- The samples of an input show a level (R158). -/
def State.takeSample (s : State) (i : Fin 4) (level : Bool) : State :=
  { s with signals := { s.signals with
      sampled := s.signals.sampled.set i (some (Sample.next s.signals.sampled[i] level s.now)) } }

/-- No sample within the input's filter time is known to have shown another level than the sampled one (R158; log 34). -/
def State.filterPassed (s : State) (i : Fin 4) : Bool :=
  s.signals.sampled[i].any fun x => decide (x.since + cfgInputFilter s.area i ≤ s.now)

/-- The filter of an input has taken a level (R158). -/
def State.setFiltered (s : State) (i : Fin 4) (level : Bool) : State :=
  { s with signals := { s.signals with filtered := s.signals.filtered.set i (some level) } }

/-- SIGNAL_EDGE (R158, R159): its moment is that of the acceptance, the filter time after the input settled. Where a
sample within that time showed the other level, the level is the sampled one only (log 34). -/
def execSignalEdge (t : Moment) (i : Fin 4) (level : Bool) (s : State) : Host.Outcome State Fault Refusal :=
  let s := s.tick t
  let s0 := s.takeSample i level
  .next <|
    if !s.configured then s
    else if s.signals.filtered[i] ≠ some (!level) || !s0.filterPassed i then s0
    else
      let s1 := s0.setFiltered i level
      if cfgInputOff s.area i || !cfgInputEdge s.area i level then s1
      else
        let s2 := s1.bump (countInput i fun c => { c with edgesAccepted := c.edgesAccepted + 1 })
        if s.mem.state = .member then s2.claimEdge i level
        else s2.bump (countInput i fun c => { c with edgesUnclaimed := c.edgesUnclaimed + 1 })

end Sys2Proof.Machine
end

