-- ==== Sys2Proof/Machine/Frames.lean ====
section
/-! DEFINITION. The frame unit (R96 to R120, R189): who may open a frame, what an OPEN names, and what the station does
with an OPEN, a GRANT, a GATE and the frame knowledge of a ROLL. -/

namespace Sys2Proof.Machine

/-! ### Opening (R101a, R189) -/

def State.noForeign (s : State) : Bool := (List.finRange 8).all fun i => !(s.frames.slots[i]).isForeign

/-- The station is opener-eligible for frame k (R101a). -/
def State.openerEligible (s : State) (k : Nat) : Bool :=
  s.mem.state == .member && s.noForeign && (s.frames.founded || decide (s.mem.joinFrame + 8 < k))

/-- The claim of OPEN at a line-index advance (R101a). -/
def State.claimAtAdvance (s : State) : State :=
  let k := s.currentFrame
  if s.openerEligible k && decide (s.frames.h < k) && s.allowed k then s.claimOpening k else s

/-- The channels the configuration assigns to a stream, in increasing number. -/
def State.streamChannels (s : State) (j : Fin 2) : List (Fin 8) :=
  s.channelNumbers.filter fun c => cfgChannelStream s.area c == j.val

/-- Those channels from the first one after the rotation mark, going round (R101a). -/
def State.rotatedChannels (s : State) (j : Fin 2) : List (Fin 8) :=
  match s.frames.rotation[j] with
  | none => s.streamChannels j
  | some m => (s.streamChannels j).filter (fun c => decide (m < c)) ++ (s.streamChannels j).filter fun c => decide (c ≤ m)

/-- The head grant of a channel that the station may steer to (R101a). -/
def State.steerTo (s : State) (c : Fin 8) : Option Steer :=
  match s.frames.channels[c].queue with
  | g :: _ => if s.frames.channels[c].complete then some { channel := c, seq := g.seq, base := g.base } else none
  | [] => none

/-- The channel choice for a stream (R101a). -/
def State.chooseSteer (s : State) (j : Fin 2) : Option Steer := (s.rotatedChannels j).findSome? s.steerTo

/-- The stream entries of an OPEN for frame k, composed now (R67, R101a). -/
def State.composeEntries (s : State) (k : Nat) : StreamEntries :=
  let entry (j : Fin 2) := if (s.frames.slots[slotOf k]).occupied then none else s.chooseSteer j
  if cfgStreams s.area = 2 then .two (entry 0) (entry 1) else .one (entry 0)

/-! ### Founding (R110) -/

def Channel.founded : Channel := { Channel.reset with complete := true }

/-- A waiting flush whose part is gone leaves the port (log 42). -/
def State.pruneFlushes (s : State) : State :=
  let kept : PortRequest → Bool
    | .partFlush i j => (s.partAt i j).any fun p => p.flush == .waiting
    | .notice _ _ | .recordWrite | .recordFlush | .recordMessage => true
  { s with delivery := { s.delivery with port := s.delivery.port.filter kept } }

/-- The frame unit is told that the station has founded the group (R110). -/
def State.found (s : State) : State :=
  { s with frames :=
      { FrameUnit.reset with
        channels := Vector.ofFn fun c : Fin 8 => if c.val < cfgChannels s.area then Channel.founded else Channel.reset
        founded := true
        lostGrant := s.frames.lostGrant } }.pruneFlushes

/-! ### Grants (R102, R104, R108) -/

/-- The last seen value is raised to s (R102); so is the blind limit by a removed head (R108). -/
def raiseSeq (old : Option Byte) (s : Byte) : Option Byte :=
  match old with
  | none => some s
  | some l => if seqAbove s l then some s else some l

/-- A grant joins the tail (R108). -/
def Channel.append (ch : Channel) (seq : Byte) (base : Page) : Channel :=
  { ch with queue := ch.queue ++ [{ seq, base }], lastSeen := raiseSeq ch.lastSeen seq,
            nextSeq := if seqAbove ch.nextSeq (seq + 1) then ch.nextSeq else seq + 1 }

/-- Room is made for sequence s in an incomplete channel: what is not below it goes, and then the head of a full
queue, past which the blind limit rises (R108). -/
def Channel.makeRoom (ch : Channel) (s : Byte) : Channel :=
  let kept := ch.queue.filter fun g => seqBelow g.seq s
  match kept with
  | g :: rest => if 16 ≤ kept.length then { ch with queue := rest, blind := raiseSeq ch.blind g.seq }
                 else { ch with queue := kept }
  | [] => { ch with queue := [] }

/-- A complete station can append sequence s in order and within 16 (R108). -/
def Channel.canAppend (ch : Channel) (s : Byte) : Bool :=
  decide (ch.queue.length < 16) && (match ch.queue.getLast? with | some g => seqBelow g.seq s | none => true)

/-- The channel after its grant q is consumed (R104). -/
def Channel.consume (ch : Channel) (q : Byte) : Channel :=
  if ch.complete then { ch with queue := ch.queue.drop 1, lastSeen := raiseSeq ch.lastSeen q }
  else
    let passed := match ch.blind with | some b => seqAtOrBelow b q | none => false
    { queue := ch.queue.filter fun g => !seqAtOrBelow g.seq q
      complete := passed
      blind := if passed then none else ch.blind
      nextSeq := if seqAbove q ch.nextSeq || q == ch.nextSeq then q + 1 else ch.nextSeq
      lastSeen := raiseSeq ch.lastSeen q }

def countGrants (consumed discarded : Nat) : Counters → Counters :=
  countFrames fun f => { f with grantsConsumed := f.grantsConsumed + BitVec.ofNat 32 consumed,
                                grantsDiscarded := f.grantsDiscarded + BitVec.ofNat 32 discarded }

/-- The check of a steered entry against the station's own queue (R104). -/
def State.grantMatches (s : State) (e : Steer) : Bool :=
  let ch := s.frames.channels[e.channel]
  !ch.complete || (match ch.queue with | g :: _ => g.seq == e.seq && g.base == e.base | [] => false)

/-- Consumes the grant of a steered entry for stream j (R104; a channel the station does not have: log 42). -/
def State.consumeSteer (s : State) (j : Fin 2) (e : Steer) : State :=
  let ch := s.frames.channels[e.channel]
  let after := ch.consume e.seq
  let named := if ch.queue.any (fun g => g.seq == e.seq) then 1 else 0
  let s1 := if e.channel.val < cfgChannels s.area then
      (s.setChannel e.channel after).bump (countGrants named (ch.queue.length - after.queue.length - named))
    else s
  { s1 with frames := { s1.frames with rotation := s1.frames.rotation.set j (some e.channel) } }

/-- DESYNC (R117): a member lapses. -/
def State.desync (s : State) : State :=
  ((s.raise .desync).bump (countFrames fun f => { f with desyncSeen := f.desyncSeen + 1 })).lapseFrom [.member]

/-- The effects of an applied GRANT (R108). -/
def State.applyGrant (s : State) (c : Fin 8) (seq : Byte) (base : Page) : State :=
  let ch := s.frames.channels[c]
  if cfgChannels s.area ≤ c.val then s.bump (countFrames fun f => { f with grantsIgnored := f.grantsIgnored + 1 })
  else if ch.complete then
    if ch.canAppend seq then s.setChannel c (ch.append seq base) else s.desync
  else
    let roomy := ch.makeRoom seq
    (s.setChannel c (roomy.append seq base)).bump (countGrants 0 (ch.queue.length - roomy.queue.length))

/-! ### OPEN (R103, R105) -/

def StreamEntries.count : StreamEntries → Nat
  | .one _ => 1
  | .two _ _ => 2

def StreamEntries.entry : StreamEntries → Fin 2 → Option Steer
  | .one e0, j => if j = 0 then e0 else none
  | .two e0 e1, j => if j = 0 then e0 else e1

/-- The steered entries, with their streams. -/
def StreamEntries.steered (e : StreamEntries) : List (Fin 2 × Steer) :=
  [(0 : Fin 2), 1].filterMap fun j => (e.entry j).map fun x => (j, x)

/-- The leg record of a stream on entry (R97, R122). -/
def newLeg (self : Station) (mask : StationSet) (e : Option Steer) : Leg :=
  { status := if e.isSome then .pending else .unsteered, steer := e, mask := mask, delivered := 0, void := 0,
    removed := 0, gapTotal := 0, flags := 0,
    own := if e.isSome && hasStation mask self then some OwnPart.new else none }

/-- A new own part while delivery is closed or the link is down (R122, R139, R142). -/
def State.bornVoid (s : State) (i : Fin 8) (j : Fin 2) : State :=
  if (s.partAt i j).isSome then
    if s.closed then s.markVoid i j
    else if s.delivery.linkUp then s
    else s.voidPart i j
  else s

/-- Frame k is entered as a known entry (R105). -/
def State.enterFrame (s : State) (k : Nat) (mask : StationSet) (entries : StreamEntries) : State :=
  let i := slotOf k
  let leg (j : Fin 2) := newLeg s.self mask (entries.entry j)
  let e : Entry := { frame := k, resumed := s.frames.resume == some k, legs := #v[leg 0, leg 1] }
  ((((s.setSlot i (.known e)).bump (countFrames fun f => { f with framesOpened := f.framesOpened + 1 })).bornVoid i
    0).bornVoid i 1).startLegTimers.endChecks

def countOpenIgnored (f : FrameCounters) : FrameCounters := { f with opensIgnored := f.opensIgnored + 1 }

def countFrameLost (f : FrameCounters) : FrameCounters := { f with framesLost := f.framesLost + 1 }

/-- H becomes k; the frames passed over are counted (R99). -/
def State.raiseH (s : State) (k : Nat) : State :=
  { s with frames := { s.frames with h := k } }.bump
    (countFrames fun f => { f with framesSkipped := f.framesSkipped + BitVec.ofNat 32 (k - s.frames.h - 1) })

/-- A foreign entry is removed by a steered OPEN for its slot (R103; log 43). -/
def State.clearForeign (s : State) (i : Fin 8) : State :=
  if (s.frames.slots[i]).isForeign then s.setSlot i .free else s

/-- The OPEN is ignored at this station (R103). -/
def State.openIgnored (s : State) (k : Nat) (entries : StreamEntries) : Bool :=
  decide (k ≤ s.frames.h) || !s.allowed k || entries.count != cfgStreams s.area

/-- The effects of an applied OPEN (R103, R104, R105). -/
def State.applyOpening (s : State) (frame : BitVec 16) (mask : StationSet) (entries : StreamEntries) : State :=
  let k := extendFrame s.area s.currentFrame frame
  if s.openIgnored k entries then s.bump (countFrames countOpenIgnored)
  else
    let s1 := s.raiseH k
    if entries.steered.isEmpty then s1.bump (countFrames countFrameLost)
    else if (s1.frames.slots[slotOf k].entry).isSome then (s1.bump (countFrames countFrameLost)).desync
    else
      let s2 := s1.clearForeign (slotOf k)
      if entries.steered.all fun e => s2.grantMatches e.2 then
        (entries.steered.foldl (fun s e => s.consumeSteer e.1 e.2) s2).enterFrame k mask entries
      else (s2.bump (countFrames countFrameLost)).desync

/-! ### GATE (R114) -/

/-- The gate record after an applied GATE, or none when the note leaves it as it was (R114). -/
def FrameUnit.gateAfter (f : FrameUnit) (isOpen : Bool) (g : Nat) : Option FrameUnit :=
  match isOpen, f.gateOpen with
  | false, false => if g < f.gateFrame then some { f with gateFrame := g } else none
  | false, true => some { f with gateOpen := false, gateFrame := g }
  | true, false => some { f with gateOpen := true, gateFrame := g, resume := some g }
  | true, true => if g < f.gateFrame then some { f with gateFrame := g } else none

/-- The effects of an applied GATE (R114). -/
def State.applyGate (s : State) (isOpen : Bool) (frame : BitVec 16) : State :=
  match s.frames.gateAfter isOpen (extendFrame s.area s.currentFrame frame) with
  | some f => { s with frames := f }
  | none => s.bump (countFrames fun f => { f with gatesUnchanged := f.gatesUnchanged + 1 })

/-! ### Learning from ROLLs (R109, R118, R119) -/

/-- A frame field of a ROLL, extended by the frame of the group count it carries (R74). -/
def State.rollFrame (s : State) (r : Roll) (f : BitVec 16) : Nat :=
  extendFrame s.area (r.groupCount.toNat / cfgD s.area / cfgL s.area) f

/-- A slot set against the ROLL's occupied list (R118). -/
def Slot.learn (x : Slot) (named : Option Nat) : Slot :=
  match named, x with
  | none, _ => .free
  | some k, .known e => if e.frame = k then .known e else .foreign k
  | some k, .free => .foreign k
  | some k, .foreign _ => .foreign k

/-- H, the gate record, the resume frame and the slots are taken from the latest ROLL (R118). -/
def State.learnFrames (s : State) (r : Roll) : State :=
  let occupied := r.occupied.map (s.rollFrame r)
  let g := s.rollFrame r r.gateFrame
  { s with frames :=
      { s.frames with
        h := s.rollFrame r r.h
        gateOpen := r.gateOpen
        gateFrame := g
        resume := if r.gateOpen then some g else none
        slots := Vector.ofFn fun i : Fin 8 => (s.frames.slots[i]).learn (occupied.find? fun k => slotOf k == i) } }.pruneFlushes

/-- A foreign entry that the ROLL does not name becomes FREE (R119). -/
def Slot.forget (occupied : List Nat) : Slot → Slot
  | .foreign k => if occupied.contains k then .foreign k else .free
  | .free => .free
  | .known e => .known e

def State.forgetForeign (s : State) (r : Roll) : State :=
  { s with frames := { s.frames with slots := s.frames.slots.map (Slot.forget (r.occupied.map (s.rollFrame r))) } }

/-- What an incomplete channel takes from an entry flagged complete (R109). -/
def Channel.takeReport (ch : Channel) (e : RollChannel) : Channel :=
  if e.queueLength = 0 then { ch with queue := [], complete := true, blind := none, nextSeq := e.nextSeq }
  else { ch with blind := some (e.nextSeq - 1),
                 nextSeq := if seqAbove ch.nextSeq e.nextSeq then ch.nextSeq else e.nextSeq }

/-- Completeness taken from a ROLL's channel list (R109). -/
def State.takeCompleteness (s : State) (r : Roll) : State :=
  if r.digest = s.window.digest then
    s.channelNumbers.foldl (fun s c =>
      let ch := s.frames.channels[c]
      match r.channels[c.val]? with
      | some e =>
        if e.complete && !ch.complete then
          (s.setChannel c (ch.takeReport e)).bump
            (countGrants 0 (ch.queue.length - (ch.takeReport e).queue.length))
        else s
      | none => s) s
  else s

end Sys2Proof.Machine
end

