-- ==== Sys2Proof/Machine/Taps.lean ====
section
/-! DEFINITION. The camera taps (R17 to R28, R187): trigger records, patterns, line packets and their reconciliation,
and the meanings of TRIG_PULSE_END, TRIGGER_TIMEOUT, SYNC_WORD, PACKET_ARRIVAL. -/

namespace Sys2Proof.Machine

/-! ### Trigger records (R18, R27, R28) -/

/-- A LIVE tap takes a trigger record, or refuses it into a full queue (R18); TRIG pulses for 1 µs (log 12). -/
def State.takeLive (s : State) (t : Tap) (r : Trigger) : State :=
  let x := s.taps[t]
  if x.triggers.length < 4 then
    (s.setTap t { x with triggers := x.triggers ++ [r], pulse := some (s.now + 1000) }).bump
      (countTap t fun c => { c with triggersSent := c.triggersSent + 1 })
  else s.bump (countTap t fun c => { c with overtrigger := c.overtrigger + 1 })

/-- Byte i of a pattern line (R28). -/
def patternByte (ramp : Bool) (station : Station) (t : Tap) (line i : Nat) : Byte :=
  if ramp then byteOf i
  else if i < 4 then byteOf (line / 256 ^ i)
  else if i = 4 then byteOf station.val
  else if i = 5 then byteOf t.val
  else byteOf (i + line)

def patternLine (ramp : Bool) (station : Station) (t : Tap) (line width : Nat) : List Byte :=
  (List.range width).map (patternByte ramp station t line)

/-- A PATTERN tap turns a trigger record into a finished line, if the pool grants a slot (R27). -/
def State.takePattern (s : State) (t : Tap) (r : Trigger) : State :=
  if s.slotGranted t then
    let l : Line := { index := r.index, phase := r.phase, slot := s.choice,
                      pixels := patternLine (cfgRamp s.area t) s.self t r.index (s.tapWidth t) }
    (s.setLines t (s.taps[t].lines ++ [l])).slotTaken.bump (countTap t fun c => { c with linesGood := c.linesGood + 1 })
  else (s.bump (countTap t fun c => { c with poolOverrun := c.poolOverrun + 1 })).raise .poolOverrun

/-- A tap is handed a trigger record, by its effective mode (R7, R17). -/
def State.handRecord (s : State) (t : Tap) (r : Trigger) : State :=
  match s.tapMode t with
  | .off => s
  | .live => s.takeLive t r
  | .pattern => s.takePattern t r

/-- Both taps are handed the record; which is served first is open (R7, R32; log 7). -/
def State.handRecords (s : State) (r : Trigger) : State :=
  let s1 := { s with draws := s.draws + 1 }
  if Config.tapOneFirst s.draws then (s1.handRecord 1 r).handRecord 0 r else (s1.handRecord 0 r).handRecord 1 r

/-! ### Packets (R20 to R26) -/

/-- The receiver begins a packet and asks the pool for a slot (R20, R21). -/
def State.beginPacket (s : State) (t : Tap) : State :=
  if s.slotGranted t then (s.setTap t { s.taps[t] with port := .filling s.choice }).slotTaken
  else s.setTap t { s.taps[t] with port := .nowhere }

/-- The line counter of a readable header (R20). -/
def headerCounter : List Byte → Option Byte
  | c :: _ :: _ :: _ :: _ => some c
  | _ => none

/-- A bad packet: the head trigger is missed and the expected counter follows the camera (R25). -/
def State.badPacket (s : State) (t : Tap) (bytes : List Byte) : State :=
  let x := s.taps[t]
  (s.setTap t { x with triggers := x.triggers.drop 1, expected := (headerCounter bytes).getD x.expected + 1 }).bump
    (countTap t fun c => { c with malformed := c.malformed + 1,
                                  triggersMissed := c.triggersMissed + (if x.triggers.isEmpty then 0 else 1) })

/-- A packet that was received into nowhere has ended (R21; log 11). -/
def State.overrun (s : State) (t : Tap) : State :=
  (s.bump (countTap t fun c => { c with poolOverrun := c.poolOverrun + 1 })).raise .poolOverrun

def State.setPort (s : State) (t : Tap) (p : LinePort) : State := s.setTap t { s.taps[t] with port := p }

/-- The pixel bytes of a packet: those between the header and the CRC (R20). -/
def packetPixels (bytes : List Byte) : List Byte := (bytes.take (bytes.length - 2)).drop 4

/-- A packet that was stored is good: CRC, count and number of pixels (R22, R187). -/
def packetGood (width : Nat) (bytes : List Byte) : Bool :=
  match bytes with
  | _ :: low :: high :: _ :: _ =>
    decide (6 ≤ bytes.length)
      && decide (crc16 (bytes.take (bytes.length - 2)) =
          BitVec.ofNat 16 (((bytes.drop (bytes.length - 2)).map BitVec.toNat).foldl (fun n b => 256 * n + b) 0))
      && low.toNat + 256 * high.toNat == width
      && (packetPixels bytes).length == width
  | _ => false

/-- The camera status byte (R22). -/
def packetStatus (bytes : List Byte) : Byte := (bytes[3]?).getD 0

/-- A good packet is reconciled with the trigger queue (R23, R24, R26); its fill slot is the line's, or free again. -/
def State.reconcile (s : State) (t : Tap) (slot : Fin 256) (c : Byte) (pixels : List Byte) : State :=
  let x := s.taps[t]
  let d := if x.primed then (c - x.expected).toNat else 0
  let missed (n : Nat) (k : TapCounters) : TapCounters := { k with triggersMissed := k.triggersMissed + BitVec.ofNat 32 n }
  if d = 255 then
    (s.setTap t { x with port := .idle }).bump (countTap t fun k => { k with stale := k.stale + 1 })
  else if 4 ≤ d then
    (s.setTap t { x with triggers := [], expected := c + 1, port := .idle }).bump
      (countTap t fun k => missed x.triggers.length { k with breaks := k.breaks + 1 })
  else
    let skipped := min d x.triggers.length
    let count (k : TapCounters) : TapCounters := missed skipped { k with skipped := k.skipped + BitVec.ofNat 32 skipped }
    match x.triggers.drop d with
    | e :: rest =>
      (s.setTap t { x with triggers := rest, expected := c + 1, primed := true, port := .idle,
                           lines := x.lines ++ [{ index := e.index, phase := e.phase, slot := slot, pixels := pixels }]
          }).bump (countTap t fun k => count { k with linesGood := k.linesGood + 1 })
    | [] =>
      (s.setTap t { x with triggers := [], expected := c + 1, primed := true, port := .idle }).bump
        (countTap t fun k => count { k with unsolicited := k.unsolicited + 1 })

/-- The packet into a fill slot has arrived (R22). -/
def State.arrive (s : State) (t : Tap) (slot : Fin 256) (bytes : List Byte) : State :=
  if packetGood (s.tapWidth t) bytes then
    let s1 := if packetStatus bytes = 0 then s
      else s.bump (countTap t fun c => { c with statusNonzero := c.statusNonzero + 1 })
    s1.reconcile t slot ((headerCounter bytes).getD 0) (packetPixels bytes)
  else (s.badPacket t bytes).setPort t .idle

/-- What follows a change of a tap's queues: head decisions (R127) and the checks of R135. -/
def State.afterTap (s : State) : State := s.settle.endChecks

/-! ### Meanings -/

/-- TRIG_PULSE_END (R18). -/
def execTrigPulseEnd (t : Moment) (tap : Tap) (s : State) : Host.Outcome State Fault Refusal :=
  let s := s.tick t
  .next <| match s.taps[tap].pulse with
    | some deadline => if deadline ≤ s.now then s.setTap tap { s.taps[tap] with pulse := none } else s
    | none => s

/-- A trigger entry has reached the trigger timeout (R19). -/
def State.timedOut (s : State) (e : Trigger) : Bool := decide (e.issued + cfgTriggerTimeout s.area ≤ s.now)

/-- TRIGGER_TIMEOUT (R19). -/
def execTriggerTimeout (t : Moment) (tap : Tap) (s : State) : Host.Outcome State Fault Refusal :=
  let s := s.tick t
  let x := s.taps[tap]
  let n := (x.triggers.takeWhile s.timedOut).length
  .next <|
    if s.tapMode tap = .live ∧ 0 < n then
      ((s.setTap tap { x with triggers := x.triggers.drop n, expected := x.expected + BitVec.ofNat 8 n }).bump
        (countTap tap fun c => { c with timeout := c.timeout + BitVec.ofNat 32 n,
                                        triggersMissed := c.triggersMissed + BitVec.ofNat 32 n })).afterTap
    else s

/-- SYNC_WORD (R20, R21): it cuts short a packet still in progress. -/
def execSyncWord (t : Moment) (tap : Tap) (cut : List Byte) (s : State) : Host.Outcome State Fault Refusal :=
  let s := s.tick t
  .next <|
    if s.tapMode tap = .live then
      match s.taps[tap].port with
      | .idle => s.beginPacket tap
      | .filling _ => (s.badPacket tap cut).afterTap
      | .nowhere => ((((s.overrun tap).badPacket tap cut).setPort tap .idle).beginPacket tap).afterTap
    else s

/-- PACKET_ARRIVAL (R22 to R26). -/
def execPacketArrival (t : Moment) (tap : Tap) (bytes : List Byte) (s : State) : Host.Outcome State Fault Refusal :=
  let s := s.tick t
  .next <|
    if s.tapMode tap = .live then
      match s.taps[tap].port with
      | .idle => s
      | .filling slot => (s.arrive tap slot bytes).afterTap
      | .nowhere => (((s.overrun tap).badPacket tap bytes).setPort tap .idle).afterTap
    else s

end Sys2Proof.Machine
end

