-- ==== Sys2Proof/Machine/Position.lean ====
section
/-! DEFINITION. The position unit (R1 to R15): encoder counting, due lines, issue and strobes, the line-index advance,
join alignment, and the meanings of ENCODER_EVENT and STROBE_TIMER_EXPIRY. -/

namespace Sys2Proof.Machine

def countPosition (f : PositionCounters → PositionCounters) (c : Counters) : Counters := { c with pos := f c.pos }

/-! ### The line-index advance (R10) -/

/-- Every unit acts on an advance of the line index (R10). -/
def State.presentAdvance (s : State) : State := s.claimAtAdvance.startLegTimers.advanceOutputs.settle.endChecks

/-! ### Issue (R6, R7, R8) -/

/-- The strobes named by a phase fire (R8). -/
def State.fireStrobes (s : State) (phase : Nat) : State :=
  let strobe (i : Fin 4) : Option Moment :=
    if cfgStrobeNamed s.area phase i then some (s.now + cfgStrobeWidth s.area) else s.pos.strobes[i]
  { s with pos := { s.pos with strobes := Vector.ofFn strobe } }

/-- Due line n is issued (R7). -/
def State.issueLine (s : State) (n : Nat) : State :=
  let s1 := { s with pos := { s.pos with lastIssue := some s.now } }.bump
    (countPosition fun c => { c with linesIssued := c.linesIssued + 1 })
  (s1.handRecords { index := n, phase := phaseOf s.area n, issued := s.now }).fireStrobes (phaseOf s.area n)

/-- A due line comes too soon after the last issue (R6). -/
def State.tooSoon (s : State) : Bool :=
  match s.pos.lastIssue with
  | some m => decide (s.now < m + cfgLinePeriod s.area)
  | none => false

/-- What becomes of due line n, by the unit's state (R5, R6, R7). -/
def State.takeDue (s : State) (n : Nat) : State :=
  match s.pos.mode with
  | .issuing =>
    if s.tooSoon then s.bump (countPosition fun c => { c with linesSuppressed := c.linesSuppressed + 1 })
    else s.issueLine n
  | .stopped | .tracking => s

/-- The next line is due: the line index rises to it and the advance is presented (R5, R10, R11). -/
def State.lineDue (s : State) : State :=
  let n := s.pos.lineIndex + 1
  ({ s with pos := { s.pos with lineIndex := n, nextDue := s.pos.nextDue + BitVec.ofNat 32 (cfgD s.area),
                                indexEnd := n == lastLine s.area } }.takeDue n).presentAdvance

/-! ### Encoder counting (R1, R2, R5) -/

inductive EncoderStep
  | still | up | down | illegal
  deriving DecidableEq, Repr

/-- The pair that follows in forward motion (R1). -/
def forwardOf (p : Bool × Bool) : Bool × Bool := (!p.2, p.1)

/-- The step from one filtered pair to the next (R1, R2). -/
def encoderStep (p q : Bool × Bool) : EncoderStep :=
  if p = q then .still
  else if q = forwardOf p then .up
  else if p = forwardOf q then .down
  else .illegal

/-- An up-count (R1, R5). -/
def State.countUp (s : State) : State :=
  let s1 := { s with pos := { s.pos with raw := s.pos.raw + 1 } }
  if s.pos.mode ≠ .stopped ∧ s1.groupCount = s.pos.w + 1 then
    let s2 := { s1 with pos := { s1.pos with w := s.pos.w + 1 } }
    if countReached s2.pos.w s2.pos.nextDue ∧ s2.pos.lineIndex < lastLine s2.area then s2.lineDue else s2
  else s1

/-- An illegal step: counted, ENCODER raised, and a member lapses (R2). -/
def State.encoderError (s : State) : State :=
  ((s.bump (countPosition fun c => { c with encoderErrors := c.encoderErrors + 1 })).raise .encoder).lapseFrom [.member]

/-- ENCODER_EVENT (R1, R2, R5): the first pair after a reset becomes the reference and counts nothing. -/
def execEncoderEvent (t : Moment) (a b : Bool) (s : State) : Host.Outcome State Fault Refusal :=
  let s := s.tick t
  let s1 := { s with pos := { s.pos with reference := some (a, b) } }
  .next <|
    match s.pos.reference with
    | none => s1
    | some p =>
      match encoderStep p (a, b) with
      | .still => s1
      | .up => s1.countUp
      | .down => { s1 with pos := { s1.pos with raw := s1.pos.raw - 1 } }
      | .illegal => s1.encoderError

/-- STROBE_TIMER_EXPIRY (R8): the output goes low when its timer has run out. -/
def execStrobeTimerExpiry (t : Moment) (strobe : Fin 4) (s : State) : Host.Outcome State Fault Refusal :=
  let s := s.tick t
  .next <| match s.pos.strobes[strobe] with
    | some deadline =>
      if deadline ≤ s.now then { s with pos := { s.pos with strobes := s.pos.strobes.set strobe none } } else s
    | none => s

/-! ### Alignment (R12) -/

/-- The line index of a group count, at most the last line (R11, R12). -/
def alignedLine (a : Memory) (g : Word) : Nat := min (g.toNat / cfgD a) (lastLine a)

/-- W, the line index and the next due count are set from the group count (R12). -/
def Position.setLine (p : Position) (a : Memory) (g : Word) : Position :=
  { p with w := g, lineIndex := alignedLine a g, nextDue := BitVec.ofNat 32 ((alignedLine a g + 1) * cfgD a),
           indexEnd := alignedLine a g == lastLine a }

/-- A join alignment, and the founding origin with the offset that makes the group count 0 (R12): presented as one
advance (R10). -/
def State.align (s : State) (offset : Word) : State :=
  { s with pos := { ({ s.pos with offset := offset }).setLine s.area (s.pos.raw + offset) with
      mode := .tracking } }.presentAdvance

/-- The position unit enters ISSUING (R12). From STOPPED its line index is at most the last line, and INDEX-END shows it,
as at an alignment: the model's choice (log 44). The value is presented as no advance (R12 against R10; log 59). -/
def State.enterIssuing (s : State) : State :=
  let p := if s.pos.mode = .stopped then s.pos.setLine s.area s.groupCount else s.pos
  { s with pos := { p with mode := .issuing, lastIssue := none } }

end Sys2Proof.Machine
end

