-- ==== Sys2Proof/Machine/Trunk.lean ====
section
/-! DEFINITION. The trunk port (R37 to R56) and composition (R64 to R72): starting a note, lead marks, the confirm slot,
abandonment, stalls, attempts and exhaustion. Notes are taken whole (log 13). -/

namespace Sys2Proof.Machine

def countTrunk (f : TrunkCounters → TrunkCounters) (c : Counters) : Counters := { c with trunk := f c.trunk }

/-! ### Composition at the lead mark (R64) -/

/-- The ROLL the station would send now (R71). -/
def State.composeRoll (s : State) : Roll :=
  { groupCount := s.groupCount
    roster := s.mem.roster
    gateOpen := s.frames.gateOpen
    gateFrame := BitVec.ofNat 16 s.frames.gateFrame
    h := BitVec.ofNat 16 s.frames.h
    digest := s.window.digest
    faultSummary := s.pullsFaultLine
    occupied := (List.finRange 8).filterMap fun i => (s.frames.slots[i]).frame.map fun k => BitVec.ofNat 16 k
    channels := s.channelNumbers.map fun c =>
      let ch := s.frames.channels[c]
      { complete := ch.complete, nextSeq := ch.nextSeq, queueLength := BitVec.ofNat 5 ch.queue.length } }

/-- The note of a claim, composed now (R64 to R72). -/
def State.compose (s : State) : Claim → Note
  | .signal id level origin line => .signal id level origin line
  | .drop p => .drop p
  | .opening k => .opening (BitVec.ofNat 16 k) s.mem.roster (s.composeEntries k)
  | .done k stream delivered gapRows => .done (BitVec.ofNat 16 k) stream delivered (BitVec.ofNat 17 gapRows)
  | .gate isOpen => .gate isOpen (BitVec.ofNat 16 (s.currentFrame + if isOpen then 2 else 1))
  | .grant channel seq base => .grant channel seq base
  | .roll => .roll s.composeRoll
  | .rosterJoin => .rosterJoin s.window.digest (!s.mem.heardRoll)
  | .rosterLeave => .rosterLeave

/-- A ROSTER-JOIN with the founding flag set (R72). -/
def Note.founds : Note → Bool
  | .rosterJoin _ founding => founding
  | .signal .. | .drop _ | .opening .. | .done .. | .gate .. | .grant .. | .roll _ | .rosterLeave => false

/-! ### Lead marks (R3, R43, R51, R52) -/

/-- The raw count and the group count, as captured now (R3). -/
def State.capture (s : State) : Latch := { raw := s.pos.raw, group := s.groupCount }

/-- A note begins: the counts are captured and the view becomes BUSY (R3, R42). -/
def State.beginNote (s : State) (role : WireRole) (reserved : Bool) (stretch : Option Moment) : State :=
  { s with pos := { s.pos with latch := some s.capture },
           trunk := { s.trunk with view := .busy,
                                   wire := some { role := role, latch := s.capture, reserved := reserved,
                                                  stretch := stretch, released := false } } }

/-- The start conditions hold and this note is offered (R43). -/
def State.startable (s : State) : Option Claim :=
  if s.trunk.view = .idle ∧ s.trunk.queue = [] ∧ s.trunk.wire = none ∧ s.trunk.stalled = false then s.offer else none

/-- NOTE_SEND_START (R43, R64, R12). -/
def execNoteSendStart (t : Moment) (s : State) : Host.Outcome State Fault Refusal :=
  let s := s.tick t
  .next <| match s.startable with
    | none => s
    | some c =>
      let note := s.compose c
      let s1 := s.beginNote (.sender c.kind note (noteCells s.self note)) true none
      if note.founds then s1.align (-s.pos.raw) else s1

/-- LEAD_MARK (R51, R52): a mark seen in another view than IDLE is not taken (R42; log 16). -/
def execLeadMark (t : Moment) (s : State) : Host.Outcome State Fault Refusal :=
  let s := s.tick t
  .next <|
    if s.trunk.view = .idle ∧ s.trunk.wire = none ∧ s.trunk.stalled = false then
      if s.trunk.queue.length < 8 then s.beginNote .receiver true none
      else (s.beginNote .receiver false (some (s.now + cfgBitTime s.area / 2))).bump
        (countTrunk fun c => { c with stretches := c.stretches + 1 })
    else s

def State.setWire (s : State) (w : Option Wire) : State := { s with trunk := { s.trunk with wire := w } }

/-- The states that VETO-RUN and STRETCH lapse (R91). -/
def lapsable : List StationState := [.listening, .joining, .member, .leaving]

/-- STRETCH_LIMIT (R52): the station stands aside from the note (log 39). -/
def execStretchLimit (t : Moment) (s : State) : Host.Outcome State Fault Refusal :=
  let s := s.tick t
  .next <| match s.trunk.wire with
    | some w => match w.stretch with
      | some start =>
        if start + 2000000 ≤ s.now then
          ((s.setWire (some { w with role := .aside, reserved := false, stretch := none })).raise .stretch).lapseFrom lapsable
        else s
      | none => s
    | none => s

/-! ### The end of an attempt (R45, R47, R48, R61, R62) -/

inductive Attempt
  | accepted | failed | lost
  deriving DecidableEq, Repr

/-- What the fourth failed attempt brings (R48). -/
def State.exhaust (s : State) (c : Claim) : State :=
  let s1 := (s.bump (countQueue fun q => { q with notesExhausted := q.notesExhausted + 1 })).raise .noise
  match c with
  | .grant .. => (s1.lostGrantBy c).raise .grantLost
  | .done .. => s1.lapseFrom [.member, .leaving]
  | .rosterJoin => if s1.mem.state = .joining then s1.enterConfigured false else s1
  | .rosterLeave =>
    if s1.mem.state = .leaving then s1.enterConfigured false
    else if s1.mem.state = .lapsed then s1.leaveLapsed
    else s1
  | .signal .. | .drop _ | .opening _ | .gate _ | .roll => s1

/-- The held claim joins the list the ROSTER note has left (R61). -/
def State.joinHeld (s : State) : State :=
  match s.tx.held with
  | some c => { s with tx := { s.tx with held := none } }.joinList c
  | none => s

/-- A JOINING station whose JOIN has been withdrawn listens again (R79). -/
def State.joinWithdrawn (s : State) (c : Claim) : State :=
  if c = .rosterJoin ∧ s.mem.state = .joining then s.enterListening else s

/-- The attempt of the note of kind k has ended (R47); a withdrawn note is not tried again (R61, R62; log 17). -/
def State.endAttempt (s : State) (k : NoteKind) (a : Attempt) : State :=
  match s.pendingOf k with
  | [] => s
  | n :: rest =>
    let held := k == .roster && s.tx.held.isSome
    let leave (s : State) : State :=
      let s1 := (s.setPending k rest).withdrawn n (n.doom == .reset)
      (if held then s1.joinHeld else s1).joinWithdrawn n.claim
    match a with
    | .accepted =>
      let s1 := (s.setPending k rest).bump (countTrunk fun c => { c with notesSent := c.notesSent + 1 })
      if held then s1.joinHeld else s1
    | .failed =>
      let s1 := s.bump (countTrunk fun c => { c with attemptsFailed := c.attemptsFailed + 1 })
      if n.doom ≠ .none ∨ held then leave s1
      else if 4 ≤ n.attempts + 1 then (s1.setPending k rest).exhaust n.claim
      else s1.setPending k ({ n with attempts := n.attempts + 1 } :: rest)
    | .lost => if n.doom ≠ .none ∨ held then leave s else s

/-! ### The confirm slot (R44 to R50) -/

/-- The cell in which a sender lost: it released TKDAT for a 1 and sampled a 0 (R44). -/
def lossAt : List Bool → List Bool → Option Nat
  | true :: _, false :: _ => some 0
  | _ :: mine, _ :: sampled => (lossAt mine sampled).map (· + 1)
  | [], _ => none
  | _, [] => none

/-- How a station stands in a note at its end. -/
inductive Standing
  | carried (kind : NoteKind) (note : Note)
  | lostHeader (kind : NoteKind)
  | lostLate (kind : NoteKind)
  | heard
  | aside
  deriving DecidableEq, Repr

/-- A loss in the six header cells is a lost arbitration; a later one is not (R44, R45). -/
def WireRole.standing (sampled : List Bool) : WireRole → Standing
  | .sender kind note cells =>
    match lossAt cells sampled with
    | none => .carried kind note
    | some i => if i < 6 then .lostHeader kind else .lostLate kind
  | .loser kind => .lostLate kind
  | .receiver => .heard
  | .aside => .aside

/-- A note vetoed by this station: the veto run rises, and at 8 the station lapses (R46, R49). -/
def State.giveVeto (s : State) : State :=
  let s1 := { s with trunk := { s.trunk with vetoRun := s.trunk.vetoRun + 1 } }.bump
    (countTrunk fun c => { c with vetoesGiven := c.vetoesGiven + 1 })
  if 8 ≤ s1.trunk.vetoRun then (s1.raise .vetoRun).lapseFrom lapsable else s1

/-- An accepted note, sound at this station, takes the reserved place (R51). -/
def State.enterQueue (s : State) (r : Received) : State :=
  { s with trunk := { s.trunk with queue := s.trunk.queue ++ [r] } }.bump
    (countTrunk fun c => { c with notesAccepted := c.notesAccepted + 1 })

/-- DUPLICATE (R50): a member lapses. -/
def State.duplicate (s : State) : State :=
  ((s.bump (countTrunk fun c => { c with duplicateSeen := c.duplicateSeen + 1 })).raise .duplicate).lapseFrom [.member]

/-- The attempt ends by the way the station stands in the note. -/
def State.endStanding (s : State) (st : Standing) (ofCarried : Attempt) (ofLate : Attempt) : State :=
  match st with
  | .carried k _ => s.endAttempt k ofCarried
  | .lostHeader k =>
    (s.bump (countTrunk fun c => { c with arbitrationLost := c.arbitrationLost + 1 })).endAttempt k .lost
  | .lostLate k => s.endAttempt k ofLate
  | .heard | .aside => s

/-- What stands in the reserved place when the note is accepted: a sender's own note as composed, or the note as read
(R47, R51). -/
def State.received (s : State) (st : Standing) (read : Option (Station × Note)) : Option (Station × Note) :=
  match st with
  | .carried _ note => read.map fun _ => (s.self, note)
  | .lostHeader _ | .lostLate _ | .heard => read
  | .aside => none

def Standing.isCarried : Standing → Bool
  | .carried _ _ => true
  | .lostHeader _ | .lostLate _ | .heard | .aside => false

def Standing.isLate : Standing → Bool
  | .lostLate _ => true
  | .carried _ _ | .lostHeader _ | .heard | .aside => false

/-- The station drives a veto: it finds the note faulty, may veto and takes part in the note (R46). -/
def State.vetoes (s : State) (w : Wire) (cells : List Bool) : Bool :=
  (readNote cells).isNone && mayVeto s.mem.state && !w.released && w.role != .aside

/-- The sample at 3T (R40, R46): the run, the receive queue, the attempt, a duplicate. -/
def State.sampleNote (s : State) (w : Wire) (cells : List Bool) (accepted : Bool) : State :=
  let st := w.role.standing cells
  let got := if accepted && w.reserved && !w.released then s.received st (readNote cells) else none
  let s1 := s.setWire none
  let s2 := if accepted then { s1 with trunk := { s1.trunk with vetoRun := 0 } } else s1
  let s3 := match got with
    | some (p, n) => s2.enterQueue { sender := p, note := n, latch := w.latch }
    | none => s2
  let twin := st.isLate || (!st.isCarried && got.any fun r => r.1 == s.self)
  let s4 := s3.endStanding st (if accepted then .accepted else .failed) .lost
  if twin && !w.released then s4.duplicate else s4

/-- CONFIRM_SLOT (R40, R44 to R51). -/
def execConfirmSlot (t : Moment) (cells : List Bool) (othersVeto : Bool) (s : State) :
    Host.Outcome State Fault Refusal :=
  let s := s.tick t
  .next <| match s.trunk.wire with
    | some w =>
      if w.stretch.isSome || s.trunk.stalled then s
      else
        let veto := s.vetoes w cells
        ((if veto then s.giveVeto else s).sampleNote w cells (!othersVeto && !veto)).keepLeaveClaimed.settle
    | none => s

/-! ### Abandoned notes (R41, R47) -/

/-- The note on the wire has been found abandoned. A station that stood aside at the stretch limit does not count it: the
model's choice (log 60). -/
def State.abandon (s : State) (w : Wire) (cells : List Bool) : State :=
  let s1 := if w.released || w.role == .aside then s.setWire none
    else (s.setWire none).bump (countTrunk fun c => { c with notesAbandoned := c.notesAbandoned + 1 })
  s1.endStanding (w.role.standing cells) .failed .failed

/-- NOTE_ABANDONED (R41, R45, R47). -/
def execNoteAbandoned (t : Moment) (cells : List Bool) (s : State) : Host.Outcome State Fault Refusal :=
  let s := s.tick t
  .next <| match s.trunk.wire with
    | some w => if w.stretch.isSome || s.trunk.stalled then s else (s.abandon w cells).keepLeaveClaimed.settle
    | none => s

/-! ### Idle (R42) -/

/-- TRUNK_IDLE (R42). -/
def execTrunkIdle (t : Moment) (s : State) : Host.Outcome State Fault Refusal :=
  let s := s.tick t
  .next <|
    if (s.trunk.view = .settling ∨ s.trunk.view = .busy) ∧ s.trunk.wire = none ∧ s.trunk.stalled = false then
      { s with trunk := { s.trunk with view := .idle } }
    else s

/-- TRUNK_ERROR (R42): the wait for idle shows as BUSY (log 14). -/
def execTrunkError (t : Moment) (s : State) : Host.Outcome State Fault Refusal :=
  let s := s.tick t
  .next <|
    if s.trunk.view = .idle then
      { s with trunk := { s.trunk with view := .busy } }.bump
        (countTrunk fun c => { c with trunkErrors := c.trunkErrors + 1 })
    else s

/-! ### Stalls (R54; log 35) -/

/-- The silence and listen timers stand still. -/
def Membership.holdTimers (now : Moment) (m : Membership) : Membership :=
  { m with silence := m.silence.map (Timer.hold now), listen := m.listen.hold now }

/-- The silence and listen timers run on. -/
def Membership.runTimers (now : Moment) (m : Membership) : Membership :=
  { m with silence := m.silence.map (Timer.run now), listen := m.listen.run now }

/-- A sender that waits for TKCLK ends its attempt as abandoned and receives the rest (R54). -/
def State.stallSender (s : State) (w : Wire) (cells : List Bool) : State :=
  match w.role.standing cells with
  | .carried k _ =>
    (s.setWire (if w.released then none else some { w with role := .receiver })).endAttempt k .failed
  | .lostHeader k =>
    ((s.setWire (if w.released then none else some { w with role := .receiver })).bump
      (countTrunk fun c => { c with arbitrationLost := c.arbitrationLost + 1 })).endAttempt k .lost
  | .lostLate k => s.setWire (some { w with role := .loser k })
  | .heard | .aside => s

/-- The trunk is stalled at this station (R54). -/
def State.declareStall (s : State) : State :=
  ({ s with trunk := { s.trunk with stalled := true }, mem := s.mem.holdTimers s.now }.bump
    (countTrunk fun c => { c with stalls := c.stalls + 1 })).raise .stall

/-- STALL (R54). -/
def execStall (t : Moment) (cells : List Bool) (s : State) : Host.Outcome State Fault Refusal :=
  let s := s.tick t
  .next <|
    if takesPart s.mem.state && !s.trunk.stalled then
      match s.trunk.wire with
      | some w => if w.stretch.isSome then s else (s.declareStall.stallSender w cells).keepLeaveClaimed.settle
      | none => s.declareStall
    else s

/-- The trunk runs again; a station that is not settling waits for idle in BUSY (R42, R54). -/
def State.resumeTrunk (s : State) : State :=
  { s with trunk := { s.trunk with stalled := false,
                                   view := if s.trunk.view = .settling then .settling else .busy },
           mem := s.mem.runTimers s.now }

/-- STALL_END (R54, R41): the interrupted note is found abandoned. -/
def execStallEnd (t : Moment) (s : State) : Host.Outcome State Fault Refusal :=
  let s := s.tick t
  .next <|
    if s.trunk.stalled then
      match s.trunk.wire with
      | some w => (s.resumeTrunk.abandon w []).keepLeaveClaimed.settle
      | none => s.resumeTrunk
    else s

end Sys2Proof.Machine
end

