-- ==== Sys2Proof/Machine/Processing.lean ====
section
/-! DEFINITION. The note processor (R53): what every processed note does (R52, R62, R75, R87), the effects of ROLL, DROP
and ROSTER notes (R79 to R92), and the meanings of the PROCESS commands. -/

namespace Sys2Proof.Machine

/-! ### What every processed note does -/

/-- The head note leaves the queue; its place ends a stretch and is reserved for the note on the wire (R52, R53). -/
def State.takeHead (s : State) (rest : List Received) : State :=
  let wire := s.trunk.wire.map fun w => if w.stretch.isSome then { w with stretch := none, reserved := true } else w
  { s with trunk := { s.trunk with queue := rest, wire := wire } }

/-- The claim is of an OPEN at or below frame k. -/
def opensUpTo (k : Nat) (n : Pending) : Bool :=
  match n.claim with
  | .opening j => decide (j ≤ k)
  | .signal .. | .drop _ | .done .. | .gate _ | .grant .. | .roll | .rosterJoin | .rosterLeave => false

/-- A processed ROSTER-JOIN of another station withdraws the own JOIN; when that is not on the wire, the station listens
again (R62, R79). -/
def State.withdrawJoin (s : State) : State :=
  let s1 := s.withdrawFrom .roster .withdrawn fun n => n.claim == .rosterJoin
  if s.mem.state = .joining ∧ ¬ s.onWire .roster then s1.enterListening else s1

/-- The withdrawals that follow a processed note, applied or ignored (R62). -/
def State.withdrawTold (s : State) (r : Received) : State :=
  let s1 := s.withdrawFrom .drop .withdrawn fun n => n.claim == .drop r.sender
  match r.note with
  | .opening f _ _ => s1.withdrawFrom .opening .withdrawn (opensUpTo (extendFrame s.area s.currentFrame f))
  | .drop p => s1.withdrawFrom .drop .withdrawn fun n => n.claim == .drop p
  | .rosterJoin _ _ => if r.sender = s.self then s1 else s1.withdrawJoin
  | .signal .. | .done .. | .gate .. | .grant .. | .roll _ | .rosterLeave => s1

def Peer.heard (now : Moment) (p : Peer) : Peer := { p with lastHeard := now }

/-- The sender has been heard: its record and, at a MEMBER, its silence timer (R87, R95; log 41). -/
def State.hear (s : State) (p : Station) : State :=
  if s.mem.state = .lapsed then s
  else
    let peers := s.mem.peers.set p (s.mem.peers[p].map (Peer.heard s.now))
    let silence := if s.mem.state = .member ∧ hasStation s.mem.roster p ∧ p ≠ s.self then
        s.mem.silence.set p (s.startTimer (3 * cfgR s.area))
      else s.mem.silence
    { s with mem := { s.mem with peers := peers, silence := silence } }

/-- The station applies the note, by its own state (R75). -/
def State.applies (s : State) (r : Received) : Bool :=
  match s.mem.state with
  | .unconfigured | .configured => false
  | .listening | .joining =>
    (match r.note.kind with
     | .signal => false
     | .opening | .done | .gate => s.pos.mode != .stopped
     | .drop | .grant | .roll | .roster => true)
  | .member | .leaving => r.note.kind == .roster || hasStation s.mem.roster r.sender
  | .lapsed => r.note == .drop s.self || (r.note == .rosterLeave && r.sender == s.self)

/-! ### ROLL (R80, R84, R85, R86) -/

/-- The peer record of a ROLL's sender takes what the ROLL says (R80, R85); the own number has none. -/
def State.recordRoll (s : State) (p : Station) (r : Roll) : State :=
  if p = s.self then s
  else
    let said : PeerRoll := { channels := r.channels, faultSummary := r.faultSummary, digest := r.digest }
    let skew := s.mem.peers[p].bind Peer.skew
    { s with mem := { s.mem with
        peers := s.mem.peers.set p (some { lastHeard := s.now, roll := some said, skew := skew }) } }

/-- Records of stations that the roster does not hold are discarded (R80). -/
def State.keepRosterPeers (s : State) : State :=
  let peer (p : Fin 8) : Option Peer := if hasStation s.mem.roster p then s.mem.peers[p] else none
  { s with mem := { s.mem with peers := Vector.ofFn peer } }

/-- A ROLL at a LISTENING or JOINING station (R80, R118, R109). -/
def State.listenRoll (s : State) (p : Station) (r : Roll) (latch : Latch) : State :=
  if r.digest ≠ s.window.digest then (s.raise .configMismatch).enterConfigured false
  else
    let s1 := { s with mem := { s.mem with roster := r.roster, heardRoll := true, latestDigest := some r.digest } }
    (((s1.recordRoll p r).keepRosterPeers.learnFrames r).takeCompleteness r).align (r.groupCount - latch.raw)

/-- The roll timer is set anew by a processed ROLL (R84). -/
def State.setRollTimer (s : State) (p : Station) : State :=
  let run (length : Nat) : State := { s with mem := { s.mem with roll := .running (s.now + length) } }
  if s.mem.state ≠ .member then s
  else if p = s.self then run (cfgR s.area)
  else if lowestStation s.mem.roster = some p then run ((s.self.val + 8 - p.val) % 8 * (cfgR s.area / 8))
  else s

/-- How many peers of the roster hold this comparison. -/
def State.skewCount (s : State) (agree : Bool) : Nat :=
  ((List.finRange 8).filter fun p =>
    p != s.self && hasStation s.mem.roster p && s.mem.peers[p].bind Peer.skew == some agree).length

/-- The lowest-numbered disagreeing peer has a lower number than the station's own (R86). -/
def State.lowerDisagrees (s : State) : Bool :=
  (List.finRange 8).any fun p =>
    decide (p < s.self) && hasStation s.mem.roster p && s.mem.peers[p].bind Peer.skew == some false

/-- The station is outvoted (R86). -/
def State.outvoted (s : State) : Bool :=
  decide (1 + s.skewCount true < s.skewCount false)
    || (s.skewCount false == 1 + s.skewCount true && s.lowerDisagrees)

/-- The skew comparison and vote (R86). -/
def State.skewVote (s : State) (p : Station) (r : Roll) (latch : Latch) : State :=
  let agree := decide (countDistance r.groupCount latch.group ≤ cfgSkew s.area)
  let compared (x : Peer) : Peer := { x with skew := some agree }
  let s1 := { s with mem := { s.mem with peers := s.mem.peers.set p (s.mem.peers[p].map compared) } }
  let s2 := if agree then s1 else s1.bump (countMembership fun c => { c with skewDisagree := c.skewDisagree + 1 })
  if s2.outvoted then (s2.raise .skew).lapse else s2

/-- A ROLL from the roster at a MEMBER or LEAVING station (R84, R85, R86, R109, R111, R119). The model's choices: a LEAVING
station too raises CONFIG-MISMATCH (log 47), and the orphan rule is checked before the vote (log 50). -/
def State.memberRoll (s : State) (p : Station) (r : Roll) (latch : Latch) : State :=
  let s1 := if p = s.self then s
    else
      let s1 := if r.digest ≠ s.window.digest then s.raise .configMismatch else s
      (s1.recordRoll p r).forgetForeign r
  let s2 := (s1.takeCompleteness r).setRollTimer p
  if s.mem.state = .member then
    if p = s.self then s2.orphanRule else s2.orphanRule.skewVote p r latch
  else s2

/-! ### ROSTER-JOIN (R79, R82, R83) -/

/-- While LISTENING, a processed JOIN starts the listen period anew (R79). -/
def State.restartListen (s : State) : State :=
  if s.mem.state = .listening then
    { s with mem := { s.mem with listen := s.startTimer (2 * cfgR s.area) } }
  else s

/-- A new peer record (R83). -/
def Peer.new (now : Moment) : Peer := { lastHeard := now, roll := none, skew := none }

/-- The peers, and their silence timers, on entering MEMBER (R83, R87). -/
def State.startPeers (s : State) : State :=
  let isPeer (p : Station) : Bool := p != s.self && hasStation s.mem.roster p
  let peer (p : Fin 8) : Option Peer :=
    if isPeer p then some { lastHeard := s.now, roll := s.mem.peers[p].bind Peer.roll, skew := none } else none
  let silence (p : Fin 8) : Timer := if isPeer p then s.startTimer (3 * cfgR s.area) else .stopped
  { s with mem := { s.mem with peers := Vector.ofFn peer, silence := Vector.ofFn silence } }

/-- The station enters MEMBER at its own JOIN (R83, R110, R111, R112, R123). A founder founds before J takes H: the model's
choice (log 49). -/
def State.enterMember (s : State) (founding : Bool) : State :=
  let s1 := if founding then s.found else s
  let s2 := s1.changeState .member
  let s3 := { s2 with mem := { s2.mem with joinFrame := s2.frames.h, roll := .running (s2.now + cfgR s2.area) } }
  let s4 := s3.startPeers.enterIssuing
  { s4 with delivery := { s4.delivery with handled := Vector.replicate 2 s4.pos.lineIndex } }.memberChecks

/-- j joins the roster (R83). -/
def State.addToRoster (s : State) (j : Station) : State :=
  let s1 := { s with mem := { s.mem with roster := addStation s.mem.roster j } }.bump
    (countMembership fun c => { c with joinsSeen := c.joinsSeen + 1 })
  if (s.mem.state = .member ∨ s.mem.state = .leaving) ∧ j ≠ s.self then
    { s1 with mem := { s1.mem with
        peers := s1.mem.peers.set j (some (Peer.new s1.now))
        silence := if s.mem.state = .member then s1.mem.silence.set j (s1.startTimer (3 * cfgR s1.area))
                   else s1.mem.silence } }
  else s1

/-- A JOIN that has passed its checks (R83). -/
def State.enrol (s : State) (j : Station) : State :=
  (if hasStation s.mem.roster j then s.removeStation j none else s).addToRoster j

/-- The own JOIN at a JOINING station (R82, R83); where the roster holds the own number, the leave applied first touches no
leg (R146; log 21). -/
def State.ownJoin (s : State) (digest : BitVec 16) (founding : Bool) : State :=
  if !founding && s.mem.latestDigest.any (fun d => d != digest) then
    (s.raise .configMismatch).enterConfigured false
  else if founding && s.mem.roster != 0 then s.enterListening
  else (s.enrol s.self).enterMember founding

/-- The own JOIN at a LEAVING station (R78, R82, R83). -/
def State.leavingJoin (s : State) (digest : BitVec 16) (founding : Bool) : State :=
  if !founding && s.mem.latestDigest.any (fun d => d != digest) then s.raise .configMismatch
  else if founding && s.mem.roster != 0 then s
  else s.enrol s.self

/-- Another station's JOIN (R82, R83; log 20). -/
def State.peerJoin (s : State) (j : Station) (digest : BitVec 16) (founding : Bool) : State :=
  if digest ≠ s.window.digest then s
  else if founding && s.mem.roster != 0 then s
  else s.enrol j

def State.applyJoin (s : State) (j : Station) (digest : BitVec 16) (founding : Bool) : State :=
  if j = s.self ∧ s.mem.state = .joining then s.ownJoin digest founding
  else if j = s.self ∧ s.mem.state = .leaving then s.leavingJoin digest founding
  else (s.peerJoin j digest founding).restartListen

/-! ### DROP and ROSTER-LEAVE (R81, R88, R90, R92) -/

/-- Removes p when the roster holds it. -/
def State.removeIfIn (s : State) (p : Station) (dropSender : Option Station) : State :=
  if hasStation s.mem.roster p then s.removeStation p dropSender else s

/-- DROP by state (R81, R88, R92). A LEAVING station acts on its own DROP also when its roster does not hold it: the
model's choice (log 48). -/
def State.applyDrop (s : State) (sender p : Station) : State :=
  match s.mem.state with
  | .lapsed => (s.raise .dropped).leaveLapsed
  | .member | .leaving =>
    if p = s.self then (s.raise .dropped).enterConfigured false else s.removeIfIn p (some sender)
  | .listening | .joining => s.removeIfIn p (some sender)
  | .unconfigured | .configured => s

/-- ROSTER-LEAVE by state (R81, R90, R92). -/
def State.applyLeave (s : State) (sender : Station) : State :=
  match s.mem.state with
  | .lapsed => s.leaveLapsed
  | .leaving => if sender = s.self then s.enterConfigured false else s.removeIfIn sender none
  | .member => if sender = s.self then s else s.removeIfIn sender none
  | .listening | .joining => s.removeIfIn sender none
  | .unconfigured | .configured => s

/-! ### The processor -/

/-- The effects of an applied note. -/
def State.applyNote (s : State) (r : Received) : State :=
  match r.note with
  | .signal id level _ line => s.applySignal id level line
  | .drop p => s.applyDrop r.sender p
  | .opening f mask entries => s.applyOpening f mask entries
  | .done f stream delivered gapRows => s.applyDone r.sender f stream delivered gapRows
  | .gate isOpen f => s.applyGate isOpen f
  | .grant c seq base => s.applyGrant c seq base
  | .roll roll =>
    if s.mem.state = .listening ∨ s.mem.state = .joining then s.listenRoll r.sender roll r.latch
    else s.memberRoll r.sender roll r.latch
  | .rosterJoin digest founding => s.applyJoin r.sender digest founding
  | .rosterLeave => s.applyLeave r.sender

/-- A processed note that the state ignores is counted (R75). -/
def State.ignoreNote (s : State) : State := s.bump (countQueue fun q => { q with notesIgnored := q.notesIgnored + 1 })

/-- The head note is processed: all of its effects together (R53). -/
def State.processHead (s : State) (r : Received) (rest : List Received) : State :=
  let s1 := ((s.takeHead rest).withdrawTold r).hear r.sender
  (if s1.applies r then s1.applyNote r else s1.ignoreNote).keepLeaveClaimed.afterTap

/-- Processes the head note when it is of the command's kind; otherwise the command has no event to carry out (log 2). -/
def State.process (s : State) (wanted : Note → Bool) : State :=
  match s.trunk.queue with
  | r :: rest => if wanted r.note then s.processHead r rest else s
  | [] => s

def Note.isJoin : Note → Bool
  | .rosterJoin _ _ => true
  | .signal .. | .drop _ | .opening .. | .done .. | .gate .. | .grant .. | .roll _ | .rosterLeave => false

/-- PROCESS_SIGNAL (R162). -/
def execProcessSignal (t : Moment) (s : State) : Host.Outcome State Fault Refusal :=
  .next ((s.tick t).process fun n => n.kind == .signal)

/-- PROCESS_DROP (R88). -/
def execProcessDrop (t : Moment) (s : State) : Host.Outcome State Fault Refusal :=
  .next ((s.tick t).process fun n => n.kind == .drop)

/-- PROCESS_OPEN (R103). -/
def execProcessOpen (t : Moment) (s : State) : Host.Outcome State Fault Refusal :=
  .next ((s.tick t).process fun n => n.kind == .opening)

/-- PROCESS_DONE (R144). -/
def execProcessDone (t : Moment) (s : State) : Host.Outcome State Fault Refusal :=
  .next ((s.tick t).process fun n => n.kind == .done)

/-- PROCESS_GATE (R114). -/
def execProcessGate (t : Moment) (s : State) : Host.Outcome State Fault Refusal :=
  .next ((s.tick t).process fun n => n.kind == .gate)

/-- PROCESS_GRANT (R108). -/
def execProcessGrant (t : Moment) (s : State) : Host.Outcome State Fault Refusal :=
  .next ((s.tick t).process fun n => n.kind == .grant)

/-- PROCESS_ROLL (R80, R85). -/
def execProcessRoll (t : Moment) (s : State) : Host.Outcome State Fault Refusal :=
  .next ((s.tick t).process fun n => n.kind == .roll)

/-- PROCESS_ROSTER_JOIN (R82). -/
def execProcessRosterJoin (t : Moment) (s : State) : Host.Outcome State Fault Refusal :=
  .next ((s.tick t).process Note.isJoin)

/-- PROCESS_ROSTER_LEAVE (R90). -/
def execProcessRosterLeave (t : Moment) (s : State) : Host.Outcome State Fault Refusal :=
  .next ((s.tick t).process fun n => n == .rosterLeave)

end Sys2Proof.Machine
end

