-- ==== Sys2Proof/WellFormed.lean ====
section
/-! DEFINITION. When a command is one that its row of the table describes. The types of the operands rule out most
others; these are the rest. An ill-formed command changes nothing but the moment (log 29). -/

namespace Sys2Proof

/-- The codes 01h to 0Bh name the eleven commands (11_formats.md). -/
def namesCommand (code : Byte) : Bool := 1 ≤ code.toNat && code.toNat ≤ 11

/-- Locations 000h to 24Fh are the configuration area (11_formats.md). -/
def inConfigArea (location : Fin 1024) : Bool := location.val < 148

/-- Location 300h is the command word, 304h to 310h the argument words (11_formats.md). -/
def inCommandWords (location : Fin 1024) : Bool := 192 ≤ location.val && location.val ≤ 196

/-- The check of each constructor (log 29). A sampled note or packet may be damaged in any way, so its bits are not checked. -/
def Instr.wf : Instr → Bool
  | .unknownCommand _ code => !namesCommand code
  | .configWrite _ location _ => inConfigArea location
  | .ignoredWrite _ location _ => !inConfigArea location && !inCommandWords location
  | .configCheck _ upsets => upsets.all fun c => c.1 < 0x250
  | .powerOnReset _ | .encoderEvent _ _ _ | .strobeTimerExpiry _ _ | .trigPulseEnd _ _ | .triggerTimeout _ _
  | .syncWord _ _ _ | .packetArrival _ _ _ | .noteSendStart _ | .leadMark _ | .stretchLimit _ | .confirmSlot _ _ _
  | .noteAbandoned _ _ | .trunkIdle _ | .trunkError _ | .stall _ _ | .processSignal _ | .processDrop _
  | .processOpen _ | .processDone _ | .processGate _ | .processGrant _ | .processRoll _ | .processRosterJoin _
  | .processRosterLeave _ | .portIssue _ | .flushCompletion _ _ | .flushTimeout _ _ _ | .recordFlushTimeout _
  | .legTimerExpiry _ _ _ | .linkDown _ | .linkUp _ | .signalEdge _ _ _ | .groupFaultEdge _ | .listenTimerExpiry _
  | .rollTimerExpiry _ | .silenceTimerExpiry _ _ | .acceptConfig _ | .acceptConfigDone _ _ _ | .join _ | .leave _
  | .postGrant _ | .gateClose _ | .gateOpen _ | .mark _ | .setOutput _ | .clearFaults _ | .resetAcquisition _
  | .resetStation _ | .resetStationComplete _ | .commandCollision _ | .stallEnd _ | .tkfltReleased _
  | .argumentWordWrite _ _ _ => true

end Sys2Proof
end

