-- ==== Sys2Proof/Machine/Commands.lean ====
section
/-! DEFINITION. The host window (R172 to R185): the command interface and its commands, the configuration area, the
configuration check, the resets, TKFLT, and the meanings of those commands of the table. -/

namespace Sys2Proof.Machine

/-! ### The command interface (R172, R173) -/

def State.setWindow (s : State) (w : Window) : State := { s with window := w }

/-- A write of the command word: taken in IDLE, with the argument words latched; a collision while TAKING. -/
def State.take (s : State) (code : Byte) (body : State → State) : State :=
  if s.window.taking.isSome then s.collide
  else body { s with window := { s.window with command := code, taking := some { code, args := s.window.args },
                                               result := { s.window.result with done := false } } }

/-- The code of the command being taken. -/
def State.takingCode (s : State) : Option Byte := s.window.taking.map Taking.code

/-- COMMAND_COLLISION (R173). -/
def execCommandCollision (t : Moment) (s : State) : Host.Outcome State Fault Refusal :=
  let s := s.tick t
  .next <| if s.window.taking.isSome then s.collide else s

/-- UNKNOWN_COMMAND (R172). -/
def execUnknownCommand (t : Moment) (code : Byte) (s : State) : Host.Outcome State Fault Refusal :=
  let s := s.tick t
  .next <| if namesCommand code then s else s.take code fun s => s.answer code .refusedArgument 0

/-- ARGUMENT_WORD_WRITE (R172). -/
def execArgumentWordWrite (t : Moment) (index : Fin 4) (value : Word) (s : State) : Host.Outcome State Fault Refusal :=
  let s := s.tick t
  .next { s with window := { s.window with args := s.window.args.set index value } }

/-- IGNORED_WRITE (R185). -/
def execIgnoredWrite (t : Moment) (_location : Fin 1024) (_value : Word) (s : State) : Host.Outcome State Fault Refusal :=
  .next (s.tick t)

/-! ### The configuration area (R174, R175, R177) -/

/-- A location of the configuration area that holds a part of the record: not in 1A0h to 1FFh (11_formats.md). -/
def inRecord (location : Fin 1024) : Bool := inConfigArea location && !(104 ≤ location.val && location.val < 128)

/-- CONFIG_WRITE (R173, R174; log 30). -/
def execConfigWrite (t : Moment) (location : Fin 1024) (value : Word) (s : State) : Host.Outcome State Fault Refusal :=
  let s := s.tick t
  .next <|
    if !inConfigArea location then s
    else if s.takingCode = some 1 then s.collide
    else if s.mem.state ≠ .unconfigured then
      s.bump (countWindow fun c => { c with configWritesIgnored := c.configWritesIgnored + 1 })
    else if inRecord location then
      { s with window := { s.window with area := Memory.writeAll s.window.area (wordCells (4 * location.val) value) } }
    else s

/-- ACCEPT_CONFIG (R172, R175): in UNCONFIGURED the interface stays TAKING (log 27). -/
def execAcceptConfig (t : Moment) (s : State) : Host.Outcome State Fault Refusal :=
  .next <| (s.tick t).take 1 fun s => if s.mem.state = .unconfigured then s else s.answer 1 .refusedState 0

/-- The station number fixed at acceptance (R77). -/
def numberAt (a : Memory) (straps : Station) : Station :=
  match cfgOverride a with
  | some n => if h : n < 8 then ⟨n, h⟩ else straps
  | none => straps

/-- Every check has passed (R175, R77, R158, R177). -/
def State.acceptConfig (s : State) (straps : Station) (samples : Vector Bool 4) : State :=
  let d := configDigest s.area
  let s1 := s.clearFault .configCorrupt
  let s2 := { s1 with
    mem := { s1.mem with number := some (numberAt s1.area straps) }
    signals := { s1.signals with filtered := samples.map some,
                                 sampled := samples.map fun level => some (Sample.next none level s1.now) }
    window := { s1.window with digest := d, nextCheck := some (s1.now + cfgCheckInterval s1.area) } }
  (s2.changeState .configured).answer 1 .accepted (d.setWidth 32)

/-- ACCEPT_CONFIG_DONE (R175, R176; log 34). -/
def execAcceptConfigDone (t : Moment) (straps : Station) (samples : Vector Bool 4) (s : State) :
    Host.Outcome State Fault Refusal :=
  let s := s.tick t
  .next <|
    if s.takingCode = some 1 ∧ s.mem.state = .unconfigured then
      match failedCheck s.area with
      | some n => s.answer 1 .refusedArgument (BitVec.ofNat 32 n)
      | none => s.acceptConfig straps samples
    else s

/-- The stored bytes that changed by themselves (log 28). -/
def State.upset (s : State) (upsets : List Host.Cell) : State :=
  { s with window := { s.window with
      area := Memory.writeAll s.window.area (upsets.filter fun c => c.1 < 0x1A0 || (0x200 ≤ c.1 && c.1 < 0x250)) } }

/-- A check has found the digest changed (R93, R177). -/
def State.corrupt (s : State) : State :=
  let s1 := (s.bump (countWindow fun c => { c with configCorruptSeen := c.configCorruptSeen + 1 })).raise .configCorrupt
  match s.mem.state with
  | .member | .leaving => s1.lapse
  | .configured | .listening | .joining => (s1.unitsToConfigured false).enterUnconfigured
  | .lapsed | .unconfigured => s1

/-- CONFIG_CHECK (R177): the next check falls due one interval after this one was due. -/
def execConfigCheck (t : Moment) (upsets : List Host.Cell) (s : State) : Host.Outcome State Fault Refusal :=
  let s := s.tick t
  .next <| match s.window.nextCheck with
    | some deadline =>
      if deadline ≤ s.now ∧ s.configured then
        let s1 := (s.upset upsets).bump (countWindow fun c => { c with configChecks := c.configChecks + 1 })
        let s2 := { s1 with window := { s1.window with nextCheck := some (deadline + cfgCheckInterval s1.area) } }
        if configDigest s2.area = s2.window.digest then s2 else s2.corrupt.keepLeaveClaimed.settle
      else s
    | none => s

/-! ### Commands of membership (R78) -/

/-- JOIN (R78). -/
def execJoin (t : Moment) (s : State) : Host.Outcome State Fault Refusal :=
  .next <| (s.tick t).take 2 fun s =>
    if s.mem.state = .configured then s.enterListening.answer 2 .accepted 0 else s.answer 2 .refusedState 0

/-- LEAVE (R78). -/
def execLeave (t : Moment) (s : State) : Host.Outcome State Fault Refusal :=
  .next <| (s.tick t).take 3 fun s =>
    match s.mem.state with
    | .member | .joining => s.enterLeaving.settle.answer 3 .accepted 0
    | .listening => (s.enterConfigured false).answer 3 .accepted 0
    | .unconfigured | .configured | .leaving | .lapsed => s.answer 3 .refusedState 0

/-! ### Commands of the frame unit (R106, R113) -/

/-- The GRANT notes pending for channel c. -/
def State.pendingGrants (s : State) (c : Fin 8) : Nat :=
  (s.pendingOf .grant).countP fun n =>
    match n.claim with
    | .grant channel _ _ => channel == c
    | .signal .. | .drop _ | .opening _ | .done .. | .gate _ | .roll | .rosterJoin | .rosterLeave => false

/-- POST-GRANT for a channel that the station has, with a base of which the two words are given (R106). -/
def State.postGrant (s : State) (c : Fin 8) (base : Nat) : State :=
  let ch := s.frames.channels[c]
  if base % 4096 ≠ 0 ∨ 2 ^ 52 ≤ base then s.answer 4 .refusedArgument 0
  else if cfgHome s.area c ≠ s.self.val then s.answer 4 .refusedNotHome 0
  else if ¬ ch.complete then s.answer 4 .refusedState 0
  else if 16 ≤ ch.queue.length + s.pendingGrants c then s.answer 4 .refusedFull 0
  else if ¬ s.hasRoom .grant then s.answer 4 .refusedBusy 0
  else
    (((s.setChannel c { ch with nextSeq := ch.nextSeq + 1 }).joinList
      (.grant c ch.nextSeq (BitVec.ofNat 40 (base / 4096)))).bump
      (countFrames fun f => { f with grantsPosted := f.grantsPosted + 1 })).answer 4 .accepted (ch.nextSeq.setWidth 32)

/-- POST_GRANT (R106). -/
def execPostGrant (t : Moment) (s : State) : Host.Outcome State Fault Refusal :=
  .next <| (s.tick t).take 4 fun s =>
    let channel := s.window.args[(0 : Fin 4)].toNat
    let base := s.window.args[(1 : Fin 4)].toNat + 2 ^ 32 * s.window.args[(2 : Fin 4)].toNat
    if s.mem.state ≠ .member then s.answer 4 .refusedState 0
    else if h : channel < 8 then
      if channel < cfgChannels s.area then s.postGrant ⟨channel, h⟩ base else s.answer 4 .refusedArgument 0
    else s.answer 4 .refusedArgument 0

/-- GATE-CLOSE or GATE-OPEN (R113). -/
def State.gateCommand (s : State) (code : Byte) (isOpen : Bool) : State :=
  if s.mem.state ≠ .member then s.answer code .refusedState 0
  else if ¬ s.hasRoom .gate then s.answer code .refusedBusy 0
  else (s.joinList (.gate isOpen)).answer code .accepted 0

/-- GATE_CLOSE (R113). -/
def execGateClose (t : Moment) (s : State) : Host.Outcome State Fault Refusal :=
  .next <| (s.tick t).take 5 fun s => s.gateCommand 5 false

/-- GATE_OPEN (R113). -/
def execGateOpen (t : Moment) (s : State) : Host.Outcome State Fault Refusal :=
  .next <| (s.tick t).take 6 fun s => s.gateCommand 6 true

/-! ### Commands of the signal unit (R161, R167) -/

/-- MARK (R161). -/
def execMark (t : Moment) (s : State) : Host.Outcome State Fault Refusal :=
  .next <| (s.tick t).take 7 fun s =>
    let id := s.window.args[(0 : Fin 4)]
    if s.mem.state ≠ .member then s.answer 7 .refusedState 0
    else if 15 < id.toNat then s.answer 7 .refusedArgument 0
    else if ¬ s.hasRoom .signal then s.answer 7 .refusedBusy 0
    else
      ((s.joinList (.signal (id.setWidth 4) true .host s.window.args[(1 : Fin 4)])).bump
        (countSignals fun c => { c with marksAccepted := c.marksAccepted + 1 })).answer 7 .accepted 0

/-- SET_OUTPUT (R167). -/
def execSetOutput (t : Moment) (s : State) : Host.Outcome State Fault Refusal :=
  .next <| (s.tick t).take 8 fun s =>
    let output := s.window.args[(0 : Fin 4)].toNat
    let level := s.window.args[(1 : Fin 4)].toNat
    if s.mem.state = .unconfigured then s.answer 8 .refusedState 0
    else if h : output < 4 then
      if 1 < level then s.answer 8 .refusedArgument 0
      else if cfgOutputMode s.area ⟨output, h⟩ ≠ .manual then s.answer 8 .refusedArgument 0
      else
        (s.setOutputState ⟨output, h⟩ { s.signals.outputs[output] with manual := level == 1 }).answer 8 .accepted 0
    else s.answer 8 .refusedArgument 0

/-! ### Faults and the fault line (R179, R180) -/

/-- CLEAR_FAULTS (R179): the mask's bit 16 names COLLISION. -/
def execClearFaults (t : Moment) (s : State) : Host.Outcome State Fault Refusal :=
  .next <| (s.tick t).take 9 fun s =>
    let mask := s.window.args[(0 : Fin 4)]
    if 2 ^ 17 ≤ mask.toNat then s.answer 9 .refusedArgument 0
    else
      { s with window := { s.window with faults := s.window.faults &&& ~~~(mask.setWidth 16),
                                         collision := s.window.collision && !mask.getLsbD 16 } }.answer 9 .accepted 0

/-- The filter of TKFLT has taken a level (R180). -/
def State.setFaultLine (s : State) (level : Bool) : State :=
  { s with window := { s.window with tkflt := some level } }

/-- GROUP_FAULT_EDGE (R180): the first level accepted after a reset gives no edge. -/
def execGroupFaultEdge (t : Moment) (s : State) : Host.Outcome State Fault Refusal :=
  let s := s.tick t
  let s1 := s.setFaultLine false
  .next <|
    if s.window.tkflt = some true then
      let s2 := s1.bump (countWindow fun c => { c with groupFaultEdges := c.groupFaultEdges + 1 })
      if s2.configured then s2.eventNoticed .groupFault (cfgGroupFaultNotice s2.area) else s2
    else s1

/-- TKFLT_RELEASED (R180). -/
def execTkfltReleased (t : Moment) (s : State) : Host.Outcome State Fault Refusal :=
  .next ((s.tick t).setFaultLine true)

/-! ### Resets (R182, R183, R184) -/

/-- POWER_ON_RESET (R182): the commands that wait, the moment and the free values go on (log 3). -/
def execPowerOnReset (t : Moment) (s : State) : Host.Outcome State Fault Refusal :=
  let s := s.tick t
  .next { State.reset with pending := s.pending, now := s.now, draws := s.draws }

/-- Every unit after a station reset: as after a power-on reset, but the host link keeps its state, and the count of
flushes runs on (R136, R182). The interface stays TAKING (log 26). -/
def State.resetStation (s : State) : State :=
  { State.reset with
    pending := s.pending, now := s.now, draws := s.draws, lastRequest := s.lastRequest
    delivery := { Delivery.reset with linkUp := s.delivery.linkUp, flushCount := s.delivery.flushCount }
    window := { Window.reset with command := s.window.command, taking := s.window.taking, result := s.window.result } }

/-- RESET_STATION (R182). -/
def execResetStation (t : Moment) (s : State) : Host.Outcome State Fault Refusal :=
  .next <| (s.tick t).take 11 State.resetStation

/-- RESET_STATION_COMPLETE (R182). -/
def execResetStationComplete (t : Moment) (s : State) : Host.Outcome State Fault Refusal :=
  let s := s.tick t
  .next <| if s.takingCode = some 11 then s.answer 11 .accepted 0 else s

/-- What an acquisition reset does to the window before the units: the flags but CONFIG-CORRUPT clear, the waiting
notices dropped, the RESET event recorded (R181, R183, R184). -/
def State.resetWindow (s : State) : State :=
  { s with window := { s.window with faults := s.window.faults &&& (1#16 <<< FaultKind.configCorrupt.bit.val),
                                     collision := false }
           delivery := { s.delivery with port := [] } }.event .reset

/-- An own part at a member's acquisition reset (R142). -/
def OwnPart.resetVoid (p : OwnPart) : OwnPart :=
  { p with state := if p.state = .reported then .reported else .void, timer := .stopped, flush := .none }

/-- The units of a member at an acquisition reset (R14, R35, R55, R89, R107, R126, R142, R156, R170). The receive queue is
kept, by R55 and against R170: the model's choice (log 53). -/
def State.resetMember (s : State) : State :=
  let s1 := s.changeState .leaving
  let s2 := { s1 with
    pos := s1.pos.toConfigured s1.area
    taps := s1.taps.map TapState.toConfigured
    freeLow := 256
    trunk := { s1.trunk with vetoRun := 0 }
    mem := { s1.mem.stopTimers with peers := s1.mem.peers.map (Option.map Peer.forgetSkew), leavingByReset := true }
    frames := { s1.frames with lostGrant := none }
    delivery := { s1.delivery with handled := Vector.replicate 2 0, waiting := Vector.replicate 2 false,
                                   store := Vector.replicate 2 (Vector.replicate 4 none), turn := none,
                                   lastTap := 1 }
    records := Records.reset
    signals := { s1.signals with outputs := Vector.replicate 4 Output.reset } }
  let s3 := s2.legPlaces.foldl (fun s p => s.modifyPart p.1 p.2 OwnPart.resetVoid) s2
  (s3.withdrawAll .reset false).claimRoster .rosterLeave

/-- RESET_ACQUISITION (R183, R184, R94): every counter is 0 when its effects have been made (log 26). -/
def execResetAcquisition (t : Moment) (s : State) : Host.Outcome State Fault Refusal :=
  .next <| (s.tick t).take 10 fun s =>
    match s.mem.state with
    | .unconfigured => s.answer 10 .refusedState 0
    | .member => { s.resetWindow.resetMember with ctr := {} }.answer 10 .accepted 0
    | .configured | .listening | .joining | .leaving | .lapsed =>
      { s.resetWindow.enterConfigured true with ctr := {} }.answer 10 .accepted 0

end Sys2Proof.Machine
end

