-- ==== Sys2Proof/Machine/Dispatch.lean ====
section
/-! DEFINITION. The meaning of each command, one arm per constructor of Instr. -/

namespace Sys2Proof.Machine

def exec (i : Instr) (s : State) : Host.Outcome State Fault Refusal :=
  match i with
  | .powerOnReset t => Sys2Proof.Machine.execPowerOnReset t s
  | .encoderEvent t a b => Sys2Proof.Machine.execEncoderEvent t a b s
  | .strobeTimerExpiry t strobe => Sys2Proof.Machine.execStrobeTimerExpiry t strobe s
  | .trigPulseEnd t tap => Sys2Proof.Machine.execTrigPulseEnd t tap s
  | .triggerTimeout t tap => Sys2Proof.Machine.execTriggerTimeout t tap s
  | .syncWord t tap cut => Sys2Proof.Machine.execSyncWord t tap cut s
  | .packetArrival t tap bytes => Sys2Proof.Machine.execPacketArrival t tap bytes s
  | .noteSendStart t => Sys2Proof.Machine.execNoteSendStart t s
  | .leadMark t => Sys2Proof.Machine.execLeadMark t s
  | .stretchLimit t => Sys2Proof.Machine.execStretchLimit t s
  | .confirmSlot t cells othersVeto => Sys2Proof.Machine.execConfirmSlot t cells othersVeto s
  | .noteAbandoned t cells => Sys2Proof.Machine.execNoteAbandoned t cells s
  | .trunkIdle t => Sys2Proof.Machine.execTrunkIdle t s
  | .trunkError t => Sys2Proof.Machine.execTrunkError t s
  | .stall t cells => Sys2Proof.Machine.execStall t cells s
  | .processSignal t => Sys2Proof.Machine.execProcessSignal t s
  | .processDrop t => Sys2Proof.Machine.execProcessDrop t s
  | .processOpen t => Sys2Proof.Machine.execProcessOpen t s
  | .processDone t => Sys2Proof.Machine.execProcessDone t s
  | .processGate t => Sys2Proof.Machine.execProcessGate t s
  | .processGrant t => Sys2Proof.Machine.execProcessGrant t s
  | .processRoll t => Sys2Proof.Machine.execProcessRoll t s
  | .processRosterJoin t => Sys2Proof.Machine.execProcessRosterJoin t s
  | .processRosterLeave t => Sys2Proof.Machine.execProcessRosterLeave t s
  | .portIssue t => Sys2Proof.Machine.execPortIssue t s
  | .flushCompletion t number => Sys2Proof.Machine.execFlushCompletion t number s
  | .flushTimeout t slot stream => Sys2Proof.Machine.execFlushTimeout t slot stream s
  | .recordFlushTimeout t => Sys2Proof.Machine.execRecordFlushTimeout t s
  | .legTimerExpiry t slot stream => Sys2Proof.Machine.execLegTimerExpiry t slot stream s
  | .linkDown t => Sys2Proof.Machine.execLinkDown t s
  | .linkUp t => Sys2Proof.Machine.execLinkUp t s
  | .signalEdge t input level => Sys2Proof.Machine.execSignalEdge t input level s
  | .groupFaultEdge t => Sys2Proof.Machine.execGroupFaultEdge t s
  | .configCheck t upsets => Sys2Proof.Machine.execConfigCheck t upsets s
  | .listenTimerExpiry t => Sys2Proof.Machine.execListenTimerExpiry t s
  | .rollTimerExpiry t => Sys2Proof.Machine.execRollTimerExpiry t s
  | .silenceTimerExpiry t peer => Sys2Proof.Machine.execSilenceTimerExpiry t peer s
  | .acceptConfig t => Sys2Proof.Machine.execAcceptConfig t s
  | .acceptConfigDone t straps samples => Sys2Proof.Machine.execAcceptConfigDone t straps samples s
  | .join t => Sys2Proof.Machine.execJoin t s
  | .leave t => Sys2Proof.Machine.execLeave t s
  | .postGrant t => Sys2Proof.Machine.execPostGrant t s
  | .gateClose t => Sys2Proof.Machine.execGateClose t s
  | .gateOpen t => Sys2Proof.Machine.execGateOpen t s
  | .mark t => Sys2Proof.Machine.execMark t s
  | .setOutput t => Sys2Proof.Machine.execSetOutput t s
  | .clearFaults t => Sys2Proof.Machine.execClearFaults t s
  | .resetAcquisition t => Sys2Proof.Machine.execResetAcquisition t s
  | .resetStation t => Sys2Proof.Machine.execResetStation t s
  | .resetStationComplete t => Sys2Proof.Machine.execResetStationComplete t s
  | .unknownCommand t code => Sys2Proof.Machine.execUnknownCommand t code s
  | .commandCollision t => Sys2Proof.Machine.execCommandCollision t s
  | .configWrite t location value => Sys2Proof.Machine.execConfigWrite t location value s
  | .ignoredWrite t location value => Sys2Proof.Machine.execIgnoredWrite t location value s
  | .stallEnd t => Sys2Proof.Machine.execStallEnd t s
  | .tkfltReleased t => Sys2Proof.Machine.execTkfltReleased t s
  | .argumentWordWrite t index value => Sys2Proof.Machine.execArgumentWordWrite t index value s

end Sys2Proof.Machine
end

