-- ==== Sys2Proof/Machine/Views.lean ====
section
/-! DEFINITION. What a host read of the window returns (R185; 11_formats.md, "Host window"). A read changes nothing, so
it is no command. An area is the list of its words, in the order in which its rules list the values; how an absent value
and a list are laid out, the units of times, the codes of the named values, what stands where there is nothing to show,
and the reading of an area longer than its offsets are choices (log 33, 45, 54, 55). -/

namespace Sys2Proof.Machine.Views

def flag (b : Bool) : Word := if b then 1 else 0

def num (n : Nat) : Word := BitVec.ofNat 32 n

/-- A value wider than 32 bits: low half first. -/
def wide (n : Nat) : List Word := [num n, num (n / 2 ^ 32)]

/-- A value that may be absent: whether it is there, and the value, 0 for none (log 33). -/
def opt (o : Option Nat) : List Word := [flag o.isSome, num (o.getD 0)]

/-- A list: its length and its entries of `width` words, filled with zeros to `n` entries (log 33). -/
def listed {α : Type} (n width : Nat) (f : α → List Word) (l : List α) : List Word :=
  num l.length :: (l.flatMap f ++ List.replicate (n * width) 0#32).take (n * width)

/-- The time left on a timer, in ns (log 45). -/
def timerLeft (now : Moment) : Timer → Nat
  | .stopped => 0
  | .running deadline => deadline - now
  | .held left => left

/-- An entry of a channel list (R80, R95). -/
def rollChannel (c : RollChannel) : List Word :=
  [flag c.complete, c.nextSeq.setWidth 32, c.queueLength.setWidth 32]

/-- A skew comparison: none, agree, disagree (R95; the codes are the model's, log 54). -/
def skewCode : Option Bool → Word
  | none => 0
  | some true => 1
  | some false => 2

/-- The roster holds the number, as the view shows it: no peer is shown outside a group (R95). -/
def inRoster (s : State) (p : Station) : Bool :=
  hasStation s.mem.roster p && s.mem.state != .unconfigured && s.mem.state != .configured

/-- The moment up to which the peer views count: the present, or the entry into LAPSED, where they stand frozen (R91,
R95). -/
def peerMoment (s : State) : Moment := if s.mem.state = .lapsed then s.mem.lapsedAt.getD s.now else s.now

/-- A peer view (R95): in the roster, time since it was heard in ns (log 45), skew comparison, fault summary, digest,
channel list; zeros where there is no record (log 55). -/
def peer (s : State) (p : Station) : List Word :=
  let r := s.mem.peers[p]
  let roll := r.bind Peer.roll
  [flag (inRoster s p), num ((r.map fun x => peerMoment s - x.lastHeard).getD 0), skewCode (r.bind Peer.skew),
   flag (roll.any PeerRoll.faultSummary), ((roll.map PeerRoll.digest).getD 0).setWidth 32]
    ++ listed 8 3 rollChannel ((roll.map PeerRoll.channels).getD [])

/-- The peer views: one for each station number other than the own one (R95). -/
def peers (s : State) : List Word := ((List.finRange 8).filter fun p => p != s.self).flatMap (peer s)

/-- The grant queue and the state of a channel (R102): complete, blind limit, next sequence, last seen. -/
def grants (s : State) (c : Fin 8) : List Word :=
  let ch := s.frames.channels[c]
  listed 16 3 (fun g => [g.seq.setWidth 32] ++ wide (g.base.toNat * 4096)) ch.queue
    ++ [flag ch.complete] ++ opt (ch.blind.map BitVec.toNat) ++ [ch.nextSeq.setWidth 32]
    ++ opt (ch.lastSeen.map BitVec.toNat)

/-- The rotation marks (R102). -/
def rotations (s : State) : List Word := (List.finRange 2).flatMap fun j => opt (s.frames.rotation[j].map Fin.val)

/-- 400h: R77 (state, number, source, roster, peer records as R95 shows them, J, roll and listen timers), then R121 (H, J,
founded, opener-eligible, rotation marks, channels). The source is 1 for the override, 0 for the straps (log 54); while
no number is fixed, number and source read 0 (log 55). -/
def station (s : State) : List Word :=
  [num s.mem.state.code, num s.self.val, flag (s.configured && (cfgOverride s.area).isSome), s.mem.roster.setWidth 32]
    ++ peers s
    ++ [num s.mem.joinFrame, num (timerLeft s.now s.mem.roll), num (timerLeft s.now s.mem.listen)]
    ++ [num s.frames.h, num s.mem.joinFrame, flag s.frames.founded, flag (s.openerEligible s.currentFrame)]
    ++ rotations s ++ (List.finRange 8).flatMap (grants s)

/-- The position unit state (R4; the codes are the model's, log 54). -/
def positionCode : PositionMode → Nat
  | .stopped => 0 | .tracking => 1 | .issuing => 2

/-- 500h: R3 to R11: raw count, group offset, group count, state, W, reverse depth, line index, strobe levels, current
frame, INDEX-END. No rule places the line index (log 56). -/
def position (s : State) : List Word :=
  [s.pos.raw, s.pos.offset, s.groupCount, num (positionCode s.pos.mode), s.pos.w, s.pos.w - s.groupCount,
   num s.pos.lineIndex]
    ++ (List.finRange 4).map (fun i => flag (s.pos.strobes[i]).isSome)
    ++ [num s.currentFrame, flag s.pos.indexEnd]

/-- A tap mode, coded as in the configuration area (log 54). -/
def modeCode : TapMode → Nat
  | .off => 0 | .live => 1 | .pattern => 2

/-- The counters of a tap (R33). -/
def tapCounters (c : TapCounters) : List Word :=
  [c.triggersSent, c.overtrigger, c.timeout, c.skipped, c.triggersMissed, c.linesGood, c.stale, c.breaks,
   c.unsolicited, c.malformed, c.poolOverrun, c.statusNonzero]

/-- The view of a tap (R34). A head entry's line index, and its age in ns, read 0 while its queue is empty (log 45). The
configured mode is the area's mode byte, in UNCONFIGURED too (log 57). -/
def tap (s : State) (t : Tap) : List Word :=
  let x := s.taps[t]
  [num (modeCode (cfgTapMode s.area t)), num (modeCode (s.tapMode t)), flag x.primed, x.expected.setWidth 32,
   num x.triggers.length, num ((x.triggers.head?.map Trigger.index).getD 0),
   num ((x.triggers.head?.map fun e => s.now - e.issued).getD 0), num x.lines.length,
   num ((x.lines.head?.map Line.index).getD 0), flag (!x.port.slots.isEmpty), flag (x.port == .nowhere),
   num (s.resolved t), num (s.tapHolds t)] ++ tapCounters s.ctr.taps[t]

/-- 600h: R31 (free slots, slots held by each tap, free low mark), then R34. -/
def taps (s : State) : List Word :=
  [num s.freeCount, num (s.tapHolds 0), num (s.tapHolds 1), num s.freeLow] ++ tap s 0 ++ tap s 1

/-- The trunk view (R37; the codes are the model's, log 54). -/
def viewCode : TrunkView → Nat
  | .detached => 0 | .settling => 1 | .idle => 2 | .busy => 3

/-- The role in a note: none, sender, receiver (R37; the codes are the model's, log 54). -/
def roleCode : Option Wire → Nat
  | none => 0
  | some w => match w.role with | .sender _ _ _ => 1 | .loser _ | .receiver => 2 | .aside => 0

/-- The role in the current note, shown while the view is BUSY; in any other view it reads none (R37; log 55). -/
def role (s : State) : Nat := if s.trunk.view = .busy then roleCode s.trunk.wire else 0

/-- The frame or station number that the head note of a kind carries (R76). A GATE carries the frame composed for the
attempt on the wire, and none before it (R69). An OPEN's and a DONE's frame is shown whole, a GATE's as the 16 bits of its
note (log 62). -/
def headNumber (s : State) (n : Pending) : Option Nat :=
  match n.claim with
  | .drop p => some p.val
  | .opening k => some k
  | .done k _ _ _ => some k
  | .gate _ =>
    match s.trunk.wire with
    | some { role := .sender _ (.gate _ f) _, .. } => some f.toNat
    | _ => none
  | .signal .. | .grant .. | .roll | .rosterJoin | .rosterLeave => none

/-- The counters of the trunk port (R56). -/
def trunkCounters (c : TrunkCounters) : List Word :=
  [c.notesSent, c.notesAccepted, c.arbitrationLost, c.attemptsFailed, c.vetoesGiven, c.notesAbandoned, c.trunkErrors,
   c.stretches, c.stalls, c.duplicateSeen]

/-- The receive queue (R51): accepted notes, reserved place, kind and sender of the head, 0 while it is empty (log 55). -/
def receiveQueue (s : State) : List Word :=
  [num s.trunk.queue.length, flag (s.trunk.wire.any Wire.reserved),
   num ((s.trunk.queue.head?.map fun r => r.note.kind.code.val).getD 0),
   num ((s.trunk.queue.head?.map fun r => r.sender.val).getD 0)]

/-- 700h: R56 (counters, view, role, receive queue, veto run, attempt counts), then R76 (per kind the pending notes and
the head's number; the held claim). The attempt count of a kind with no pending note reads 0 (log 55). -/
def trunk (s : State) : List Word :=
  trunkCounters s.ctr.trunk ++ [num (viewCode s.trunk.view), num (role s)] ++ receiveQueue s
    ++ [num s.trunk.vetoRun]
    ++ NoteKind.all.map (fun k => num (((s.pendingOf k).head?.map Pending.attempts).getD 0))
    ++ NoteKind.all.flatMap (fun k => num (s.pendingOf k).length :: opt ((s.pendingOf k).head?.bind (headNumber s)))
    ++ [flag s.tx.held.isSome]

/-- Channel, grant sequence and buffer base of a steered entry; zeros where there is none (log 55). -/
def steer : Option Steer → List Word
  | none => [0, 0, 0, 0]
  | some e => [num e.channel.val, e.seq.setWidth 32] ++ wide (e.base.toNat * 4096)

/-- The state of an own part (R122; the codes are the model's, log 54). -/
def partCode : PartState → Nat
  | .collecting => 0 | .flushing => 1 | .reported => 2 | .void => 3

/-- An own part (R122): whether it is there, state, tap progress, gap rows, timer left and flush age in ns (log 45). The
flush age counts on in LAPSED (log 58). -/
def part (now : Moment) : Option OwnPart → List Word
  | none => List.replicate 11 0#32
  | some p =>
    [1, num (partCode p.state)]
      ++ (List.finRange 2).flatMap (fun t => [num p.taps[t].written, num p.taps[t].filled, flag p.taps[t].done])
      ++ [num p.gapRows, num (match p.timer with | .running d => d - now | .stopped | .expired => 0),
          num (match p.flush with | .issued _ m => now - m | .none | .waiting => 0)]

/-- The status of a leg (R97, R149; the codes are the model's, log 54). -/
def statusCode : LegStatus → Nat
  | .pending => 0 | .unsteered => 1 | .retired => 2

/-- A leg, field by field as R97 lists them. -/
def leg (now : Moment) (stream : Fin 2) (l : Leg) : List Word :=
  [num stream.val, num (statusCode l.status)] ++ steer l.steer
    ++ [l.mask.setWidth 32, l.delivered.setWidth 32, l.void.setWidth 32, l.removed.setWidth 32, num l.gapTotal,
        l.flags.setWidth 32] ++ part now l.own

/-- A slot (R96): FREE 0, foreign 1, known 2 (the model's codes, log 54); frame; resumed flag; the two legs. -/
def slot (now : Moment) : Slot → List Word
  | .free => List.replicate 49 0#32
  | .foreign k => [1, num k] ++ List.replicate 47 0#32
  | .known e => [2, num e.frame, flag e.resumed] ++ leg now 0 e.legs[(0 : Fin 2)] ++ leg now 1 e.legs[(1 : Fin 2)]

/-- 800h: R97 (the eight slots); H, gate record, resume frame and rotation marks (R99, R100, R102); R102 (each channel's
queue, state and home); R107 (whether a grant was lost, and the latest). The gate state reads 0 CLOSED, 1 OPEN (log 54). -/
def frames (s : State) : List Word :=
  (List.finRange 8).flatMap (fun i => slot s.now s.frames.slots[i])
    ++ [num s.frames.h, flag s.frames.gateOpen, num s.frames.gateFrame] ++ opt s.frames.resume ++ rotations s
    ++ (List.finRange 8).flatMap (fun c => grants s c ++ [num (cfgHome s.area c)])
    ++ flag s.frames.lostGrant.isSome :: steer s.frames.lostGrant

/-- The counters of the record unit (R157). -/
def recordCounters (c : RecordCounters) : List Word :=
  [c.donesApplied, c.donesIgnored, c.removalsApplied, c.legsCompleted, c.legsCompletedByRemoval, c.legsUnposted,
   c.legsRetired, c.slotsFreed, c.recordsBuilt, c.recordsQueued, c.recordsWritten, c.recordLost, c.recordOverflows]

/-- The head record (R157): channel, grant sequence, frame; the step of R152 (the model's codes, log 54); the age of its
flush in ns (log 45). -/
def headRecord (s : State) : List Word :=
  (match s.records.queue with
   | [] => [0, 0, 0]
   | r :: _ => [num r.steer.channel.val, r.steer.seq.setWidth 32, num r.frame])
    ++ (match s.records.step with
        | .idle => [0, 0]
        | .write => [1, 0]
        | .flushWaiting => [2, 0]
        | .flushIssued _ m => [2, num (s.now - m)]
        | .message => [3, 0])

/-- A00h: R123 (handled marks), R125 (requests waiting, current turn and its tap, link), R157 (counters, queue length, head
record). -/
def delivery (s : State) : List Word :=
  [num s.delivery.handled[(0 : Fin 2)], num s.delivery.handled[(1 : Fin 2)], num s.delivery.port.length]
    ++ opt (s.delivery.turn.map fun tu => tu.tap.val) ++ [flag s.delivery.linkUp]
    ++ recordCounters s.ctr.records ++ [num s.records.queue.length] ++ headRecord s

/-- An input (R158, R171): signal ID, off, edges selected (bit 0 rise, bit 1 fall), filter time in µs, sampled level,
filtered level. A level not known yet reads 0 (log 55). -/
def input (s : State) (i : Fin 4) : List Word :=
  [(cfgInputId s.area i).setWidth 32, flag (cfgInputOff s.area i),
   flag (cfgInputEdge s.area i true) ||| (flag (cfgInputEdge s.area i false) <<< 1),
   num (cfgInputFilter s.area i / 1000), flag (s.signals.sampled[i].any Sample.level),
   flag (s.signals.filtered[i] == some true)]

/-- An output mode, coded as in the configuration area (log 54). -/
def outputCode : OutputMode → Nat
  | .off => 0 | .pulse => 1 | .follow => 2 | .manual => 3

/-- An entry of a schedule: the start, then the end of a range, which may lie beyond 2^32 (R164), or the level of a
change. -/
def schedule (o : Output) : List (Nat × Nat) := o.ranges ++ o.changes.map fun c => (c.1, c.2.toNat)

/-- An output (R163, R171): subscribed ID, offset, width, polarity; mode, pin level, asserted, follow level, last applied
start, manual level, schedule from head to tail. -/
def output (s : State) (j : Fin 4) : List Word :=
  let o := s.signals.outputs[j]
  [(cfgOutputId s.area j).setWidth 32, num (cfgOutputOffset s.area j), num (cfgOutputWidth s.area j),
   flag (cfgActiveLow s.area j), num (outputCode (cfgOutputMode s.area j)), flag (s.outputPin j), flag (s.asserted j),
   flag o.follow] ++ opt o.lastApplied ++ [flag o.manual] ++ listed 8 3 (fun r => num r.1 :: wide r.2) (schedule o)

/-- The counters of the signal unit, in the order of R171's table, those of an input or output together: the model's choice
(log 64). -/
def signalCounters (c : Counters) : List Word :=
  (List.finRange 4).flatMap (fun i => [c.inputs[i].edgesAccepted, c.inputs[i].edgesUnclaimed])
    ++ [c.signals.signalOverruns, c.signals.marksAccepted, c.signals.signalsApplied]
    ++ (List.finRange 4).flatMap (fun j =>
      let o := c.outputs[j]
      [o.entriesInserted, o.entriesMerged, o.partlyLate, o.lateSkipped, o.lateApplied, o.scheduleFull, o.outOfRange])
    ++ [c.signals.flagsSet, c.signals.flagMissed]

/-- B00h: R171 (inputs, outputs, counters, SIGNAL notes pending). -/
def signals (s : State) : List Word :=
  (List.finRange 4).flatMap (input s) ++ (List.finRange 4).flatMap (output s) ++ signalCounters s.ctr
    ++ [num (s.pendingOf .signal).length]

def eventDetail : EventKind → Word
  | .fault k => num (256 * k.bit.val)
  | .state st => num (1 + 256 * st.code)
  | .groupFault => 2
  | .reset => 3

/-- C00h: flags, raise counters, event number, event list of two words an entry (11_formats.md). -/
def faults (s : State) : List Word :=
  [s.window.faults.setWidth 32] ++ s.ctr.raises.toList ++ [s.window.eventNumber]
    ++ (s.window.events.flatMap (fun e => [e.number, eventDetail e.kind]) ++ List.replicate 32 0#32).take 32

/-- D00h: every counter, in the order of the chapters and of their tables (11_formats.md); those of a tap, an input or an
output stand together (log 64). -/
def counters (c : Counters) : List Word :=
  [c.pos.linesIssued, c.pos.linesSuppressed, c.pos.encoderErrors]
    ++ tapCounters c.taps[(0 : Fin 2)] ++ tapCounters c.taps[(1 : Fin 2)]
    ++ trunkCounters c.trunk
    ++ [c.queue.notesClaimed, c.queue.claimsMet, c.queue.claimsRefused, c.queue.notesWithdrawn, c.queue.notesExhausted,
        c.queue.notesIgnored]
    ++ [c.mem.stateChanges, c.mem.joinsSeen, c.mem.removals, c.mem.dropsClaimed, c.mem.skewDisagree, c.mem.lapses]
    ++ [c.frames.framesOpened, c.frames.framesLost, c.frames.framesSkipped, c.frames.opensIgnored,
        c.frames.grantsPosted, c.frames.grantsConsumed, c.frames.grantsDiscarded, c.frames.grantsIgnored,
        c.frames.orphanDeclared, c.frames.gatesUnchanged, c.frames.desyncSeen]
    ++ [c.delivery.linesWritten, c.delivery.linesDiscarded, c.delivery.linesDropped, c.delivery.discardClosed,
        c.delivery.discardNoPart, c.delivery.discardPartClosed, c.delivery.discardNotAllowed,
        c.delivery.discardNotInTable, c.delivery.discardUnopened, c.delivery.openWaits, c.delivery.rowsFilled,
        c.delivery.burstsIssued, c.delivery.bytesWritten, c.delivery.flushesIssued, c.delivery.partsDelivered,
        c.delivery.partsVoid, c.delivery.legTimeouts, c.delivery.flushTimeouts, c.delivery.linkDowns]
    ++ recordCounters c.records ++ signalCounters c
    ++ [c.window.commandsTaken, c.window.commandsRefused, c.window.collisions, c.window.configWritesIgnored,
        c.window.configChecks, c.window.configCorruptSeen, c.window.groupFaultEdges, c.window.eventsOverwritten,
        c.window.noticesIssued, c.window.noticesLost]

/-- 300h to 320h: the command words, result, status and digest (11_formats.md). Bits 8 to 31 of the command word read 0
(log 63); GROUP-FAULT-SEEN reads 0 while no level of TKFLT has been accepted (log 55). -/
def command (s : State) : List Word :=
  let r := s.window.result
  [s.window.command.setWidth 32] ++ s.window.args.toList
    ++ [num (r.code.toNat + 256 * r.result.code + if r.done then 2 ^ 31 else 0), r.value,
        flag s.window.collision ||| (flag (s.window.tkflt == some false) <<< 1) ||| (flag s.pos.indexEnd <<< 2),
        s.window.digest.setWidth 32]

/-- The areas of the window (11_formats.md, "Host window"). -/
inductive Area
  | config | command | station | position | taps | trunk | frames | delivery | signals | faults | counters
  deriving DecidableEq, Repr

/-- The offset at which an area starts (11_formats.md). -/
def Area.start : Area → Nat
  | .config => 0x000 | .command => 0x300 | .station => 0x400 | .position => 0x500 | .taps => 0x600 | .trunk => 0x700
  | .frames => 0x800 | .delivery => 0xA00 | .signals => 0xB00 | .faults => 0xC00 | .counters => 0xD00

/-- The words of an area, as they stand. -/
def Area.words (s : State) : Area → List Word
  | .config => (List.range 148).map fun i => num (s.area.u32 (4 * i))
  | .command => Views.command s
  | .station => Views.station s
  | .position => Views.position s
  | .taps => Views.taps s
  | .trunk => Views.trunk s
  | .frames => Views.frames s
  | .delivery => Views.delivery s
  | .signals => Views.signals s
  | .faults => Views.faults s
  | .counters => Views.counters s.ctr

/-- A host read of a word of an area, as it stands (R185). Every word of every area is read so: the values that R95, R97,
R102, R107, R121 and R171 name outnumber the offsets up to the next area (log 33). A place past the last word reads 0. -/
def read (s : State) (area : Area) (place : Nat) : Word := ((area.words s)[place]?).getD 0

/-- The area and place of an offset: the last area that starts at or before it. -/
def located (offset : Nat) : Area × Nat :=
  let area := ([Area.counters, .faults, .signals, .delivery, .frames, .trunk, .taps, .position, .station, .command].find?
    fun a => decide (a.start ≤ offset)).getD .config
  (area, (offset - area.start) / 4)

/-- A host read of the 32-bit location at an offset of the 4 KiB window (11_formats.md). -/
def readAt (s : State) (offset : Nat) : Word :=
  if offset < 0x1000 then read s (located offset).1 (located offset).2 else 0

end Sys2Proof.Machine.Views
end

