-- ==== Sys2Proof/Safety.lean ====
section
/-! DEFINITION. What holds of every state the station reaches: the invariants that the manual states of its tables, each
kept by every step, and the terms the statements share. -/

namespace Sys2Proof.Machine

/-- The configuration area is in its canonical form (Memory.wf: offsets rising, no listed 0). -/
def State.areaCanonical (s : State) : Prop := Memory.wf s.window.area = true

/-- "the entry in slot i has a frame number congruent to i modulo 8" (R96). -/
def State.slotsPlaced (s : State) : Prop :=
  ∀ (i : Fin 8) (k : Nat), (s.frames.slots[i]).frame = some k → k % 8 = i.val

/-- The three sets of a leg are pairwise disjoint subsets of its mask (R145). -/
def Leg.setsSound (l : Leg) : Prop :=
  l.delivered &&& l.void = 0 ∧ l.delivered &&& l.removed = 0 ∧ l.void &&& l.removed = 0
    ∧ (l.delivered ||| l.void ||| l.removed) &&& ~~~l.mask = 0

/-- R145, for every leg of the frame table. -/
def State.legsSound (s : State) : Prop := ∀ (i : Fin 8) (j : Fin 2) (l : Leg), s.legAt i j = some l → l.setsSound

/-- "A tap's trigger queue holds at most 4 entries" (R18). -/
def State.triggersBounded (s : State) : Prop := ∀ t : Tap, (s.taps[t]).triggers.length ≤ 4

/-- No list of the transmit queue is over its quota and no two DROP notes name one station (R58); a held claim is a
ROSTER claim (R61). -/
def State.quotasKept (s : State) : Prop :=
  (∀ k : NoteKind, (s.pendingOf k).length ≤ k.quota)
    ∧ ((s.pendingOf .drop).map Pending.claim).Nodup
    ∧ ∀ c, s.tx.held = some c → c.kind = .roster

/-- The places of the receive queue that are taken: accepted notes, and the reserved place (R51). -/
def State.placesTaken (s : State) : Nat := s.trunk.queue.length + (if s.trunk.wire.any Wire.reserved then 1 else 0)

/-- The receive queue "holds at most 8 places in all" (R51). -/
def State.placesBounded (s : State) : Prop := s.placesTaken ≤ 8

/-- Every slot of the line pool stands in one place, the free set being every slot that stands in no other, and "no tap
holds more than 192 of them" (R31). -/
def State.poolAccounted (s : State) : Prop := s.heldSlots.Nodup ∧ ∀ t : Tap, s.tapHolds t ≤ 192

/-- "A record queue holds at most 16 records" (R151). -/
def State.recordsBounded (s : State) : Prop := s.records.queue.length ≤ 16

/-- At most 16 events and 8 waiting notices (R181). -/
def State.eventsBounded (s : State) : Prop := s.window.events.length ≤ 16 ∧ noticesWaiting s ≤ 8

/-- "A channel's grant queue at any station holds at most 16 grants" (R102). -/
def State.grantsBounded (s : State) : Prop := ∀ c : Fin 8, (s.frames.channels[c]).queue.length ≤ 16

/-- "An output schedule holds at most 8 entries" (R163). -/
def State.schedulesBounded (s : State) : Prop :=
  ∀ j : Fin 4, (s.signals.outputs[j]).ranges.length ≤ 8 ∧ (s.signals.outputs[j]).changes.length ≤ 8

/-- In UNCONFIGURED and CONFIGURED the roster is empty, no peer record exists and the timers are stopped (R77, R94). -/
def State.outsidersEmpty (s : State) : Prop :=
  (s.mem.state = .unconfigured ∨ s.mem.state = .configured) →
    s.mem.roster = 0 ∧ s.mem.joinFrame = 0 ∧ s.mem.roll = .stopped ∧ s.mem.listen = .stopped
      ∧ ∀ p : Fin 8, s.mem.peers[p] = none ∧ s.mem.silence[p] = .stopped

/-- The station after a command of the host has been answered at once: the command word, the interface back in IDLE, the
result word and its two counters; nothing else (R172). -/
def State.answeredAs (s : State) (t : Moment) (code : Byte) (r : Result) (value : Word) : State :=
  { s with
    now := max s.now t
    window := { s.window with command := code, taking := none, result := { code, result := r, value, done := true } }
    ctr := { s.ctr with window := { s.ctr.window with
      commandsTaken := s.ctr.window.commandsTaken + 1
      commandsRefused := if r = .accepted then s.ctr.window.commandsRefused else s.ctr.window.commandsRefused + 1 } } }

/-- The state that a station reaches which enters CONFIGURED: UNCONFIGURED while CONFIG-CORRUPT is set (R94, R177). -/
def State.home (s : State) : StationState := if s.faultSet .configCorrupt then .unconfigured else .configured

/-- What every unit holds after an entry into CONFIGURED, whatever the station passes on to at once: the tables, queues,
marks and stores are empty and the position unit is STOPPED (R15, R36, R55, R94, R120, R124, R142, R156, R170). Notices
stay in the port (R181). -/
def State.emptied (u : State) : Prop :=
  u.mem.roster = 0 ∧ u.mem.joinFrame = 0 ∧ u.mem.roll = .stopped
    ∧ (∀ p : Station, u.mem.peers[p] = none ∧ u.mem.silence[p] = .stopped)
    ∧ (∀ i : Fin 8, u.frames.slots[i] = .free) ∧ u.frames.h = 0 ∧ u.frames.gateOpen = false ∧ u.frames.gateFrame = 0
    ∧ u.frames.resume = none ∧ u.frames.founded = false ∧ (∀ j : Fin 2, u.frames.rotation[j] = none)
    ∧ (∀ c : Fin 8, u.frames.channels[c]
        = { queue := [], complete := false, blind := none, nextSeq := 0, lastSeen := none })
    ∧ (∀ t : Tap, (u.taps[t]).triggers = [] ∧ (u.taps[t]).lines = [] ∧ (u.taps[t]).port = .idle
        ∧ (u.taps[t]).primed = false ∧ (u.taps[t]).expected = 0)
    ∧ u.freeCount = 256 ∧ u.freeLow = 256
    ∧ u.pos.mode = .stopped ∧ u.pos.offset = 0 ∧ u.pos.latch = none ∧ u.pos.lastIssue = none
    ∧ (∀ i : Fin 4, u.pos.strobes[i] = none)
    ∧ u.trunk.queue = [] ∧ u.trunk.vetoRun = 0 ∧ u.tx.held = none
    ∧ u.delivery.turn = none ∧ u.delivery.lastTap = 1 ∧ (∀ t : Tap, u.delivery.handled[t] = 0)
    ∧ (∀ (t : Tap) (phase : Fin 4), (u.delivery.store[t])[phase] = none)
    ∧ (∀ r ∈ u.delivery.port, r.isNotice = true) ∧ u.records.queue = []
    ∧ (∀ j : Fin 4, u.signals.outputs[j]
        = { ranges := [], changes := [], follow := false, lastApplied := none, manual := false })

/-- A pending leg that station p has not finished with (R146). -/
def Leg.awaits (l : Leg) (p : Station) : Bool :=
  l.status == .pending && hasStation l.mask p && !hasStation (l.delivered ||| l.void ||| l.removed) p

/-- A leg that station p, and no other, has not finished with (R147). -/
def Leg.awaitsOnly (l : Leg) (p : Station) : Bool :=
  l.awaits p && (l.mask &&& ~~~(addStation (l.delivered ||| l.void ||| l.removed) p)) == 0

/-- How many legs of the frame table pass a test. -/
def State.countLegs (s : State) (test : Leg → Bool) : Nat :=
  ((List.finRange 8).flatMap fun i => [(i, (0 : Fin 2)), (i, 1)]).countP fun e => (s.legAt e.1 e.2).any test

/-- From s to u the removal of station p, with this poster, has been applied to the legs: p joins the removed set of every
leg that awaits it, the legs that awaited it alone are completed and retired, no other pending leg changes but in its own
part, and each is counted (R146, R147, R148, R149). -/
def State.removalReached (s u : State) (p : Station) (poster : Option Station) : Prop :=
  (∀ (i : Fin 8) (j : Fin 2) (l : Leg), s.legAt i j = some l →
      (l.awaits p = true → l.awaitsOnly p = false →
        ∃ l', u.legAt i j = some l' ∧ l' = { l with removed := addStation l.removed p, own := l'.own })
      ∧ (l.awaitsOnly p = true → ∀ l', u.legAt i j = some l' → l'.status = .retired)
      ∧ (l.status = .pending → l.awaits p = false → ∃ l', u.legAt i j = some l' ∧ l' = { l with own := l'.own }))
    ∧ (let done := BitVec.ofNat 32 (s.countLegs fun l => l.awaitsOnly p)
       let c := s.ctr.records
       let d := u.ctr.records
       d.removalsApplied = c.removalsApplied + BitVec.ofNat 32 (s.countLegs fun l => l.awaits p)
         ∧ d.legsCompleted = c.legsCompleted + done ∧ d.legsCompletedByRemoval = c.legsCompletedByRemoval + done
         ∧ d.legsRetired = c.legsRetired + done
         ∧ d.legsUnposted = c.legsUnposted + (if poster = none then done else 0)
         ∧ d.recordsBuilt = c.recordsBuilt + (if poster = some s.self then done else 0))

/-- From s to u, a LISTENING or JOINING station has removed station p from its roster, with its peer record, and stays in
its state (R81). The removal of another station is applied to the legs; that of the own number to none (log 21). -/
def State.listenerRemoved (s u : State) (p : Station) (poster : Option Station) : Prop :=
  u.mem.state = s.mem.state ∧ u.mem.roster = dropStation s.mem.roster p ∧ u.mem.peers[p] = none
    ∧ u.ctr.mem = s.ctr.mem
    ∧ (p ≠ s.self → s.removalReached u p poster)
    ∧ (p = s.self → ∀ (i : Fin 8) (j : Fin 2) (l : Leg), s.legAt i j = some l →
        ∃ l', u.legAt i j = some l' ∧ l' = { l with own := l'.own })

/-- No head of a line queue is to be discarded (R127). -/
def State.headsKept (s : State) : Prop :=
  ∀ (t : Tap) (l : Line), (s.taps[t]).lines.head? = some l → ∀ why, s.headDecision l ≠ .discard why

/-- The tap is the one that the port offers a new turn to, if it has one ready (R126). -/
def State.offered (s : State) (t : Tap) : Prop :=
  t = otherTap s.delivery.lastTap ∨ (t = s.delivery.lastTap ∧ s.turnReady (otherTap s.delivery.lastTap) = false)

/-- From s to u, tap t has become done in every COLLECTING own part of a frame at or below k (R135). -/
def State.tapFinished (s u : State) (t : Tap) (k : Nat) : Prop :=
  ∀ (i : Fin 8) (j : Fin 2) (p : OwnPart), s.partAt i j = some p → p.state = .collecting → s.frameAt i ≤ k →
    ∃ p', u.partAt i j = some p' ∧ (p'.taps[t]).done = true

/-- The steps of forward motion (R1). -/
def forwardSteps : List ((Bool × Bool) × (Bool × Bool)) :=
  [((false, false), (true, false)), ((true, false), (true, true)), ((true, true), (false, true)),
   ((false, true), (false, false))]

end Sys2Proof.Machine

namespace Sys2Proof

/-- Every command that can change the configuration area: the host's writes while it is open, the upsets a check finds,
and the two resets that clear it (R174, R177, R182). -/
def Instr.writesArea : Instr → Bool
  | .configWrite _ _ _ | .configCheck _ _ | .resetStation _ | .powerOnReset _ => true
  | .encoderEvent _ _ _ | .strobeTimerExpiry _ _ | .trigPulseEnd _ _ | .triggerTimeout _ _ | .syncWord _ _ _
  | .packetArrival _ _ _ | .noteSendStart _ | .leadMark _ | .stretchLimit _ | .confirmSlot _ _ _ | .noteAbandoned _ _
  | .trunkIdle _ | .trunkError _ | .stall _ _ | .processSignal _ | .processDrop _ | .processOpen _ | .processDone _
  | .processGate _ | .processGrant _ | .processRoll _ | .processRosterJoin _ | .processRosterLeave _ | .portIssue _
  | .flushCompletion _ _ | .flushTimeout _ _ _ | .recordFlushTimeout _ | .legTimerExpiry _ _ _ | .linkDown _
  | .linkUp _ | .signalEdge _ _ _ | .groupFaultEdge _ | .listenTimerExpiry _ | .rollTimerExpiry _
  | .silenceTimerExpiry _ _ | .acceptConfig _ | .acceptConfigDone _ _ _ | .join _ | .leave _ | .postGrant _
  | .gateClose _ | .gateOpen _ | .mark _ | .setOutput _ | .clearFaults _ | .resetAcquisition _
  | .resetStationComplete _ | .unknownCommand _ _ | .commandCollision _ | .ignoredWrite _ _ _ | .stallEnd _
  | .tkfltReleased _ | .argumentWordWrite _ _ _ => false

/-- Every command that can change the raw count or the reference pair: the encoder event and the two resets that clear
them (R1, R13, R14). -/
def Instr.movesEncoder : Instr → Bool
  | .encoderEvent _ _ _ | .resetStation _ | .powerOnReset _ => true
  | .strobeTimerExpiry _ _ | .trigPulseEnd _ _ | .triggerTimeout _ _ | .syncWord _ _ _
  | .packetArrival _ _ _ | .noteSendStart _ | .leadMark _ | .stretchLimit _ | .confirmSlot _ _ _ | .noteAbandoned _ _
  | .trunkIdle _ | .trunkError _ | .stall _ _ | .processSignal _ | .processDrop _ | .processOpen _ | .processDone _
  | .processGate _ | .processGrant _ | .processRoll _ | .processRosterJoin _ | .processRosterLeave _ | .portIssue _
  | .flushCompletion _ _ | .flushTimeout _ _ _ | .recordFlushTimeout _ | .legTimerExpiry _ _ _ | .linkDown _
  | .linkUp _ | .signalEdge _ _ _ | .groupFaultEdge _ | .configCheck _ _ | .listenTimerExpiry _ | .rollTimerExpiry _
  | .silenceTimerExpiry _ _ | .acceptConfig _ | .acceptConfigDone _ _ _ | .join _ | .leave _ | .postGrant _
  | .gateClose _ | .gateOpen _ | .mark _ | .setOutput _ | .clearFaults _ | .resetAcquisition _
  | .resetStationComplete _ | .unknownCommand _ _ | .commandCollision _ | .configWrite _ _ _ | .ignoredWrite _ _ _
  | .stallEnd _ | .tkfltReleased _ | .argumentWordWrite _ _ _ => false

/-- The commands that are a write of the command word (R172). -/
def Instr.writesCommandWord : Instr → Bool
  | .acceptConfig _ | .join _ | .leave _ | .postGrant _ | .gateClose _ | .gateOpen _ | .mark _ | .setOutput _
  | .clearFaults _ | .resetAcquisition _ | .resetStation _ | .commandCollision _ => true
  | .unknownCommand _ code => !namesCommand code
  | .powerOnReset _ | .encoderEvent _ _ _ | .strobeTimerExpiry _ _ | .trigPulseEnd _ _ | .triggerTimeout _ _
  | .syncWord _ _ _ | .packetArrival _ _ _ | .noteSendStart _ | .leadMark _ | .stretchLimit _ | .confirmSlot _ _ _
  | .noteAbandoned _ _ | .trunkIdle _ | .trunkError _ | .stall _ _ | .processSignal _ | .processDrop _
  | .processOpen _ | .processDone _ | .processGate _ | .processGrant _ | .processRoll _ | .processRosterJoin _
  | .processRosterLeave _ | .portIssue _ | .flushCompletion _ _ | .flushTimeout _ _ _ | .recordFlushTimeout _
  | .legTimerExpiry _ _ _ | .linkDown _ | .linkUp _ | .signalEdge _ _ _ | .groupFaultEdge _ | .configCheck _ _
  | .listenTimerExpiry _ | .rollTimerExpiry _ | .silenceTimerExpiry _ _ | .acceptConfigDone _ _ _
  | .resetStationComplete _ | .configWrite _ _ _ | .ignoredWrite _ _ _ | .stallEnd _ | .tkfltReleased _
  | .argumentWordWrite _ _ _ => false

/-- The moment a command is taken (log 1). -/
def Instr.moment : Instr → Moment
  | .powerOnReset t | .encoderEvent t _ _ | .strobeTimerExpiry t _ | .trigPulseEnd t _ | .triggerTimeout t _
  | .syncWord t _ _ | .packetArrival t _ _ | .noteSendStart t | .leadMark t | .stretchLimit t | .confirmSlot t _ _
  | .noteAbandoned t _ | .trunkIdle t | .trunkError t | .stall t _ | .processSignal t | .processDrop t
  | .processOpen t | .processDone t | .processGate t | .processGrant t | .processRoll t | .processRosterJoin t
  | .processRosterLeave t | .portIssue t | .flushCompletion t _ | .flushTimeout t _ _ | .recordFlushTimeout t
  | .legTimerExpiry t _ _ | .linkDown t | .linkUp t | .signalEdge t _ _ | .groupFaultEdge t | .configCheck t _
  | .listenTimerExpiry t | .rollTimerExpiry t | .silenceTimerExpiry t _ | .acceptConfig t | .acceptConfigDone t _ _
  | .join t | .leave t | .postGrant t | .gateClose t | .gateOpen t | .mark t | .setOutput t | .clearFaults t
  | .resetAcquisition t | .resetStation t | .resetStationComplete t | .unknownCommand t _ | .commandCollision t
  | .configWrite t _ _ | .ignoredWrite t _ _ | .stallEnd t | .tkfltReleased t | .argumentWordWrite t _ _ => t

end Sys2Proof
end

