-- ==== Sys2Proof/Certificates/Slice0/Obligations.lean ====
section
/-! DEFINITION. The statements for the provers. A statement that names a log entry rests, in that clause, on a choice of
this model (notes/assumptions). -/

open Sys2Proof Sys2Proof.Machine

/-! ### The step and the queue of commands -/

/-- The command at the front is executed with the queue's rest; an empty queue idles: the model's choice (log 3). -/
def Obligations.StepRunsFrontCommand : Prop :=
  (∀ (c : Instr) (rest : List Instr) (s : State), s.pending = c :: rest → step s = exec c { s with pending := rest })
  ∧ (∀ s : State, s.pending = [] → step s = .next s)

/-- Every command answers a next state, leaves the queue of commands alone and brings the moment to its own, or leaves
it where that is later (log 1, 3). -/
def Obligations.CommandsAnswerAndKeepQueue : Prop :=
  ∀ (c : Instr) (s : State), ∃ u, exec c s = .next u ∧ u.pending = s.pending ∧ u.now = max s.now c.moment

/-! ### Reset and invariants -/

/-- What the station holds right after a power-on reset (R13, R35, R55, R77, R120, R142, R156, R170, R182). That the result
value is 0 is the model's choice (log 5). -/
def Obligations.PowerOnValues : Prop :=
  let s := State.reset
  (∀ a, Memory.read s.window.area a = 0) ∧ s.window.digest = 0 ∧ s.mem.state = .unconfigured ∧ s.mem.roster = 0
    ∧ s.window.faults = 0 ∧ s.window.collision = false ∧ s.pullsFaultLine = false ∧ s.ctr = {}
    ∧ s.window.events = [{ number := 1, kind := .reset }] ∧ s.window.eventNumber = 1 ∧ s.window.taking = none
    ∧ s.window.result = { code := 0, result := .accepted, value := 0, done := true }
    ∧ s.pos.raw = 0 ∧ s.pos.offset = 0 ∧ s.groupCount = 0 ∧ s.pos.w = 0 ∧ s.pos.lineIndex = 0
    ∧ s.currentFrame = 0 ∧ s.pos.nextDue = BitVec.ofNat 32 (cfgD s.area) ∧ s.pos.mode = .stopped ∧ s.pos.reference = none
    ∧ s.pos.latch = none ∧ s.pos.lastIssue = none ∧ s.pos.indexEnd = false
    ∧ (∀ i : Fin 4, s.pos.strobes[i] = none)
    ∧ (∀ t : Tap, s.taps[t] = { triggers := [], expected := 0, primed := false, port := .idle, lines := [], pulse := none })
    ∧ s.freeCount = 256 ∧ s.freeLow = 256
    ∧ s.trunk.view = .detached ∧ s.trunk.queue = [] ∧ s.trunk.vetoRun = 0 ∧ (∀ k, s.pendingOf k = []) ∧ s.tx.held = none
    ∧ (∀ i : Fin 8, s.frames.slots[i] = .free) ∧ s.frames.h = 0 ∧ s.frames.gateOpen = false ∧ s.frames.gateFrame = 0
    ∧ s.frames.resume = none ∧ s.frames.founded = false ∧ s.frames.lostGrant = none
    ∧ (∀ c : Fin 8, s.frames.channels[c] = { queue := [], complete := false, blind := none, nextSeq := 0, lastSeen := none })
    ∧ (∀ j : Fin 2, s.frames.rotation[j] = none)
    ∧ s.delivery.turn = none ∧ s.delivery.lastTap = 1 ∧ s.delivery.port = [] ∧ s.delivery.flushCount = 0
    ∧ (∀ t : Tap, s.delivery.handled[t] = 0) ∧ s.records.queue = []
    ∧ (∀ j : Fin 4, s.signals.outputs[j] = { ranges := [], changes := [], follow := false, lastApplied := none, manual := false })
    ∧ (∀ j : Fin 4, s.outputPin j = false)

/-- A power-on reset gives the reset state; RESET-STATION gives it too, but that the link, the count of flushes and the
command interface go on; when the reset is complete the command is answered ACCEPTED (R136, R182). What else the reset
keeps (the queue of commands, the moment, the draws, the last request) is the model's own: log 3, 26, 37. -/
def Obligations.ResetsOfTheWholeStation : Prop :=
  ∀ (t : Moment) (s : State),
    exec (.powerOnReset t) s
        = .next { State.reset with pending := s.pending, now := max s.now t, draws := s.draws }
      ∧ (s.window.taking = none →
          exec (.resetStation t) s
            = .next { State.reset with
                pending := s.pending, now := max s.now t, draws := s.draws, lastRequest := s.lastRequest
                delivery := { State.reset.delivery with linkUp := s.delivery.linkUp, flushCount := s.delivery.flushCount }
                window := { State.reset.window with
                  command := 11, taking := some { code := 11, args := s.window.args }
                  result := { s.window.result with done := false } } })
      ∧ (s.takingCode = some 11 → s.window.command = 11 →
          exec (.resetStationComplete t) s = .next (s.answeredAs t 11 .accepted 0))

/-- RESET-ACQUISITION: refused in UNCONFIGURED; elsewhere the acquisition is emptied, the flags but CONFIG-CORRUPT are
clear, a member becomes LEAVING and every other station goes to CONFIGURED, or on to UNCONFIGURED while CONFIG-CORRUPT is
set (R14, R35, R94, R120, R124, R156, R177, R183, R184). A member keeps its tables, its roster and its receive queue (R55;
log 53), its own parts are REPORTED or VOID (R142), its pending notes are withdrawn and ROSTER-LEAVE is claimed (R63, R89).
The position unit keeps its line index and its current frame (R4, R14). That the answer is counted after the counters are
cleared is log 26. -/
def Obligations.AcquisitionReset : Prop :=
  ∀ (t : Moment) (s : State), s.window.taking = none →
    (s.mem.state = .unconfigured → exec (.resetAcquisition t) s = .next (s.answeredAs t 10 .refusedState 0))
    ∧ (s.mem.state ≠ .unconfigured → ∃ u, exec (.resetAcquisition t) s = .next u
        ∧ u.mem.state = (if s.mem.state = .member then .leaving else s.home)
        ∧ u.area = s.area ∧ (u.mem.state ≠ .unconfigured → u.window.digest = s.window.digest ∧ u.mem.number = s.mem.number)
        ∧ u.window.faults = s.window.faults &&& 0x100#16 ∧ u.window.collision = false
        ∧ u.ctr = { ({} : Counters) with window := { commandsTaken := 1 } }
        ∧ u.pos = { s.pos with offset := 0, mode := .stopped, leftFrame := s.currentFrame, latch := none,
                               lastIssue := none, strobes := Vector.replicate 4 none }
        ∧ u.currentFrame = s.currentFrame
        ∧ (∀ tap : Tap, (u.taps[tap]).triggers = [] ∧ (u.taps[tap]).lines = [] ∧ (u.taps[tap]).port = .idle
            ∧ (u.taps[tap]).primed = false ∧ (u.taps[tap]).expected = 0)
        ∧ u.freeLow = 256 ∧ u.records.queue = [] ∧ u.delivery.turn = none ∧ u.delivery.lastTap = 1
        ∧ (∀ tap : Tap, u.delivery.handled[tap] = 0)
        ∧ (∀ j : Fin 4, u.signals.outputs[j]
            = { ranges := [], changes := [], follow := false, lastApplied := none, manual := false })
        ∧ u.trunk.vetoRun = 0 ∧ u.frames.lostGrant = none ∧ u.delivery.linkUp = s.delivery.linkUp
        ∧ u.window.taking = none ∧ u.window.result = { code := 10, result := .accepted, value := 0, done := true }
        ∧ (∀ (tap : Tap) (phase : Fin 4), (u.delivery.store[tap])[phase] = none)
        ∧ (∀ k, k ≠ .roster ∨ s.mem.state ≠ .member → s.onWire k = false → u.pendingOf k = [])
        ∧ (s.mem.state ≠ .member → u.emptied)
        ∧ (s.mem.state = .member →
            u.frames = { s.frames with slots := u.frames.slots, lostGrant := none }
              ∧ (∀ (i : Fin 8) (j : Fin 2) (p : OwnPart), s.partAt i j = some p →
                  u.partAt i j = some { p with state := if p.state = .reported then .reported else .void
                                               timer := .stopped, flush := .none })
              ∧ u.trunk.queue = s.trunk.queue ∧ u.mem.roster = s.mem.roster ∧ u.mem.roll = .stopped
              ∧ (∀ p : Station, u.mem.silence[p] = .stopped)
              ∧ (s.trunk.wire = none → u.pendingOf .roster = [{ claim := .rosterLeave, attempts := 0, doom := .none }])))

def Obligations.InvariantsAtReset : Prop :=
  State.reset.areaCanonical ∧ State.reset.slotsPlaced ∧ State.reset.legsSound ∧ State.reset.triggersBounded
    ∧ State.reset.poolAccounted ∧ State.reset.quotasKept ∧ State.reset.placesBounded ∧ State.reset.recordsBounded ∧ State.reset.eventsBounded
    ∧ State.reset.grantsBounded ∧ State.reset.schedulesBounded ∧ State.reset.outsidersEmpty

def Obligations.AreaStaysCanonical : Prop := ∀ s u : State, s.areaCanonical → step s = .next u → u.areaCanonical

/-- An entry stands in the slot of its frame; the sets of a leg are disjoint parts of its mask (R96, R145). -/
def Obligations.FrameTableStaysSound : Prop :=
  (∀ s u : State, s.slotsPlaced → step s = .next u → u.slotsPlaced)
  ∧ (∀ s u : State, s.legsSound → step s = .next u → u.legsSound)

/-- The trigger queues hold at most 4 entries, the receive queue at most 8 places, no list of the transmit queue is over its
quota, every slot of the line pool stands in one place and no tap holds more than 192 (R18, R31, R51, R58, R61). -/
def Obligations.QueuesStayBounded : Prop :=
  ((∀ s u : State, s.triggersBounded → step s = .next u → u.triggersBounded)
    ∧ (∀ s u : State, s.placesBounded → step s = .next u → u.placesBounded))
  ∧ (∀ s u : State, s.quotasKept → step s = .next u → u.quotasKept)
  ∧ (∀ s u : State, s.poolAccounted → step s = .next u → u.poolAccounted)

/-- At most 16 records, 16 events, 8 waiting notices, 16 grants of a channel, 8 entries of a schedule (R102, R151, R163,
R181). -/
def Obligations.RecordEventGrantAndScheduleListsStayBounded : Prop :=
  (∀ s u : State, s.recordsBounded → s.eventsBounded → step s = .next u → u.recordsBounded ∧ u.eventsBounded)
  ∧ (∀ s u : State, s.grantsBounded → s.schedulesBounded → step s = .next u → u.grantsBounded ∧ u.schedulesBounded)

def Obligations.OutsidersStayEmpty : Prop := ∀ s u : State, s.outsidersEmpty → step s = .next u → u.outsidersEmpty

/-! ### What a command leaves alone -/

/-- Every byte of the configuration area is unchanged by every command but the four that write it (R174, R177, R182). -/
def Obligations.AreaFrame : Prop :=
  ∀ (c : Instr) (s u : State), c.writesArea = false → exec c s = .next u →
    ∀ a, Memory.read u.area a = Memory.read s.area a

/-- What the commands of the taps and of the host link leave alone: the position unit, the trunk, the membership, the
signal unit, the registers of the window, and of the frame table all but own parts; a tap's commands leave the transmit
queue and the records alone too, and issue no request (the model's own field `lastRequest` stays: log 37). What SIGNAL, OPEN, DONE, GATE and GRANT leave alone: the counts and lines of
the position unit, the roster, the trigger queues and ports of the taps, and the registers of the window (R10, R53,
R123, R136, R138, R178, R181). -/
def Obligations.UnitFrames : Prop :=
  (∀ (c : Instr) (t : Moment) (tap : Tap) (bytes : List Byte) (i : Fin 8) (j : Fin 2) (number : Nat) (s u : State),
    c ∈ [Instr.trigPulseEnd t tap, .triggerTimeout t tap, .syncWord t tap bytes, .packetArrival t tap bytes,
      .portIssue t, .flushCompletion t number, .flushTimeout t i j, .recordFlushTimeout t, .legTimerExpiry t i j,
      .linkDown t, .linkUp t] →
    exec c s = .next u →
    u.pos = s.pos ∧ u.trunk = s.trunk ∧ u.mem = s.mem ∧ u.signals = s.signals
      ∧ u.frames = { s.frames with slots := u.frames.slots }
      ∧ (∀ (i : Fin 8) (j : Fin 2) (l : Leg), s.legAt i j = some l →
          ∃ l', u.legAt i j = some l' ∧ l = { l' with own := l.own })
      ∧ u.window = { s.window with
          faults := u.window.faults, events := u.window.events, eventNumber := u.window.eventNumber })
  ∧ (∀ (c : Instr) (t : Moment) (tap : Tap) (bytes : List Byte) (s u : State),
    c ∈ [Instr.trigPulseEnd t tap, .triggerTimeout t tap, .syncWord t tap bytes, .packetArrival t tap bytes] →
    exec c s = .next u → u.tx = s.tx ∧ u.records = s.records ∧ u.lastRequest = s.lastRequest)
  ∧ (∀ (c : Instr) (t : Moment) (s u : State),
    c ∈ [Instr.processSignal t, .processOpen t, .processDone t, .processGate t, .processGrant t] →
    exec c s = .next u →
    u.pos = { s.pos with mode := u.pos.mode } ∧ u.lastRequest = s.lastRequest ∧ u.mem.roster = s.mem.roster
      ∧ u.mem.number = s.mem.number ∧ u.mem.joinFrame = s.mem.joinFrame
      ∧ (∀ tap : Tap, u.taps[tap] = { s.taps[tap] with lines := (u.taps[tap]).lines })
      ∧ u.window = { s.window with
          faults := u.window.faults, events := u.window.events, eventNumber := u.window.eventNumber })

/-! ### Notes, counts and formats -/

/-- Every note whose count fields are legal (`Note.wf`) is read from its cells as it was, with its sender (11_formats.md,
R73, R186). -/
def Obligations.NotesReadAsWritten : Prop :=
  ∀ (p : Station) (n : Note), n.wf = true → readNote (noteCells p n) = some (p, n)

/-- Sequence numbers (R101). -/
def Obligations.SequenceOrder : Prop :=
  (∀ a b : Byte, (seqAtOrBelow a b = true ↔ (b.toNat + 256 - a.toNat) % 256 ≤ 127)
      ∧ (seqBelow a b = true ↔ 1 ≤ (b.toNat + 256 - a.toNat) % 256 ∧ (b.toNat + 256 - a.toNat) % 256 ≤ 127)
      ∧ (seqAbove a b = true ↔ 128 ≤ (b.toNat + 256 - a.toNat) % 256 ∧ (b.toNat + 256 - a.toNat) % 256 ≤ 255))
    ∧ seqAbove 3 250 = true ∧ seqAtOrBelow 250 3 = true

/-- The two patterns, byte by byte, the manual's example, and the line that a PATTERN tap with a granted slot queues: it
carries the pattern that the configuration selects (R28). -/
def Obligations.PatternBytes : Prop :=
  (∀ (station : Station) (t : Tap) (line width i : Nat), i < width →
    (patternLine true station t line width)[i]? = some (BitVec.ofNat 8 i)
      ∧ (i < 4 → (patternLine false station t line width)[i]? = some (BitVec.ofNat 8 (line / 256 ^ i)))
      ∧ (i = 4 → (patternLine false station t line width)[i]? = some (BitVec.ofNat 8 station.val))
      ∧ (i = 5 → (patternLine false station t line width)[i]? = some (BitVec.ofNat 8 t.val))
      ∧ (6 ≤ i → (patternLine false station t line width)[i]? = some (BitVec.ofNat 8 (i + line))))
    ∧ (∀ (ramp : Bool) (station : Station) (t : Tap) (line width : Nat),
        (patternLine ramp station t line width).length = width)
    ∧ ((patternLine false 3 1 74565 188).take 8 = [0x45#8, 0x23#8, 0x01#8, 0x00#8, 0x03#8, 0x01#8, 75#8, 76#8])
    ∧ (patternLine false 3 1 74565 188)[186]? = some 255 ∧ (patternLine false 3 1 74565 188)[187]? = some 0
    ∧ (∀ (s : State) (t : Tap) (r : Trigger), s.tapMode t = .pattern → s.slotGranted t = true →
        ∃ l : Line, ((s.handRecord t r).taps[t]).lines = (s.taps[t]).lines ++ [l] ∧ l.index = r.index ∧ l.phase = r.phase
          ∧ l.pixels = patternLine (cfgRamp s.area t) s.self t r.index (s.tapWidth t))

/-- A received 16-bit frame number is extended by the reference frame C (R74; a value below 0 that no station meets is
0: log 32). A frame within 32,768 below and 32,767 above C is restored. The manual's two examples. -/
def Obligations.FramesExtended : Prop :=
  (∀ (a : Memory) (c : Nat) (f : BitVec 16),
    let d : Nat := (f.toNat + 65536 - c % 65536) % 65536
    let x : Int := if d ≤ 32767 then (c : Int) + d else (c : Int) + d - 65536
    let y : Int := if x < 0 then x + 65536 else x
    extendFrame a c f = (if (frameOf a (lastLine a) : Int) < y then y - 65536 else y).toNat)
    ∧ (∀ (a : Memory) (c k : Nat), k ≤ frameOf a (lastLine a) → c ≤ k + 32768 → k ≤ c + 32767 →
        extendFrame a c (BitVec.ofNat 16 k) = k)
    ∧ (∀ a : Memory, 131073 ≤ frameOf a (lastLine a) → extendFrame a 131070 1 = 131073 ∧ extendFrame a 5 65534 = 65534)

/-! ### Position unit -/

/-- The first pair after a reset counts nothing; a backward step moves the raw count alone; a forward step raises it by
one, and alone while the unit is STOPPED or the group count stays at or below W (R1, R5). -/
def Obligations.EncoderCounts : Prop :=
  ∀ (t : Moment) (a b : Bool) (s : State),
    (s.pos.reference = none →
      exec (.encoderEvent t a b) s = .next { s.tick t with pos := { s.pos with reference := some (a, b) } })
    ∧ (∀ p, s.pos.reference = some p → ((a, b), p) ∈ forwardSteps →
        exec (.encoderEvent t a b) s
          = .next { s.tick t with pos := { s.pos with reference := some (a, b), raw := s.pos.raw - 1 } })
    ∧ (∀ p, s.pos.reference = some p → (p, (a, b)) ∈ forwardSteps →
        (s.pos.mode = .stopped ∨ s.groupCount ≠ s.pos.w →
          exec (.encoderEvent t a b) s
            = .next { s.tick t with pos := { s.pos with reference := some (a, b), raw := s.pos.raw + 1 } })
        ∧ ∃ u, exec (.encoderEvent t a b) s = .next u ∧ u.pos.raw = s.pos.raw + 1
            ∧ u.pos.reference = some (a, b) ∧ u.pos.offset = s.pos.offset ∧ u.pos.mode = s.pos.mode)

/-- An encoder event in which both inputs change: counted and raised, no count moves, the new pair is the reference, a
MEMBER lapses and in any other state nothing more changes than the fault's record and its notice (R2). -/
def Obligations.IllegalEncoderStep : Prop :=
  ∀ (t : Moment) (a b : Bool) (s : State), s.pos.reference = some (!a, !b) →
    ∃ u, exec (.encoderEvent t a b) s = .next u ∧ u.pos.raw = s.pos.raw ∧ u.groupCount = s.groupCount
      ∧ u.pos.w = s.pos.w ∧ u.pos.lineIndex = s.pos.lineIndex ∧ u.pos.reference = some (a, b)
      ∧ u.ctr.pos = { s.ctr.pos with encoderErrors := s.ctr.pos.encoderErrors + 1 }
      ∧ u.faultSet .encoder = true
      ∧ u.mem.state = (if s.mem.state = .member then .lapsed else s.mem.state)
      ∧ (s.mem.state ≠ .member → u = { s.tick t with
          pos := { s.pos with reference := some (a, b) }
          window := { s.window with
            faults := u.window.faults, events := u.window.events, eventNumber := u.window.eventNumber }
          delivery := { s.delivery with port := u.delivery.port }
          ctr := u.ctr })

/-- An up-count above W: W follows, and the line that is due raises the line index by one and the next due count by D
(R5, R11); in TRACKING no line is issued, suppressed or handed to a tap (R4). At the advance the schedules lose what has
ended or is applied, a PULSE output is asserted in its head range, and an opener-eligible station claims OPEN for its frame
when that is above H and allowed (R10, R60, R101a, R165, R166). -/
def Obligations.DueLineAdvances : Prop :=
  ∀ (t : Moment) (p : Bool × Bool) (a b : Bool) (s : State), s.pos.reference = some p → (p, (a, b)) ∈ forwardSteps →
    s.pos.mode ≠ .stopped → s.groupCount = s.pos.w →
    ∃ u, exec (.encoderEvent t a b) s = .next u ∧ u.pos.w = s.pos.w + 1
      ∧ (if 0 ≤ (s.pos.w + 1 - s.pos.nextDue).toInt ∧ s.pos.lineIndex < lastLine s.area then
          u.pos.lineIndex = s.pos.lineIndex + 1 ∧ u.pos.nextDue = s.pos.nextDue + BitVec.ofNat 32 (cfgD s.area)
            ∧ (u.pos.indexEnd = true ↔ u.pos.lineIndex = lastLine s.area)
            ∧ (∀ j : Fin 4,
                let n := s.pos.lineIndex + 1
                let o := s.signals.outputs[j]
                let v := u.signals.outputs[j]
                v.ranges = o.ranges.dropWhile (fun r => decide (r.2 ≤ n))
                  ∧ v.changes = o.changes.dropWhile (fun c => decide (c.1 ≤ n)) ∧ v.manual = o.manual
                  ∧ (match (o.changes.takeWhile fun c => decide (c.1 ≤ n)).getLast? with
                      | some c => v.follow = c.2 ∧ v.lastApplied = some c.1
                      | none => v.follow = o.follow ∧ v.lastApplied = o.lastApplied)
                  ∧ (cfgOutputMode s.area j = .pulse →
                      (u.asserted j = true ↔ ∃ r rest, v.ranges = r :: rest ∧ r.1 ≤ n ∧ n < r.2)))
            ∧ (let k := (s.pos.lineIndex + 1) / cfgL s.area
               let opens := s.openerEligible k = true ∧ s.frames.h < k ∧ s.allowed k = true
               (opens → u.tx = (s.claimOpening k).tx)
                 ∧ (opens → s.pendingOf .opening = [] →
                     u.pendingOf .opening = [{ claim := .opening k, attempts := 0, doom := .none }])
                 ∧ (¬ opens → u.tx = s.tx))
        else u.pos.lineIndex = s.pos.lineIndex ∧ u.pos.nextDue = s.pos.nextDue ∧ u.pos.indexEnd = s.pos.indexEnd
          ∧ u.signals = s.signals ∧ u.tx = s.tx)
      ∧ (s.pos.mode = .tracking → u.ctr.pos = s.ctr.pos ∧ u.pos.strobes = s.pos.strobes
          ∧ ∀ tap : Tap, (u.taps[tap]).triggers = (s.taps[tap]).triggers)

/-- In ISSUING a due line is suppressed when it comes less than the minimum line period after the last issue: it moves
nothing but its counter; else it is issued, its moment is the last issue time, the strobes of its phase fire, and each tap
is handed its trigger record: a LIVE tap with fewer than 4 entries queues it and pulses TRIG for 1 µs, one with a full
queue refuses it, an OFF tap is not handed it (R6, R7, R8, R17, R18; a pulse still active starts anew: log 12). -/
def Obligations.DueLineIssuedOrSuppressed : Prop :=
  ∀ (t : Moment) (p : Bool × Bool) (a b : Bool) (s : State), s.pos.reference = some p → (p, (a, b)) ∈ forwardSteps →
    s.pos.mode = .issuing → s.groupCount = s.pos.w → 0 ≤ (s.pos.w + 1 - s.pos.nextDue).toInt →
    s.pos.lineIndex < lastLine s.area →
    ∃ u, exec (.encoderEvent t a b) s = .next u ∧ u.pos.lineIndex = s.pos.lineIndex + 1
      ∧ ((∃ m, s.pos.lastIssue = some m ∧ u.now < m + cfgLinePeriod s.area) →
          u.pos.lastIssue = s.pos.lastIssue ∧ u.pos.strobes = s.pos.strobes
            ∧ u.ctr.pos = { s.ctr.pos with linesSuppressed := s.ctr.pos.linesSuppressed + 1 }
            ∧ ∀ tap : Tap, (u.taps[tap]).triggers = (s.taps[tap]).triggers ∧ (u.taps[tap]).pulse = (s.taps[tap]).pulse)
      ∧ ((∀ m, s.pos.lastIssue = some m → m + cfgLinePeriod s.area ≤ u.now) →
          u.pos.lastIssue = some u.now
            ∧ u.ctr.pos = { s.ctr.pos with linesIssued := s.ctr.pos.linesIssued + 1 }
            ∧ (∀ i : Fin 4, u.pos.strobes[i]
                = if cfgStrobeNamed s.area ((s.pos.lineIndex + 1) % cfgP s.area) i
                  then some (u.now + cfgStrobeWidth s.area) else s.pos.strobes[i])
            ∧ ∀ tap : Tap,
                let x := s.taps[tap]
                let n := s.pos.lineIndex + 1
                (s.tapMode tap = .live → x.triggers.length < 4 →
                  (u.taps[tap]).triggers = x.triggers ++ [{ index := n, phase := n % cfgP s.area, issued := u.now }]
                    ∧ (u.taps[tap]).pulse = some (u.now + 1000)
                    ∧ u.ctr.taps[tap] = { s.ctr.taps[tap] with triggersSent := (s.ctr.taps[tap]).triggersSent + 1 })
                ∧ (s.tapMode tap = .live → 4 ≤ x.triggers.length →
                    (u.taps[tap]).triggers = x.triggers ∧ (u.taps[tap]).pulse = x.pulse
                      ∧ u.ctr.taps[tap] = { s.ctr.taps[tap] with overtrigger := (s.ctr.taps[tap]).overtrigger + 1 })
                ∧ (s.tapMode tap = .off →
                    (u.taps[tap]).triggers = x.triggers ∧ (u.taps[tap]).pulse = x.pulse
                      ∧ u.ctr.taps[tap] = s.ctr.taps[tap]))

/-- A strobe output goes low when its timer has run out, and so does a TRIG pulse (R8, R18). -/
def Obligations.PulsesEnd : Prop :=
  ∀ (t : Moment) (s : State),
    (∀ (i : Fin 4) (deadline : Moment), s.pos.strobes[i] = some deadline → deadline ≤ max s.now t →
      exec (.strobeTimerExpiry t i) s
        = .next { s.tick t with pos := { s.pos with strobes := s.pos.strobes.set i none } })
    ∧ (∀ (tap : Tap) (deadline : Moment), (s.taps[tap]).pulse = some deadline → deadline ≤ max s.now t →
        exec (.trigPulseEnd t tap) s
          = .next { s.tick t with taps := s.taps.set tap { s.taps[tap] with pulse := none } })

/-! ### Camera taps -/

/-- Every head trigger at or past the trigger timeout is missed, and the expected counter passes it (R19). -/
def Obligations.TriggersTimeOut : Prop :=
  ∀ (t : Moment) (tap : Tap) (s : State) (old young : List Trigger),
    s.tapMode tap = .live → (s.taps[tap]).triggers = old ++ young → old ≠ [] →
    (∀ e ∈ old, e.issued + cfgTriggerTimeout s.area ≤ max s.now t) →
    (∀ e, young.head? = some e → max s.now t < e.issued + cfgTriggerTimeout s.area) →
    ∃ u, exec (.triggerTimeout t tap) s = .next u ∧ (u.taps[tap]).triggers = young
      ∧ (u.taps[tap]).expected = (s.taps[tap]).expected + BitVec.ofNat 8 old.length
      ∧ (u.taps[tap]).primed = (s.taps[tap]).primed
      ∧ u.ctr.taps[tap] = { s.ctr.taps[tap] with
          timeout := (s.ctr.taps[tap]).timeout + BitVec.ofNat 32 old.length
          triggersMissed := (s.ctr.taps[tap]).triggersMissed + BitVec.ofNat 32 old.length }
      ∧ (∀ other : Tap, other ≠ tap → (u.taps[other]).triggers = (s.taps[other]).triggers) ∧ u.mem = s.mem

/-- At a sync word a LIVE tap that was between packets takes a free slot as its fill slot when the pool grants it one,
and receives into nowhere otherwise; a sync word in a packet stored in a slot makes that packet bad and keeps the slot;
in one received into nowhere it counts the overrun too and asks afresh (R20, R21, R25, R31). Which free slot is the
pool's choice (log 6); that POOL-OVERRUN counts at the end of a packet received into nowhere, and not at its sync word, is
log 11. -/
def Obligations.SyncWordBeginsPacket : Prop :=
  ∀ (t : Moment) (tap : Tap) (cut : List Byte) (s : State), s.tapMode tap = .live →
    ((s.taps[tap]).port = .idle → 0 < s.freeCount → s.tapHolds tap < 192 →
      ∃ (u : State) (x : Fin 256), exec (.syncWord t tap cut) s = .next u ∧ x ∈ s.freeSlots
        ∧ u.taps = s.taps.set tap { s.taps[tap] with port := .filling x } ∧ u.ctr = s.ctr ∧ u.delivery = s.delivery)
    ∧ ((s.taps[tap]).port = .idle → (s.freeCount = 0 ∨ 192 ≤ s.tapHolds tap) →
        exec (.syncWord t tap cut) s
          = .next { s.tick t with taps := s.taps.set tap { s.taps[tap] with port := .nowhere } })
    ∧ (∀ x, (s.taps[tap]).port = .filling x →
        ∃ u, exec (.syncWord t tap cut) s = .next u ∧ (u.taps[tap]).port = .filling x
          ∧ (u.taps[tap]).triggers = (s.taps[tap]).triggers.drop 1
          ∧ (u.ctr.taps[tap]).malformed = (s.ctr.taps[tap]).malformed + 1)
    ∧ ((s.taps[tap]).port = .nowhere →
        ∃ u, exec (.syncWord t tap cut) s = .next u ∧ (u.taps[tap]).port ≠ .idle
          ∧ (u.taps[tap]).triggers = (s.taps[tap]).triggers.drop 1
          ∧ (u.ctr.taps[tap]).malformed = (s.ctr.taps[tap]).malformed + 1
          ∧ (u.ctr.taps[tap]).poolOverrun = (s.ctr.taps[tap]).poolOverrun + 1 ∧ u.faultSet .poolOverrun = true)

/-- A good packet at a LIVE tap, by the difference d of its counter and the expected one (0 while the tap is not primed):
on time or after d skipped triggers it takes the head left and its line joins the line queue, or is unsolicited; stale it
changes nothing; a break empties the trigger queue (R22, R23, R24, R26). What follows the arrival (R127, R135) is
`afterTap`. -/
def Obligations.GoodPacketReconciled : Prop :=
  ∀ (t : Moment) (tap : Tap) (bytes : List Byte) (slot : Fin 256) (c status : Byte) (s : State),
    s.tapMode tap = .live → (s.taps[tap]).port = .filling slot → packetGood (s.tapWidth tap) bytes = true →
    bytes[0]? = some c → bytes[3]? = some status →
    let x := s.taps[tap]
    let d := if x.primed then (c - x.expected).toNat else 0
    let k : TapCounters := if status = 0 then s.ctr.taps[tap]
      else { s.ctr.taps[tap] with statusNonzero := (s.ctr.taps[tap]).statusNonzero + 1 }
    ∃ u : State, exec (.packetArrival t tap bytes) s = .next u.afterTap ∧ u.delivery = s.delivery ∧ u.pos = s.pos
      ∧ (u.taps[tap]).port = .idle ∧ (∀ other : Tap, other ≠ tap → u.taps[other] = s.taps[other])
      ∧ (∀ e rest, d ≤ 3 → x.triggers.drop d = e :: rest →
          (u.taps[tap]).triggers = rest ∧ (u.taps[tap]).expected = c + 1 ∧ (u.taps[tap]).primed = true
            ∧ (u.taps[tap]).lines
              = x.lines ++ [{ index := e.index, phase := e.phase, slot := slot, pixels := packetPixels bytes }]
            ∧ u.ctr.taps[tap] = { k with linesGood := k.linesGood + 1
                                         skipped := k.skipped + BitVec.ofNat 32 d
                                         triggersMissed := k.triggersMissed + BitVec.ofNat 32 d })
      ∧ (d ≤ 3 → x.triggers.length ≤ d →
          (u.taps[tap]).triggers = [] ∧ (u.taps[tap]).expected = c + 1 ∧ (u.taps[tap]).primed = true
            ∧ (u.taps[tap]).lines = x.lines
            ∧ u.ctr.taps[tap] = { k with unsolicited := k.unsolicited + 1
                                         skipped := k.skipped + BitVec.ofNat 32 x.triggers.length
                                         triggersMissed := k.triggersMissed + BitVec.ofNat 32 x.triggers.length })
      ∧ (d = 255 → (u.taps[tap]).triggers = x.triggers ∧ (u.taps[tap]).expected = x.expected
          ∧ (u.taps[tap]).lines = x.lines ∧ u.ctr.taps[tap] = { k with stale := k.stale + 1 })
      ∧ (4 ≤ d → d ≤ 254 → (u.taps[tap]).triggers = [] ∧ (u.taps[tap]).expected = c + 1
          ∧ (u.taps[tap]).lines = x.lines
          ∧ u.ctr.taps[tap] = { k with breaks := k.breaks + 1
                                       triggersMissed := k.triggersMissed + BitVec.ofNat 32 x.triggers.length })

/-- A bad packet: the head trigger is missed, the expected counter follows a readable header or advances by one, the
port is between packets and the packet is counted; one received into nowhere is bad whatever it holds, and raises
POOL-OVERRUN (R21, R25), which counts in this step (log 11). -/
def Obligations.BadPacketMissesHead : Prop :=
  ∀ (t : Moment) (tap : Tap) (bytes : List Byte) (s : State), s.tapMode tap = .live →
    let x := s.taps[tap]
    let after : TapState := { x with port := .idle, triggers := x.triggers.drop 1,
                                     expected := (if 4 ≤ bytes.length then bytes.headD 0 else x.expected) + 1 }
    let k : TapCounters := { s.ctr.taps[tap] with
      malformed := (s.ctr.taps[tap]).malformed + 1
      triggersMissed := (s.ctr.taps[tap]).triggersMissed + (if x.triggers = [] then 0 else 1) }
    (∀ slot, x.port = .filling slot → packetGood (s.tapWidth tap) bytes = false →
      ∃ u : State, exec (.packetArrival t tap bytes) s = .next u.afterTap ∧ u.delivery = s.delivery ∧ u.pos = s.pos
        ∧ u.taps = s.taps.set tap after ∧ u.ctr = { s.ctr with taps := s.ctr.taps.set tap k })
    ∧ (x.port = .nowhere →
      ∃ u : State, exec (.packetArrival t tap bytes) s = .next u.afterTap ∧ u.pos = s.pos
        ∧ u.taps = s.taps.set tap after ∧ u.faultSet .poolOverrun = true
        ∧ u.ctr.taps = s.ctr.taps.set tap { k with poolOverrun := k.poolOverrun + 1 })

/-! ### Trunk port -/

/-- NOTE_SEND_START while the start conditions hold: the offered note is composed now and goes on the wire with its
latch and its reserved place (R3, R42, R43, R51, R64); a founding JOIN aligns the group count to 0 at this lead mark, with
line index 0, in TRACKING (R12). What is composed: the fields of the claim, a GATE's frame one or two past the current
frame, the ROLL of the tables as they stand, the digest and founding flag of a JOIN, and for each stream of an OPEN, unless
its slot is occupied, the head grant of the first channel after the rotation mark that is complete and has one
(R65 to R72, R101a). -/
def Obligations.OfferedNoteStarts : Prop :=
  ∀ (t : Moment) (s : State) (c : Claim), s.trunk.view = .idle → s.trunk.queue = [] → s.trunk.wire = none →
    s.trunk.stalled = false → s.offer = some c →
    let note := s.compose c
    ∃ u, exec (.noteSendStart t) s = .next u
      ∧ u.trunk = { s.trunk with
          view := .busy
          wire := some { role := .sender c.kind note (noteCells s.self note),
                         latch := { raw := s.pos.raw, group := s.groupCount },
                         reserved := true, stretch := none, released := false } }
      ∧ u.pos.latch = some { raw := s.pos.raw, group := s.groupCount } ∧ u.pos.raw = s.pos.raw
      ∧ u.mem = s.mem ∧ u.ctr.trunk = s.ctr.trunk
      ∧ (if note.founds then
          u.groupCount = 0 ∧ u.pos.w = 0 ∧ u.pos.lineIndex = 0 ∧ u.pos.mode = .tracking
            ∧ u.pos.nextDue = BitVec.ofNat 32 (cfgD s.area)
        else u = { s.tick t with trunk := u.trunk, pos := { s.pos with latch := u.pos.latch } })
      ∧ (match c with
          | .signal id level origin line => note = .signal id level origin line
          | .drop p => note = .drop p
          | .done k stream delivered gaps => note = .done (BitVec.ofNat 16 k) stream delivered (BitVec.ofNat 17 gaps)
          | .grant channel seq base => note = .grant channel seq base
          | .rosterLeave => note = .rosterLeave
          | .rosterJoin => note = .rosterJoin s.window.digest (!s.mem.heardRoll)
          | .gate isOpen => note = .gate isOpen (BitVec.ofNat 16 (s.currentFrame + if isOpen then 2 else 1))
          | .roll => ∃ r, note = .roll r ∧ r.groupCount = s.groupCount ∧ r.roster = s.mem.roster
              ∧ r.gateOpen = s.frames.gateOpen ∧ r.gateFrame = BitVec.ofNat 16 s.frames.gateFrame
              ∧ r.h = BitVec.ofNat 16 s.frames.h ∧ r.digest = s.window.digest ∧ r.faultSummary = s.pullsFaultLine
              ∧ r.occupied = (List.finRange 8).filterMap (fun i => (s.frames.slots[i]).frame.map (BitVec.ofNat 16))
              ∧ r.channels.length = min 8 (cfgChannels s.area)
              ∧ ∀ x : Fin 8, x.val < cfgChannels s.area →
                  let ch := s.frames.channels[x]
                  r.channels[x.val]? = some { complete := ch.complete, nextSeq := ch.nextSeq,
                                              queueLength := BitVec.ofNat 5 ch.queue.length }
          | .opening k => ∃ entries, note = .opening (BitVec.ofNat 16 k) s.mem.roster entries
              ∧ entries.count = (if cfgStreams s.area = 2 then 2 else 1)
              ∧ ((s.frames.slots[slotOf k]).occupied = true → ∀ j, entries.entry j = none)
              ∧ ((s.frames.slots[slotOf k]).occupied = false → ∀ j : Fin 2, j.val < entries.count →
                  let turnOf (x : Fin 8) : Nat := match s.frames.rotation[j] with
                    | none => x.val
                    | some m => (x.val + 7 - m.val) % 8
                  let able (x : Fin 8) : Prop := x.val < cfgChannels s.area ∧ cfgChannelStream s.area x = j.val
                    ∧ (s.frames.channels[x]).complete = true ∧ (s.frames.channels[x]).queue ≠ []
                  (entries.entry j = none → ∀ x, ¬ able x)
                    ∧ ∀ e, entries.entry j = some e → able e.channel
                        ∧ (s.frames.channels[e.channel]).queue.head? = some { seq := e.seq, base := e.base }
                        ∧ ∀ x, able x → turnOf e.channel ≤ turnOf x))

/-- A lead mark on an idle trunk is taken: the counts are latched, a place is reserved, or the clock is stretched while
the receive queue is full, from the first low half on (R3, R51, R52; half a bit time after the mark: log 39). A station
that still stretches 2 ms later stands aside, raises STRETCH and lapses (R52, R91). -/
def Obligations.LeadMarkReservesOrStretches : Prop :=
  ∀ (t : Moment) (s : State),
    let latch : Latch := { raw := s.pos.raw, group := s.groupCount }
    (s.trunk.view = .idle → s.trunk.wire = none → s.trunk.stalled = false → s.trunk.queue.length < 8 →
      exec (.leadMark t) s = .next { s.tick t with
        pos := { s.pos with latch := some latch }
        trunk := { s.trunk with view := .busy
                                wire := some { role := .receiver, latch := latch, reserved := true, stretch := none,
                                               released := false } } })
    ∧ (s.trunk.view = .idle → s.trunk.wire = none → s.trunk.stalled = false → 8 ≤ s.trunk.queue.length →
        exec (.leadMark t) s = .next { s.tick t with
          pos := { s.pos with latch := some latch }
          trunk := { s.trunk with view := .busy
                                  wire := some { role := .receiver, latch := latch, reserved := false
                                                 stretch := some (max s.now t + cfgBitTime s.area / 2)
                                                 released := false } }
          ctr := { s.ctr with trunk := { s.ctr.trunk with stretches := s.ctr.trunk.stretches + 1 } } })
    ∧ (∀ w start, s.trunk.wire = some w → w.stretch = some start → start + 2000000 ≤ max s.now t →
        ∃ u, exec (.stretchLimit t) s = .next u
          ∧ u.trunk.wire = some { w with role := .aside, reserved := false, stretch := none }
          ∧ u.trunk.queue = s.trunk.queue ∧ u.faultSet .stretch = true
          ∧ u.mem.state = (if mayVeto s.mem.state then .lapsed else s.mem.state))

/-- CONFIRM_SLOT at a receiver: a sound note that is accepted takes the reserved place and ends the veto run, and one
with the own number is a duplicate, which lapses a MEMBER (R46, R49, R50, R51); a sound note that others veto leaves the
run; a faulty note is vetoed where the state lets the station, and the eighth veto in a run raises VETO-RUN and lapses it
(R46, R49, R91); a LAPSED station does not veto. -/
def Obligations.ReceiverConfirms : Prop :=
  ∀ (t : Moment) (cells : List Bool) (others : Bool) (s : State) (w : Wire),
    s.trunk.wire = some w → w.role = .receiver → w.stretch = none → w.released = false → s.trunk.stalled = false →
    (∀ p n, readNote cells = some (p, n) → others = false → w.reserved = true →
      ∃ u, exec (.confirmSlot t cells others) s = .next u
        ∧ u.trunk = { s.trunk with wire := none, vetoRun := 0
                                   queue := s.trunk.queue ++ [{ sender := p, note := n, latch := w.latch }] }
        ∧ u.ctr.trunk = { s.ctr.trunk with
            notesAccepted := s.ctr.trunk.notesAccepted + 1
            duplicateSeen := s.ctr.trunk.duplicateSeen + (if p = s.self then 1 else 0) }
        ∧ (p = s.self → u.faultSet .duplicate = true)
        ∧ u.mem.state = (if p = s.self ∧ s.mem.state = .member then .lapsed else s.mem.state))
    ∧ (∀ p n, readNote cells = some (p, n) → others = true →
        ∃ u, exec (.confirmSlot t cells others) s = .next u ∧ u.trunk = { s.trunk with wire := none }
          ∧ u.mem = s.mem ∧ u.ctr.trunk = s.ctr.trunk)
    ∧ (readNote cells = none → mayVeto s.mem.state = true →
        ∃ u, exec (.confirmSlot t cells others) s = .next u ∧ u.trunk.queue = s.trunk.queue ∧ u.trunk.wire = none
          ∧ u.ctr.trunk = { s.ctr.trunk with vetoesGiven := s.ctr.trunk.vetoesGiven + 1 }
          ∧ (if s.trunk.vetoRun < 7 then u.trunk.vetoRun = s.trunk.vetoRun + 1 ∧ u.mem = s.mem
             else u.trunk.vetoRun = 0 ∧ u.mem.state = .lapsed ∧ u.faultSet .vetoRun = true))
    ∧ (readNote cells = none → s.mem.state = .lapsed →
        ∃ u, exec (.confirmSlot t cells others) s = .next u
          ∧ u.trunk = { s.trunk with wire := none, vetoRun := if others then s.trunk.vetoRun else 0 }
          ∧ u.mem = s.mem ∧ u.ctr.trunk = s.ctr.trunk)

/-- CONFIRM_SLOT at the sender of a note, sound at its own sampling: accepted, it leaves its list and enters the own
receive queue as composed; vetoed, it stays with its attempt count raised; lost in the header to another number, it stays
as it is and the winner's note is received; lost later, a duplicate is proven, which counts once a note (R44, R45, R47,
R50, R51; log 22). A ROSTER note sent while LEAVING or LAPSED, which is claimed again (R89), is not covered. -/
def Obligations.SenderConfirms : Prop :=
  ∀ (t : Moment) (cells : List Bool) (others : Bool) (s : State) (w : Wire) (k : NoteKind) (note : Note)
    (driven : List Bool) (n : Pending) (rest : List Pending) (p : Station) (m : Note),
    s.trunk.wire = some w → w.role = .sender k note driven → w.stretch = none → w.released = false →
    w.reserved = true → s.trunk.stalled = false → readNote cells = some (p, m) → s.pendingOf k = n :: rest →
    n.doom = .none → s.tx.held = none →
    (s.mem.state = .leaving ∨ s.mem.state = .lapsed → k ≠ .roster) →
    (lossAt driven cells = none → others = false →
      ∃ u, exec (.confirmSlot t cells others) s = .next u
        ∧ u.trunk = { s.trunk with wire := none, vetoRun := 0
                                   queue := s.trunk.queue ++ [{ sender := s.self, note := note, latch := w.latch }] }
        ∧ u.pendingOf k = rest ∧ u.mem = s.mem
        ∧ u.ctr.trunk = { s.ctr.trunk with notesSent := s.ctr.trunk.notesSent + 1
                                           notesAccepted := s.ctr.trunk.notesAccepted + 1 })
    ∧ (lossAt driven cells = none → others = true → n.attempts < 3 →
        ∃ u, exec (.confirmSlot t cells others) s = .next u ∧ u.trunk = { s.trunk with wire := none }
          ∧ u.pendingOf k = { n with attempts := n.attempts + 1 } :: rest ∧ u.mem = s.mem
          ∧ u.ctr.trunk = { s.ctr.trunk with attemptsFailed := s.ctr.trunk.attemptsFailed + 1 })
    ∧ (∀ i, lossAt driven cells = some i → i < 6 → others = false → p ≠ s.self →
        ∃ u, exec (.confirmSlot t cells others) s = .next u
          ∧ u.trunk = { s.trunk with wire := none, vetoRun := 0
                                     queue := s.trunk.queue ++ [{ sender := p, note := m, latch := w.latch }] }
          ∧ u.pendingOf k = n :: rest ∧ u.mem = s.mem
          ∧ u.ctr.trunk = { s.ctr.trunk with arbitrationLost := s.ctr.trunk.arbitrationLost + 1
                                             notesAccepted := s.ctr.trunk.notesAccepted + 1 })
    ∧ (∀ i, lossAt driven cells = some i → 6 ≤ i →
        ∃ u, exec (.confirmSlot t cells others) s = .next u ∧ u.faultSet .duplicate = true
          ∧ u.ctr.trunk.duplicateSeen = s.ctr.trunk.duplicateSeen + 1
          ∧ u.ctr.trunk.attemptsFailed = s.ctr.trunk.attemptsFailed
          ∧ u.mem.state = (if s.mem.state = .member then .lapsed else s.mem.state)
          ∧ (s.mem.state ≠ .member → u.pendingOf k = n :: rest))

/-- The fourth failed attempt discards the note and raises NOISE; a GRANT is lost, a DONE lapses the station, a
ROSTER-JOIN and a ROSTER-LEAVE take it to CONFIGURED (to UNCONFIGURED while CONFIG-CORRUPT is set), and a LAPSED station
with auto-rejoin listens again (R48, R92, R107). -/
def Obligations.FourthFailureDiscards : Prop :=
  ∀ (t : Moment) (cells : List Bool) (s : State) (w : Wire) (k : NoteKind) (note : Note) (driven : List Bool)
    (n : Pending) (rest : List Pending),
    s.trunk.wire = some w → w.role = .sender k note driven → w.stretch = none → w.released = false →
    s.trunk.stalled = false → readNote cells ≠ none → lossAt driven cells = none → s.pendingOf k = n :: rest →
    n.doom = .none → s.tx.held = none → n.attempts = 3 → n.claim.kind = k →
    ∃ u, exec (.confirmSlot t cells true) s = .next u ∧ u.faultSet .noise = true
      ∧ u.ctr.queue.notesExhausted = s.ctr.queue.notesExhausted + 1
      ∧ u.ctr.trunk.attemptsFailed = s.ctr.trunk.attemptsFailed + 1
      ∧ (match n.claim with
          | .signal .. | .drop _ | .opening _ | .gate _ | .roll => u.mem = s.mem ∧ u.pendingOf k = rest
          | .grant channel seq base =>
            u.mem = s.mem ∧ u.pendingOf k = rest ∧ u.faultSet .grantLost = true
              ∧ u.frames.lostGrant = some { channel, seq, base }
          | .done .. => (s.mem.state = .member ∨ s.mem.state = .leaving) → u.mem.state = .lapsed
          | .rosterJoin => s.mem.state = .joining → u.mem.state = s.home
          | .rosterLeave =>
            (s.mem.state = .leaving → u.mem.state = s.home)
              ∧ (s.mem.state = .lapsed →
                  u.mem.state = if s.home = .configured ∧ cfgAutoRejoin s.area then .listening else s.home))

/-- An abandoned note is applied by no station: a receiver discards it and frees its place, and the sender's attempt has
failed (R41, R47).
The trunk is found idle after a note or while settling, and a clock fall on an idle trunk is counted (R42); that the
view shows BUSY while a fresh idle is waited for is log 14. -/
def Obligations.NotesAbandonedAndTrunkIdle : Prop :=
  (∀ (t : Moment) (cells : List Bool) (s : State) (w : Wire),
      s.trunk.wire = some w → w.stretch = none → w.released = false → s.trunk.stalled = false →
      (w.role = .receiver →
        ∃ u, exec (.noteAbandoned t cells) s = .next u ∧ u.trunk = { s.trunk with wire := none } ∧ u.mem = s.mem
          ∧ u.ctr.trunk = { s.ctr.trunk with notesAbandoned := s.ctr.trunk.notesAbandoned + 1 })
      ∧ (∀ k note driven n rest, w.role = .sender k note driven → lossAt driven cells = none →
          s.pendingOf k = n :: rest → n.doom = .none → s.tx.held = none → n.attempts < 3 →
          (s.mem.state = .leaving ∨ s.mem.state = .lapsed → k ≠ .roster) →
          ∃ u, exec (.noteAbandoned t cells) s = .next u ∧ u.trunk = { s.trunk with wire := none } ∧ u.mem = s.mem
            ∧ u.pendingOf k = { n with attempts := n.attempts + 1 } :: rest
            ∧ u.ctr.trunk = { s.ctr.trunk with notesAbandoned := s.ctr.trunk.notesAbandoned + 1
                                               attemptsFailed := s.ctr.trunk.attemptsFailed + 1 }))
  ∧ (∀ (t : Moment) (s : State),
      ((s.trunk.view = .settling ∨ s.trunk.view = .busy) → s.trunk.wire = none → s.trunk.stalled = false →
        exec (.trunkIdle t) s = .next { s.tick t with trunk := { s.trunk with view := .idle } })
      ∧ (s.trunk.view = .idle →
          exec (.trunkError t) s = .next { s.tick t with
            trunk := { s.trunk with view := .busy }
            ctr := { s.ctr with trunk := { s.ctr.trunk with trunkErrors := s.ctr.trunk.trunkErrors + 1 } } }))

/-- A stall is counted and raised, the silence and listen timers stand still, the station state stays, and a sender
that waits for the clock has failed its attempt; when the clock rises the timers run on with the time they had left
(R41, R42, R47, R54, R79, R87). What becomes of a view outside BUSY and SETTLING is log 35. -/
def Obligations.StallBeginsAndEnds : Prop :=
  ∀ (t : Moment) (cells : List Bool) (s : State),
    (takesPart s.mem.state = true → s.trunk.stalled = false → s.trunk.wire = none →
      ∃ u, exec (.stall t cells) s = .next u ∧ u.trunk = { s.trunk with stalled := true } ∧ u.faultSet .stall = true
        ∧ u.ctr.trunk = { s.ctr.trunk with stalls := s.ctr.trunk.stalls + 1 } ∧ u.mem.state = s.mem.state
        ∧ (∀ (p : Station) deadline, s.mem.silence[p] = .running deadline →
            u.mem.silence[p] = .held (deadline - max s.now t))
        ∧ (∀ deadline, s.mem.listen = .running deadline → u.mem.listen = .held (deadline - max s.now t))
        ∧ u.mem.roll = s.mem.roll)
    ∧ (∀ w k note driven n rest, takesPart s.mem.state = true → s.trunk.stalled = false → s.trunk.wire = some w →
        w.role = .sender k note driven → w.stretch = none → w.released = false → lossAt driven cells = none →
        s.pendingOf k = n :: rest → n.doom = .none → s.tx.held = none → n.attempts < 3 →
        (s.mem.state = .leaving ∨ s.mem.state = .lapsed → k ≠ .roster) →
        ∃ u, exec (.stall t cells) s = .next u
          ∧ u.trunk = { s.trunk with stalled := true, wire := some { w with role := .receiver } }
          ∧ u.faultSet .stall = true ∧ u.mem.state = s.mem.state
          ∧ u.pendingOf k = { n with attempts := n.attempts + 1 } :: rest)
    ∧ (s.trunk.stalled = true → s.trunk.wire = none →
        ∃ u, exec (.stallEnd t) s = .next u
          ∧ u.trunk = { s.trunk with stalled := false
                                     view := if s.trunk.view = .settling then .settling else .busy }
          ∧ (∀ (p : Station) left, s.mem.silence[p] = .held left → u.mem.silence[p] = .running (max s.now t + left))
          ∧ (∀ left, s.mem.listen = .held left → u.mem.listen = .running (max s.now t + left))
          ∧ u.mem.state = s.mem.state ∧ u.mem.roll = s.mem.roll ∧ u.ctr = s.ctr)

/-! ### Processed notes -/

/-- A SIGNAL from the roster, applied at a MEMBER or LEAVING station: the head note leaves the queue, it is counted, and
an ID below 8 sets its flag in the pending legs of the line's frame, or is counted as missed (R53, R75, R162, R168). Each
output takes it as `takeSignal` says, of which PulseOutputTakesSignal states the PULSE case; a FOLLOW output that subscribes
to the ID takes the change by the cases of R166; after an acquisition reset no output does (R169). -/
def Obligations.SignalApplied : Prop :=
  ∀ (t : Moment) (s : State) (p : Station) (id : BitVec 4) (level : Bool) (o : Origin) (line : Word) (latch : Latch)
    (rest : List Received),
    s.trunk.queue = { sender := p, note := .signal id level o line, latch := latch } :: rest →
    s.mem.state = .member ∨ s.mem.state = .leaving → hasStation s.mem.roster p = true →
    let k := line.toNat / cfgL s.area
    let known := s.entryFor k ≠ none
    ∃ u, exec (.processSignal t) s = .next u ∧ u.trunk.queue = rest ∧ u.mem.state = s.mem.state
      ∧ u.ctr.signals.signalsApplied = s.ctr.signals.signalsApplied + 1
      ∧ u.ctr.signals.flagsSet = s.ctr.signals.flagsSet + (if id.toNat < 8 ∧ s.entryFor k ≠ none then 1 else 0)
      ∧ u.ctr.signals.flagMissed = s.ctr.signals.flagMissed + (if id.toNat < 8 ∧ s.entryFor k = none then 1 else 0)
      ∧ (id.toNat < 8 → known → ∀ (j : Fin 2) (l : Leg), s.legAt (slotOf k) j = some l →
          ∃ l', u.legAt (slotOf k) j = some l' ∧ l'.status = l.status
            ∧ l'.flags = if l.status = .pending then l.flags ||| (1#8 <<< id.toNat) else l.flags)
      ∧ (s.closed = true → u.signals = s.signals ∧ u.ctr.outputs = s.ctr.outputs)
      ∧ (s.closed = false → ∀ j : Fin 4,
          u.signals.outputs[j] = (s.takeSignal j id level line.toNat).signals.outputs[j]
            ∧ u.ctr.outputs[j] = (s.takeSignal j id level line.toNat).ctr.outputs[j])
      ∧ (s.closed = false → ∀ j : Fin 4, cfgOutputMode s.area j = .follow → cfgOutputId s.area j = id →
          let n := s.pos.lineIndex
          let start := line.toNat + cfgOutputOffset s.area j
          let o := s.signals.outputs[j]
          let v := u.signals.outputs[j]
          let c := s.ctr.outputs[j]
          let d := u.ctr.outputs[j]
          (lastLine s.area < start → v = o ∧ d = { c with outOfRange := c.outOfRange + 1 })
          ∧ (start ≤ lastLine s.area → start ≤ n → (∃ last, o.lastApplied = some last ∧ start < last) →
              v = o ∧ d = { c with lateSkipped := c.lateSkipped + 1 })
          ∧ (start ≤ lastLine s.area → start ≤ n → (∀ last, o.lastApplied = some last → last ≤ start) →
              v = { o with follow := level, lastApplied := some start } ∧ d = { c with lateApplied := c.lateApplied + 1 })
          ∧ (start ≤ lastLine s.area → n < start → (∃ e ∈ o.changes, e.1 = start) →
              v = { o with changes := o.changes.map fun e => if e.1 = start then (start, level) else e }
                ∧ d = { c with entriesMerged := c.entriesMerged + 1 })
          ∧ (start ≤ lastLine s.area → n < start → (∀ e ∈ o.changes, e.1 ≠ start) → 8 ≤ o.changes.length →
              v = o ∧ d = { c with scheduleFull := c.scheduleFull + 1 } ∧ u.faultSet .markOverrun = true)
          ∧ (start ≤ lastLine s.area → n < start → (∀ e ∈ o.changes, e.1 ≠ start) → o.changes.length < 8 →
              v = { o with changes := v.changes } ∧ (∀ e, e ∈ v.changes ↔ e = (start, level) ∨ e ∈ o.changes)
                ∧ ((o.changes.map Prod.fst).Pairwise (· < ·) → (v.changes.map Prod.fst).Pairwise (· < ·))
                ∧ d = { c with entriesInserted := c.entriesInserted + 1 }))

/-- A PULSE output that takes a SIGNAL for line x: out of range, late, merged, refused when 8 entries stand, or inserted
(R164). A merged range runs from the lowest start to the highest end of the ranges it replaces. -/
def Obligations.PulseOutputTakesSignal : Prop :=
  ∀ (s : State) (j : Fin 4) (level : Bool) (x : Nat), cfgOutputMode s.area j = .pulse →
    let o := s.signals.outputs[j]
    let first := x + cfgOutputOffset s.area j
    let last := first + cfgOutputWidth s.area j
    let hit := o.ranges.filter fun r => decide (r.1 < last) && decide (first < r.2)
    let u := s.takeSignal j (cfgOutputId s.area j) level x
    let k := s.ctr.outputs[j]
    (lastLine s.area < first →
      u = { s with ctr := { s.ctr with outputs := s.ctr.outputs.set j { k with outOfRange := k.outOfRange + 1 } } })
    ∧ (first ≤ lastLine s.area → last ≤ s.pos.lineIndex →
        u = { s with ctr := { s.ctr with outputs := s.ctr.outputs.set j { k with lateSkipped := k.lateSkipped + 1 } } })
    ∧ (first ≤ lastLine s.area → s.pos.lineIndex < last → hit ≠ [] →
        (u.ctr.outputs[j]).entriesMerged = k.entriesMerged + 1
          ∧ ∃ low high, (low, high) ∈ (u.signals.outputs[j]).ranges ∧ low ≤ first ∧ last ≤ high
              ∧ (low = first ∨ ∃ r ∈ hit, r.1 = low) ∧ (high = last ∨ ∃ r ∈ hit, r.2 = high)
              ∧ (∀ r ∈ hit, low ≤ r.1 ∧ r.2 ≤ high)
              ∧ (∀ r, r ∈ (u.signals.outputs[j]).ranges ↔ r = (low, high) ∨ (r ∈ o.ranges ∧ r ∉ hit))
              ∧ (u.ctr.outputs[j]).partlyLate = k.partlyLate + (if low ≤ s.pos.lineIndex then 1 else 0))
    ∧ (first ≤ lastLine s.area → s.pos.lineIndex < last → hit = [] → 8 ≤ o.ranges.length →
        u.signals = s.signals ∧ (u.ctr.outputs[j]).scheduleFull = k.scheduleFull + 1 ∧ u.faultSet .markOverrun = true)
    ∧ (first ≤ lastLine s.area → s.pos.lineIndex < last → hit = [] → o.ranges.length < 8 →
        (∀ r, r ∈ (u.signals.outputs[j]).ranges ↔ r = (first, last) ∨ r ∈ o.ranges)
          ∧ (u.ctr.outputs[j]).entriesInserted = k.entriesInserted + 1
          ∧ (u.ctr.outputs[j]).partlyLate = k.partlyLate + (if first ≤ s.pos.lineIndex then 1 else 0))

/-- A DROP from the roster that names another station of the roster removes it at a MEMBER or LEAVING station, with its
record and timer; one that names the station itself raises DROPPED and takes it to CONFIGURED (to UNCONFIGURED while
CONFIG-CORRUPT is set), also where a LEAVING station's own roster does not hold its number, which is the model's reading
of two cases of R88 that both match (log 48, DEDUCED); at a LAPSED station it ends the lapse (R75, R88, R92).
A ROSTER-LEAVE: another station of the roster is removed at a MEMBER or LEAVING station; the own one takes a LEAVING
station to CONFIGURED (to UNCONFIGURED while CONFIG-CORRUPT is set) and ends a lapse (R90, R92).
At a LISTENING or JOINING station a DROP or a ROSTER-LEAVE, from any sender, removes the station it names from the roster,
with its record, and the station stays in its state; that the own number's removal is applied to no leg is log 21 (R81).
A removal is applied to the legs, with the DROP's sender or the lowest station left as poster (R146, R147, R148), and an
entry into CONFIGURED empties every unit and withdraws every pending note that is not on the wire (R36, R63, R94, R120). -/
def Obligations.DropsAndLeavesRemove : Prop :=
  (∀ (t : Moment) (s : State) (q p : Station) (latch : Latch) (rest : List Received),
      s.trunk.queue = { sender := q, note := .drop p, latch := latch } :: rest →
      ((s.mem.state = .member ∨ s.mem.state = .leaving) → hasStation s.mem.roster q = true → p ≠ s.self →
        hasStation s.mem.roster p = true →
        ∃ u, exec (.processDrop t) s = .next u ∧ u.trunk.queue = rest ∧ u.mem.state = s.mem.state
          ∧ u.mem.roster = dropStation s.mem.roster p ∧ u.mem.peers[p] = none ∧ u.mem.silence[p] = .stopped
          ∧ u.ctr.mem.removals = s.ctr.mem.removals + 1 ∧ s.removalReached u p (some q))
      ∧ ((s.mem.state = .member ∨ s.mem.state = .leaving) → hasStation s.mem.roster q = true → p = s.self →
          ∃ u, exec (.processDrop t) s = .next u ∧ u.mem.state = s.home ∧ u.mem.roster = 0 ∧ u.faultSet .dropped = true
            ∧ u.trunk.queue = [] ∧ u.emptied ∧ (∀ k, s.onWire k = false → u.pendingOf k = []))
      ∧ ((s.mem.state = .listening ∨ s.mem.state = .joining) → hasStation s.mem.roster p = true →
          ∃ u, exec (.processDrop t) s = .next u ∧ u.trunk.queue = rest ∧ s.listenerRemoved u p (some q))
      ∧ (s.mem.state = .lapsed → p = s.self →
          ∃ u, exec (.processDrop t) s = .next u ∧ u.faultSet .dropped = true ∧ u.mem.roster = 0
            ∧ u.emptied ∧ (∀ k, s.onWire k = false → u.pendingOf k = [])
            ∧ u.mem.state = if s.home = .configured ∧ cfgAutoRejoin s.area then .listening else s.home))
  ∧ (∀ (t : Moment) (s : State) (q : Station) (latch : Latch) (rest : List Received),
      s.trunk.queue = { sender := q, note := .rosterLeave, latch := latch } :: rest →
      ((s.mem.state = .member ∨ s.mem.state = .leaving) → q ≠ s.self → hasStation s.mem.roster q = true →
        ∃ u, exec (.processRosterLeave t) s = .next u ∧ u.trunk.queue = rest ∧ u.mem.state = s.mem.state
          ∧ u.mem.roster = dropStation s.mem.roster q ∧ u.mem.peers[q] = none ∧ u.mem.silence[q] = .stopped
          ∧ u.ctr.mem.removals = s.ctr.mem.removals + 1
          ∧ s.removalReached u q (lowestStation (dropStation s.mem.roster q)))
      ∧ ((s.mem.state = .listening ∨ s.mem.state = .joining) → hasStation s.mem.roster q = true →
          ∃ u, exec (.processRosterLeave t) s = .next u ∧ u.trunk.queue = rest
            ∧ s.listenerRemoved u q (lowestStation (dropStation s.mem.roster q)))
      ∧ (s.mem.state = .leaving → q = s.self →
          ∃ u, exec (.processRosterLeave t) s = .next u ∧ u.mem.state = s.home ∧ u.mem.roster = 0 ∧ u.trunk.queue = []
            ∧ u.area = s.area ∧ u.window.faults = s.window.faults
            ∧ u.emptied ∧ (∀ k, s.onWire k = false → u.pendingOf k = []))
      ∧ (s.mem.state = .lapsed → q = s.self →
          ∃ u, exec (.processRosterLeave t) s = .next u ∧ u.mem.roster = 0
            ∧ u.emptied ∧ (∀ k, s.onWire k = false → u.pendingOf k = [])
            ∧ u.mem.state = if s.home = .configured ∧ cfgAutoRejoin s.area then .listening else s.home))

/-- An OPEN from the roster at a MEMBER or LEAVING station: ignored when its frame is not above H, not allowed, or of
another stream count; else H rises to its frame; a lost one changes no more; one that meets a known entry or another
grant than the station's own is DESYNC, which lapses a MEMBER; any other enters the frame and consumes the grants it
names (R99, R102, R103, R104, R105, R117). That FRAMES-LOST rises when the grant check fails is log 22, and the rotation
mark of a channel that the station does not have is log 42. -/
def Obligations.OpenEntersFrame : Prop :=
  ∀ (t : Moment) (s : State) (q : Station) (f : BitVec 16) (mask : StationSet) (entries : StreamEntries)
    (latch : Latch) (rest : List Received),
    s.trunk.queue = { sender := q, note := .opening f mask entries, latch := latch } :: rest →
    s.mem.state = .member ∨ s.mem.state = .leaving → hasStation s.mem.roster q = true →
    let k := extendFrame s.area s.currentFrame f
    let ignored := k ≤ s.frames.h ∨ s.allowed k = false ∨ entries.count ≠ cfgStreams s.area
    let steered : List Steer := [entries.entry 0, entries.entry 1].filterMap id
    (ignored → ∃ u, exec (.processOpen t) s = .next u ∧ u.trunk.queue = rest ∧ u.mem.state = s.mem.state
      ∧ u.frames.h = s.frames.h ∧ u.frames.channels = s.frames.channels
      ∧ u.ctr.frames = { s.ctr.frames with opensIgnored := s.ctr.frames.opensIgnored + 1 })
    ∧ (¬ ignored → steered = [] → ∃ u, exec (.processOpen t) s = .next u ∧ u.mem.state = s.mem.state
        ∧ u.frames.h = k ∧ u.frames.channels = s.frames.channels
        ∧ u.ctr.frames = { s.ctr.frames with
            framesLost := s.ctr.frames.framesLost + 1
            framesSkipped := s.ctr.frames.framesSkipped + BitVec.ofNat 32 (k - s.frames.h - 1) })
    ∧ (¬ ignored → steered ≠ [] →
        ((s.frames.slots[slotOf k]).entry ≠ none ∨ ∃ e ∈ steered, s.grantMatches e = false) →
        ∃ u, exec (.processOpen t) s = .next u ∧ u.frames.h = k ∧ u.frames.channels = s.frames.channels
          ∧ u.faultSet .desync = true ∧ u.ctr.frames.desyncSeen = s.ctr.frames.desyncSeen + 1
          ∧ u.ctr.frames.framesLost = s.ctr.frames.framesLost + 1
          ∧ u.mem.state = (if s.mem.state = .member then .lapsed else .leaving))
    ∧ (¬ ignored → steered ≠ [] → (s.frames.slots[slotOf k]).entry = none →
        (∀ e ∈ steered, s.grantMatches e = true) →
        ∃ (u : State) (e : Entry), exec (.processOpen t) s = .next u ∧ u.mem.state = s.mem.state ∧ u.frames.h = k
          ∧ u.frames.slots[slotOf k] = .known e ∧ e.frame = k ∧ e.resumed = (s.frames.resume == some k)
          ∧ u.ctr.frames.framesOpened = s.ctr.frames.framesOpened + 1
          ∧ ∀ j : Fin 2, (e.legs[j]).mask = mask ∧ (e.legs[j]).steer = entries.entry j
              ∧ (e.legs[j]).status = (if (entries.entry j).isSome then .pending else .unsteered)
              ∧ (e.legs[j]).delivered = 0 ∧ (e.legs[j]).void = 0 ∧ (e.legs[j]).removed = 0
              ∧ (e.legs[j]).gapTotal = 0 ∧ (e.legs[j]).flags = 0
              ∧ ((e.legs[j]).own.isSome = ((entries.entry j).isSome && hasStation mask s.self))
              ∧ ∀ x, entries.entry j = some x →
                  u.frames.rotation[j] = some x.channel
                    ∧ (x.channel.val < cfgChannels s.area →
                        (∀ (i : Fin 2) (y : Steer), i ≠ j → entries.entry i = some y → y.channel ≠ x.channel) →
                        let ch := s.frames.channels[x.channel]
                        let v := u.frames.channels[x.channel]
                        let passed := ∃ b, ch.blind = some b ∧ seqAtOrBelow b x.seq = true
                        v.lastSeen = some (match ch.lastSeen with
                          | some l => if seqAbove x.seq l then x.seq else l
                          | none => x.seq)
                        ∧ (ch.complete = true → v = { ch with queue := ch.queue.drop 1, lastSeen := v.lastSeen })
                        ∧ (ch.complete = false →
                            v.queue = ch.queue.filter (fun g => !seqAtOrBelow g.seq x.seq)
                            ∧ v.nextSeq = (if seqAbove x.seq ch.nextSeq = true ∨ x.seq = ch.nextSeq then x.seq + 1
                                           else ch.nextSeq)
                            ∧ (passed → v.complete = true ∧ v.blind = none)
                            ∧ (¬ passed → v.complete = false ∧ v.blind = ch.blind)))
          ∧ ∀ c : Fin 8, (∀ (j : Fin 2) (x : Steer), entries.entry j = some x → x.channel ≠ c) →
              u.frames.channels[c] = s.frames.channels[c])

/-- A DONE from the roster at a MEMBER or LEAVING station: it joins the sender to its set and adds its gap rows, and the
leg that it covers is completed and retired; a DONE for a leg that does not await the sender is counted as ignored
(R144, R145, R147, R149). A clamped frame number names no entry (log 32). -/
def Obligations.DoneReportsPart : Prop :=
  ∀ (t : Moment) (s : State) (q : Station) (f : BitVec 16) (j : Fin 2) (delivered : Bool) (gaps : BitVec 17)
    (latch : Latch) (rest : List Received),
    s.trunk.queue = { sender := q, note := .done f j delivered gaps, latch := latch } :: rest →
    s.mem.state = .member ∨ s.mem.state = .leaving → hasStation s.mem.roster q = true →
    let k := extendFrame s.area s.currentFrame f
    let awaited := BitVec.ofNat 16 k = f ∧ ∃ e, s.entryFor k = some e ∧ (e.legs[j]).status = .pending
      ∧ hasStation (e.legs[j]).mask q = true
      ∧ hasStation ((e.legs[j]).delivered ||| (e.legs[j]).void ||| (e.legs[j]).removed) q = false
    (¬ awaited → ∃ u, exec (.processDone t) s = .next u ∧ u.trunk.queue = rest
      ∧ u.ctr.records = { s.ctr.records with donesIgnored := s.ctr.records.donesIgnored + 1 })
    ∧ (∀ e, s.entryFor k = some e → awaited →
        let l := e.legs[j]
        let d := if delivered then addStation l.delivered q else l.delivered
        let v := if delivered then l.void else addStation l.void q
        ∃ u, exec (.processDone t) s = .next u ∧ u.trunk.queue = rest
          ∧ u.ctr.records.donesApplied = s.ctr.records.donesApplied + 1
          ∧ (l.mask &&& ~~~(d ||| v ||| l.removed) ≠ 0 →
              ∃ l', u.legAt (slotOf k) j = some l' ∧ l'.status = .pending ∧ l'.delivered = d ∧ l'.void = v
                ∧ l'.removed = l.removed ∧ l'.gapTotal = l.gapTotal + gaps.toNat ∧ l'.mask = l.mask
                ∧ u.ctr.records.legsCompleted = s.ctr.records.legsCompleted)
          ∧ (l.mask &&& ~~~(d ||| v ||| l.removed) = 0 →
              u.ctr.records.legsCompleted = s.ctr.records.legsCompleted + 1
                ∧ u.ctr.records.legsRetired = s.ctr.records.legsRetired + 1
                ∧ u.ctr.records.recordsBuilt = s.ctr.records.recordsBuilt + (if q = s.self then 1 else 0)
                ∧ (∀ l', u.legAt (slotOf k) j = some l' → l'.status = .retired)))

/-- A GATE from the roster at a MEMBER or LEAVING station moves the gate record as the table of R114 says; a note that
leaves the record as it was is counted (R114, R116). -/
def Obligations.GateMovesRecord : Prop :=
  ∀ (t : Moment) (s : State) (q : Station) (isOpen : Bool) (f : BitVec 16) (latch : Latch) (rest : List Received),
    s.trunk.queue = { sender := q, note := .gate isOpen f, latch := latch } :: rest →
    s.mem.state = .member ∨ s.mem.state = .leaving → hasStation s.mem.roster q = true →
    let g := extendFrame s.area s.currentFrame f
    let moves := isOpen ≠ s.frames.gateOpen ∨ g < s.frames.gateFrame
    ∃ u, exec (.processGate t) s = .next u ∧ u.trunk.queue = rest ∧ u.mem.state = s.mem.state
      ∧ u.frames.h = s.frames.h ∧ u.frames.channels = s.frames.channels
      ∧ (moves → u.frames.gateOpen = isOpen ∧ u.frames.gateFrame = g ∧ u.ctr.frames = s.ctr.frames)
      ∧ (¬ moves → u.frames.gateOpen = s.frames.gateOpen ∧ u.frames.gateFrame = s.frames.gateFrame
          ∧ u.ctr.frames = { s.ctr.frames with gatesUnchanged := s.ctr.frames.gatesUnchanged + 1 })
      ∧ u.frames.resume = (if isOpen ∧ s.frames.gateOpen = false then some g else s.frames.resume)

/-- A GRANT from the roster at a MEMBER or LEAVING station: ignored for a channel that the station does not have; at a
complete station it joins the tail in order and within 16, and is DESYNC otherwise; at an incomplete one what is not
below it goes, it joins the tail, and the queue stays within 16 (R108, R117). -/
def Obligations.GrantJoinsQueue : Prop :=
  ∀ (t : Moment) (s : State) (q : Station) (c : Fin 8) (seq : Byte) (base : Page) (latch : Latch)
    (rest : List Received),
    s.trunk.queue = { sender := q, note := .grant c seq base, latch := latch } :: rest →
    s.mem.state = .member ∨ s.mem.state = .leaving → hasStation s.mem.roster q = true →
    let ch := s.frames.channels[c]
    let fits := ch.queue.length < 16 ∧ ∀ g, ch.queue.getLast? = some g → seqBelow g.seq seq = true
    (cfgChannels s.area ≤ c.val → ∃ u, exec (.processGrant t) s = .next u ∧ u.trunk.queue = rest
      ∧ u.frames.channels = s.frames.channels
      ∧ u.ctr.frames = { s.ctr.frames with grantsIgnored := s.ctr.frames.grantsIgnored + 1 })
    ∧ (c.val < cfgChannels s.area → ch.complete = true → fits → ∃ u, exec (.processGrant t) s = .next u
        ∧ u.trunk.queue = rest ∧ u.mem.state = s.mem.state ∧ u.ctr.frames = s.ctr.frames
        ∧ u.frames.channels = s.frames.channels.set c { ch with
            queue := ch.queue ++ [{ seq := seq, base := base }]
            lastSeen := some (match ch.lastSeen with
              | some l => if seqAbove seq l then seq else l
              | none => seq)
            nextSeq := if seqAbove ch.nextSeq (seq + 1) then ch.nextSeq else seq + 1 })
    ∧ (c.val < cfgChannels s.area → ch.complete = true → ¬ fits → ∃ u, exec (.processGrant t) s = .next u
        ∧ u.frames.channels = s.frames.channels ∧ u.faultSet .desync = true
        ∧ u.mem.state = (if s.mem.state = .member then .lapsed else .leaving))
    ∧ (c.val < cfgChannels s.area → ch.complete = false → ∃ u, exec (.processGrant t) s = .next u
        ∧ u.mem.state = s.mem.state ∧ (u.frames.channels[c]).complete = false
        ∧ (u.frames.channels[c]).queue.getLast? = some { seq := seq, base := base }
        ∧ (∀ g ∈ (u.frames.channels[c]).queue.dropLast, g ∈ ch.queue ∧ seqBelow g.seq seq = true)
        ∧ (ch.queue.length ≤ 16 → (u.frames.channels[c]).queue.length ≤ 16)
        ∧ u.ctr.frames.grantsDiscarded
            = s.ctr.frames.grantsDiscarded + BitVec.ofNat 32 (ch.queue.length + 1 - (u.frames.channels[c]).queue.length))

/-- A ROLL at a LISTENING or JOINING station: with another digest it raises CONFIG-MISMATCH and takes the station to
CONFIGURED (to UNCONFIGURED while CONFIG-CORRUPT is set); with the own digest it aligns the station to the sender's count
and gives it the roster, H and the gate record (R12, R80, R118). -/
def Obligations.RollAlignsListener : Prop :=
  ∀ (t : Moment) (s : State) (p : Station) (r : Roll) (latch : Latch) (rest : List Received),
    s.trunk.queue = { sender := p, note := .roll r, latch := latch } :: rest →
    s.mem.state = .listening ∨ s.mem.state = .joining →
    let frame (f : BitVec 16) := extendFrame s.area (r.groupCount.toNat / cfgD s.area / cfgL s.area) f
    let g := s.pos.raw + (r.groupCount - latch.raw)
    (r.digest ≠ s.window.digest → ∃ u, exec (.processRoll t) s = .next u ∧ u.mem.state = s.home
      ∧ u.mem.roster = 0 ∧ u.faultSet .configMismatch = true)
    ∧ (r.digest = s.window.digest → ∃ u, exec (.processRoll t) s = .next u ∧ u.trunk.queue = rest
        ∧ u.mem.state = s.mem.state ∧ u.pos.offset = r.groupCount - latch.raw ∧ u.groupCount = g ∧ u.pos.w = g
        ∧ u.pos.lineIndex = min (g.toNat / cfgD s.area) (lastLine s.area) ∧ u.pos.mode = .tracking
        ∧ u.mem.roster = r.roster ∧ u.mem.heardRoll = true
        ∧ (∀ x : Fin 8, hasStation r.roster x = false → u.mem.peers[x] = none)
        ∧ u.frames.h = frame r.h ∧ u.frames.gateOpen = r.gateOpen ∧ u.frames.gateFrame = frame r.gateFrame
        ∧ u.frames.resume = (if r.gateOpen then some (frame r.gateFrame) else none)
        ∧ (∀ i : Fin 8, (∀ f ∈ r.occupied, slotOf (frame f) ≠ i) → u.frames.slots[i] = .free))

/-- A ROLL from a peer at a MEMBER: the peer's record takes what it says, a differing digest raises CONFIG-MISMATCH, the
comparison of the counts is recorded, and an outvoted station raises SKEW and lapses (R85, R86). -/
def Obligations.RollComparedAtMember : Prop :=
  ∀ (t : Moment) (s : State) (p : Station) (r : Roll) (latch : Latch) (rest : List Received),
    s.trunk.queue = { sender := p, note := .roll r, latch := latch } :: rest → s.mem.state = .member →
    hasStation s.mem.roster p = true → p ≠ s.self →
    let agree := decide ((r.groupCount - latch.group).toInt.natAbs ≤ cfgSkew s.area)
    ∃ (u : State), exec (.processRoll t) s = .next u ∧ u.trunk.queue = rest ∧ u.mem.roster = s.mem.roster
      ∧ u.mem.peers[p] = some { lastHeard := u.now
                                roll := some { channels := r.channels, faultSummary := r.faultSummary, digest := r.digest }
                                skew := some agree }
      ∧ (∀ x : Fin 8, x ≠ p → u.mem.peers[x] = s.mem.peers[x])
      ∧ (r.digest ≠ s.window.digest → u.faultSet .configMismatch = true)
      ∧ u.ctr.mem.skewDisagree = s.ctr.mem.skewDisagree + (if agree then 0 else 1)
      ∧ (let n := u.skewCount false
         let a := u.skewCount true
         let out := 1 + a < n ∨ (n = 1 + a ∧ u.lowerDisagrees = true)
         (out → u.mem.state = .lapsed ∧ u.faultSet .skew = true) ∧ (¬ out → u.mem.state = .member))

/-- Another station's ordinary ROSTER-JOIN at a MEMBER, of the own digest and not in the roster: it is added, with a new
record and a silence timer of 3R; of another digest it changes no roster (R82, R83, R87).
The own ROSTER-JOIN at a JOINING station makes it a MEMBER: J is its H, the roll timer stands at R, the position
unit is ISSUING with no last issue time, and the handled marks stand at its line index; a founder has the frame unit of
a new group (R12, R83, R110, R123). That a founder's J is 0, not the H held before founding, is the model's choice: R83
and R110 give no order between the two (log 49, DEDUCED). -/
def Obligations.JoinsAdmitted : Prop :=
  (∀ (t : Moment) (s : State) (j : Station) (digest : BitVec 16) (founding : Bool) (latch : Latch) (rest : List Received),
      s.trunk.queue = { sender := j, note := .rosterJoin digest founding, latch := latch } :: rest → s.mem.state = .member →
      j ≠ s.self →
      (digest = s.window.digest → founding = false → hasStation s.mem.roster j = false →
        ∃ u, exec (.processRosterJoin t) s = .next u ∧ u.trunk.queue = rest ∧ u.mem.state = .member
          ∧ u.mem.roster = addStation s.mem.roster j
          ∧ u.mem.peers[j] = some { lastHeard := u.now, roll := none, skew := none }
          ∧ u.mem.silence[j]
            = (if s.trunk.stalled then .held (3 * cfgR s.area) else .running (u.now + 3 * cfgR s.area))
          ∧ u.ctr.mem.joinsSeen = s.ctr.mem.joinsSeen + 1)
      ∧ ((digest ≠ s.window.digest ∨ (founding = true ∧ s.mem.roster ≠ 0)) →
          ∃ u, exec (.processRosterJoin t) s = .next u ∧ u.trunk.queue = rest ∧ u.mem.state = .member
            ∧ u.mem.roster = s.mem.roster ∧ u.ctr.mem = s.ctr.mem))
  ∧ (∀ (t : Moment) (s : State) (digest : BitVec 16) (founding : Bool) (latch : Latch) (rest : List Received),
      s.trunk.queue = { sender := s.self, note := .rosterJoin digest founding, latch := latch } :: rest →
      s.mem.state = .joining →
      (founding = false → ∀ d, s.mem.latestDigest = some d → d = digest) → (founding = true → s.mem.roster = 0) →
      ∃ u, exec (.processRosterJoin t) s = .next u ∧ u.trunk.queue = rest ∧ u.mem.state = .member
        ∧ u.mem.roster = addStation s.mem.roster s.self ∧ u.mem.number = s.mem.number
        ∧ u.mem.joinFrame = (if founding then 0 else s.frames.h) ∧ u.mem.roll = .running (u.now + cfgR s.area)
        ∧ u.pos.mode = .issuing ∧ u.pos.lastIssue = none ∧ u.pos.offset = s.pos.offset
        ∧ (∀ tap : Tap, u.delivery.handled[tap] = u.pos.lineIndex)
        ∧ (s.pos.mode ≠ .stopped → u.pos.w = s.pos.w ∧ u.pos.lineIndex = s.pos.lineIndex)
        ∧ (founding = true → u.frames.founded = true ∧ u.frames.h = 0 ∧ u.frames.gateOpen = false
            ∧ u.frames.gateFrame = 0 ∧ u.frames.resume = none ∧ (∀ i : Fin 8, u.frames.slots[i] = .free)
            ∧ ∀ c : Fin 8, c.val < cfgChannels s.area →
                (u.frames.channels[c]).complete = true ∧ (u.frames.channels[c]).queue = []
                  ∧ (u.frames.channels[c]).nextSeq = 0))

/-! ### Delivery, records and the host link -/

/-- PORT_ISSUE while the link is up issues the oldest record-class request: a notice as a message write, a record as a
memory write of its 64 bytes with its flush presented, a part's flush with the next flush number, a record's message
write with the record leaving the queue (R125, R136, R152, R181); the request issued last is shown (log 37). While the
link is down the port issues nothing (R139). That the first flush is number 1 is the model's choice (log 25).
PORT_ISSUE with no record-class request waiting issues the next burst of the current turn: of its line, which enters the
repeat store when it is written, or of its first fill row, which is a gap row of its part when it is filled; the last row
of a finish turn leaves the tap done (R124, R125, R130, R131, R132, R133, R135). With no turn it starts one at the offered
tap, a finish turn first: the head leaves the line queue, the fill rows are listed, and the first burst is issued; under
SKIP the rows take no port time, and a finish turn that needs no write is carried out at once (R126, R130, R134, R135).
Which rows are listed, what a filled row writes, how a head is decided, and that a run of discards empties the queue
without the port (R127, R128, R129, R130, R134). -/
def Obligations.PortIssues : Prop :=
  (∀ (t : Moment) (s : State),
      (s.delivery.linkUp = false → exec (.portIssue t) s = .next (s.tick t))
      ∧ (∀ address data more, s.delivery.linkUp = true → s.delivery.port = .notice address data :: more →
          ∃ u, exec (.portIssue t) s = .next u ∧ u.lastRequest = some (.messageWrite address data)
            ∧ u.ctr.window = { s.ctr.window with noticesIssued := s.ctr.window.noticesIssued + 1 }
            ∧ u.records = s.records ∧ u.delivery.flushCount = s.delivery.flushCount)
      ∧ (∀ more r others, s.delivery.linkUp = true → s.delivery.port = .recordWrite :: more →
          s.records.queue = r :: others →
          ∃ u, exec (.portIssue t) s = .next u
            ∧ u.lastRequest = some (.memoryWrite (recordAddress s.area r) (recordBytes r))
            ∧ u.records = { queue := s.records.queue, step := .flushWaiting } ∧ .recordFlush ∈ u.delivery.port)
      ∧ (∀ more, s.delivery.linkUp = true → s.delivery.port = .recordFlush :: more →
          ∃ u, exec (.portIssue t) s = .next u ∧ u.lastRequest = some (.flush (s.delivery.flushCount + 1))
            ∧ u.delivery.flushCount = s.delivery.flushCount + 1
            ∧ u.ctr.delivery.flushesIssued = s.ctr.delivery.flushesIssued + 1
            ∧ u.records = { queue := s.records.queue
                            step := .flushIssued (s.delivery.flushCount + 1) (max s.now t) })
      ∧ (∀ more r others, s.delivery.linkUp = true → s.delivery.port = .recordMessage :: more →
          s.records.queue = r :: others →
          ∃ u, exec (.portIssue t) s = .next u
            ∧ u.lastRequest
              = some (.messageWrite (cfgMessageAddress s.area r.steer.channel) (cfgMessageData s.area r.steer.channel))
            ∧ u.records = { queue := others, step := if others = [] then .idle else .write }
            ∧ u.ctr.records.recordsWritten = s.ctr.records.recordsWritten + 1)
      ∧ (∀ more (i : Fin 8) (j : Fin 2) p, s.delivery.linkUp = true → s.delivery.port = .partFlush i j :: more →
          s.partAt i j = some p → p.state = .flushing → p.flush = .waiting →
          ∃ u p', exec (.portIssue t) s = .next u ∧ u.lastRequest = some (.flush (s.delivery.flushCount + 1))
            ∧ u.partAt i j = some p' ∧ p'.state = .flushing
            ∧ p'.flush = .issued (s.delivery.flushCount + 1) (max s.now t)))
  ∧ (∀ (t : Moment) (s : State) (tu : Turn) (l : Line) (e : Entry) (j : Fin 2) (x : Steer),
      s.delivery.linkUp = true → s.delivery.port = [] → s.headsKept →
      s.delivery.turn = some tu → tu.rows = [] → tu.line = some l → s.entryFor (frameOf s.area l.index) = some e →
      streamOf s.area l.index = some j → (e.legs[j]).steer = some x →
      let address := rowAddress s.area s.self tu.tap j x.base l.index + tu.sent
      let n := min (cfgMaxPayload s.area) (min (4096 - address % 4096) (s.tapWidth tu.tap - tu.sent))
      ∃ u, exec (.portIssue t) s = .next u
        ∧ u.lastRequest = some (.memoryWrite address ((l.pixels.drop tu.sent).take n))
        ∧ u.ctr.delivery.burstsIssued = s.ctr.delivery.burstsIssued + 1
        ∧ u.ctr.delivery.bytesWritten = s.ctr.delivery.bytesWritten + BitVec.ofNat 32 n
        ∧ (tu.sent + n < s.tapWidth tu.tap → u.delivery.turn = some { tu with sent := tu.sent + n }
            ∧ u.delivery.handled = s.delivery.handled ∧ u.ctr.delivery.linesWritten = s.ctr.delivery.linesWritten)
        ∧ (s.tapWidth tu.tap ≤ tu.sent + n → tu.finish = none → u.delivery.turn = none ∧ u.delivery.lastTap = tu.tap
            ∧ u.delivery.handled[tu.tap] = l.index
            ∧ u.ctr.delivery.linesWritten = s.ctr.delivery.linesWritten + 1
            ∧ ∀ phase : Fin 4, l.phase = phase.val → (u.delivery.store[tu.tap])[phase]
                = some { frame := frameOf s.area l.index, pixels := l.pixels.take (s.tapWidth tu.tap) }))
  ∧ (∀ (t : Moment) (s : State) (tu : Turn) (r : Nat) (rest : List Nat) (e : Entry) (j : Fin 2) (x : Steer) (p : OwnPart),
      s.delivery.linkUp = true → s.delivery.port = [] → s.headsKept → s.delivery.turn = some tu → tu.rows = r :: rest →
      s.entryFor (frameOf s.area r) = some e → streamOf s.area r = some j → (e.legs[j]).steer = some x →
      (e.legs[j]).own = some p →
      let address := rowAddress s.area s.self tu.tap j x.base r + tu.sent
      let n := min (cfgMaxPayload s.area) (min (4096 - address % 4096) (s.tapWidth tu.tap - tu.sent))
      ∃ u, exec (.portIssue t) s = .next u
        ∧ u.lastRequest = some (.memoryWrite address (((s.fillPixels tu.tap r).drop tu.sent).take n))
        ∧ u.ctr.delivery.burstsIssued = s.ctr.delivery.burstsIssued + 1
        ∧ u.ctr.delivery.bytesWritten = s.ctr.delivery.bytesWritten + BitVec.ofNat 32 n
        ∧ (tu.sent + n < s.tapWidth tu.tap → u.delivery.turn = some { tu with sent := tu.sent + n }
            ∧ u.delivery.handled = s.delivery.handled ∧ u.ctr.delivery.rowsFilled = s.ctr.delivery.rowsFilled)
        ∧ (s.tapWidth tu.tap ≤ tu.sent + n → u.ctr.delivery.rowsFilled = s.ctr.delivery.rowsFilled + 1
            ∧ (∃ p', u.partAt (slotOf (frameOf s.area r)) j = some p' ∧ p'.gapRows = p.gapRows + 1
                ∧ (p'.taps[tu.tap]).filled = (p.taps[tu.tap]).filled + 1)
            ∧ (rest ≠ [] ∨ tu.line ≠ none → u.delivery.turn = some { tu with rows := rest, sent := 0 }
                ∧ u.delivery.handled[tu.tap] = r)
            ∧ (∀ k, rest = [] → tu.line = none → tu.finish = some k → u.delivery.turn = none
                ∧ u.delivery.lastTap = tu.tap ∧ u.delivery.handled[tu.tap] = (k + 1) * cfgL s.area - 1
                ∧ s.tapFinished u tu.tap k)))
  ∧ (∀ (t : Moment) (s : State) (tap : Tap), s.delivery.linkUp = true → s.delivery.port = [] → s.headsKept →
      s.delivery.turn = none → s.closed = false → s.offered tap →
      let first := s.delivery.handled[tap] + 1
      let width := s.tapWidth tap
      (∀ (l : Line) (more : List Line) (e : Entry) (j : Fin 2) (x : Steer), s.finishReady tap = none →
        (s.taps[tap]).lines = l :: more → s.headDecision l = .write →
        let due := s.fillRows tap first l.index
        let rows := if cfgFill s.area = .skip then [] else due
        let r := rows.headD l.index
        s.entryFor (frameOf s.area r) = some e → streamOf s.area r = some j → (e.legs[j]).steer = some x →
        let address := rowAddress s.area s.self tap j x.base r
        let n := min (cfgMaxPayload s.area) (min (4096 - address % 4096) width)
        let pixels := if rows = [] then l.pixels else s.fillPixels tap r
        ∃ u, exec (.portIssue t) s = .next u ∧ u.lastRequest = some (.memoryWrite address (pixels.take n))
          ∧ (u.taps[tap]).lines <:+ more
          ∧ u.ctr.delivery.burstsIssued = s.ctr.delivery.burstsIssued + 1
          ∧ (n < width → u.delivery.turn = some { tap := tap, rows := rows, sent := n, line := some l, finish := none }
              ∧ u.ctr.delivery.rowsFilled
                = s.ctr.delivery.rowsFilled + (if cfgFill s.area = .skip then BitVec.ofNat 32 due.length else 0))
          ∧ (width ≤ n → rows = [] → u.delivery.turn = none ∧ u.delivery.lastTap = tap
              ∧ u.delivery.handled[tap] = l.index ∧ u.ctr.delivery.linesWritten = s.ctr.delivery.linesWritten + 1)
          ∧ (∀ rest, width ≤ n → rows = r :: rest →
              u.delivery.turn = some { tap := tap, rows := rest, sent := 0, line := some l, finish := none }
                ∧ u.delivery.handled[tap] = r ∧ u.ctr.delivery.rowsFilled = s.ctr.delivery.rowsFilled + 1))
      ∧ (∀ k, s.finishReady tap = some k →
          let due := s.fillRows tap first ((k + 1) * cfgL s.area)
          (∀ (r : Nat) (rest : List Nat) (e : Entry) (j : Fin 2) (x : Steer), cfgFill s.area ≠ .skip → due = r :: rest →
            s.entryFor (frameOf s.area r) = some e → streamOf s.area r = some j → (e.legs[j]).steer = some x →
            let address := rowAddress s.area s.self tap j x.base r
            let n := min (cfgMaxPayload s.area) (min (4096 - address % 4096) width)
            ∃ u, exec (.portIssue t) s = .next u
              ∧ u.lastRequest = some (.memoryWrite address ((s.fillPixels tap r).take n))
              ∧ u.ctr.delivery.burstsIssued = s.ctr.delivery.burstsIssued + 1
              ∧ (n < width →
                  u.delivery.turn = some { tap := tap, rows := due, sent := n, line := none, finish := some k })
              ∧ (width ≤ n → u.ctr.delivery.rowsFilled = s.ctr.delivery.rowsFilled + 1
                  ∧ (rest ≠ [] → u.delivery.handled[tap] = r ∧ u.delivery.turn
                      = some { tap := tap, rows := rest, sent := 0, line := none, finish := some k })
                  ∧ (rest = [] → u.delivery.turn = none ∧ u.delivery.lastTap = tap
                      ∧ u.delivery.handled[tap] = (k + 1) * cfgL s.area - 1 ∧ s.tapFinished u tap k)))
          ∧ (cfgFill s.area = .skip ∨ due = [] → ∃ u, exec (.portIssue t) s = .next u ∧ s.tapFinished u tap k)))
  ∧ (∀ (s : State) (tap : Tap),
      (∀ first last r : Nat, s.slotsPlaced → 0 < cfgL s.area →
        ((s.fillRows tap first last).Pairwise (· < ·))
        ∧ (r ∈ s.fillRows tap first last ↔ first ≤ r ∧ r < last ∧ ∃ e j p, s.entryFor (frameOf s.area r) = some e
            ∧ streamOf s.area r = some j ∧ (e.legs[j]).own = some p ∧ p.state = .collecting
            ∧ (p.taps[tap]).done = false))
      ∧ (∀ r : Nat,
          let zeros := List.replicate (s.tapWidth tap) (0 : Byte)
          (cfgFill s.area = .zero → s.fillPixels tap r = zeros)
          ∧ (∀ phase : Fin 4, cfgFill s.area = .repeated → phaseOf s.area r = phase.val →
              (∀ row, (s.delivery.store[tap])[phase] = some row → row.frame = frameOf s.area r →
                s.fillPixels tap r = row.pixels)
              ∧ ((∀ row, (s.delivery.store[tap])[phase] = some row → row.frame ≠ frameOf s.area r) →
                  s.fillPixels tap r = zeros)))
      ∧ (∀ l : Line,
          let k := frameOf s.area l.index
          let d := s.headDecision l
          (s.closed = true → d = .discard .closed)
          ∧ (∀ e, s.closed = false → s.entryFor k = some e →
              (cfgPhaseStream s.area l.phase = none → d = .discard .noPart)
              ∧ ∀ j, cfgPhaseStream s.area l.phase = some j →
                  ((e.legs[j]).own = none → d = .discard .noPart)
                  ∧ ∀ p, (e.legs[j]).own = some p →
                      (p.state = .collecting → d = .write) ∧ (p.state ≠ .collecting → d = .discard .partClosed))
          ∧ (s.closed = false → s.entryFor k = none →
              (s.allowed k = false → d = .discard .notAllowed)
              ∧ (s.allowed k = true → k ≤ s.frames.h → d = .discard .notInTable)
              ∧ (s.allowed k = true → s.frames.h < k → s.pos.lineIndex < (k + 2) * cfgL s.area → d = .wait)
              ∧ (s.allowed k = true → s.frames.h < k → (k + 2) * cfgL s.area ≤ s.pos.lineIndex →
                  d = .discard .unopened)))
      ∧ (let u := s.settleTap tap
         let kept := (u.taps[tap]).lines
         let c := s.ctr.delivery
         ∃ gone, (s.taps[tap]).lines = gone ++ kept ∧ (∀ l ∈ gone, ∃ why, s.headDecision l = .discard why)
          ∧ (∀ l, kept.head? = some l → ∀ why, s.headDecision l ≠ .discard why)
          ∧ u.delivery.handled = s.delivery.handled ∧ u.lastRequest = s.lastRequest
          ∧ (let count (why : DiscardCase) : Counter := BitVec.ofNat 32 (gone.countP fun l => s.headDecision l == .discard why)
             let waits : Bool := kept.head?.any (fun l => s.headDecision l == .wait)
               && (!gone.isEmpty || !s.delivery.waiting[tap])
             u.ctr.delivery = { c with
               linesDiscarded := c.linesDiscarded + BitVec.ofNat 32 gone.length
               discardClosed := c.discardClosed + count .closed
               discardNoPart := c.discardNoPart + count .noPart
               discardPartClosed := c.discardPartClosed + count .partClosed
               discardNotAllowed := c.discardNotAllowed + count .notAllowed
               discardNotInTable := c.discardNotInTable + count .notInTable
               discardUnopened := c.discardUnopened + count .unopened
               openWaits := c.openWaits + (if waits then 1 else 0) })))

/-- A flush completion reports the part that awaits it, with DONE DELIVERED claimed, or lets the head record's message
write wait in the port; an issued flush that is outstanding for 2 ms voids its part and raises LINK (R136, R137, R140,
R152).
A record flush outstanding for 2 ms loses the head record and raises LINK, and the next record begins (R153). -/
def Obligations.FlushesEnd : Prop :=
  (∀ (t : Moment) (s : State),
      (∀ (i : Fin 8) (j : Fin 2) (number : Nat) (p : OwnPart), s.closed = false → s.awaiting number = some (i, j) →
        s.partAt i j = some p → (∀ m, s.records.step ≠ .flushIssued number m) →
        ∃ u, exec (.flushCompletion t number) s = .next u
          ∧ u.partAt i j = some { p with state := .reported, timer := .stopped, flush := .none }
          ∧ u.ctr.delivery = { s.ctr.delivery with partsDelivered := s.ctr.delivery.partsDelivered + 1 }
          ∧ ((s.pendingOf .done).length < 16 → u.pendingOf .done = s.pendingOf .done
              ++ [{ claim := .done (s.frameAt i) j true p.gapRows, attempts := 0, doom := .none }]))
      ∧ (∀ number m, s.records.step = .flushIssued number m →
          exec (.flushCompletion t number) s = .next { s.tick t with
            records := { s.records with step := .message }
            delivery := { s.delivery with port := s.delivery.port ++ [.recordMessage] } })
      ∧ (∀ (i : Fin 8) (j : Fin 2) (p : OwnPart) number m, s.closed = false → s.partAt i j = some p →
          p.state = .flushing → p.flush = .issued number m → m + 2000000 ≤ max s.now t →
          ∃ u p', exec (.flushTimeout t i j) s = .next u ∧ u.partAt i j = some p' ∧ p'.state = .void
            ∧ p'.gapRows = p.gapRows ∧ p'.timer = .stopped ∧ u.faultSet .link = true ∧ u.mem.state = s.mem.state
            ∧ u.ctr.delivery.flushTimeouts = s.ctr.delivery.flushTimeouts + 1
            ∧ u.ctr.delivery.partsVoid = s.ctr.delivery.partsVoid + 1
            ∧ ((s.pendingOf .done).length < 16 → u.pendingOf .done = s.pendingOf .done
                ++ [{ claim := .done (s.frameAt i) j false p.gapRows, attempts := 0, doom := .none }])))
  ∧ (∀ (t : Moment) (s : State) (number : Nat) (m : Moment) (r : FrameRecord) (rest : List FrameRecord),
      s.records.queue = r :: rest → s.records.step = .flushIssued number m → m + 2000000 ≤ max s.now t →
      ∃ u, exec (.recordFlushTimeout t) s = .next u
        ∧ u.records = { queue := rest, step := if rest = [] then .idle else .write }
        ∧ (rest ≠ [] → .recordWrite ∈ u.delivery.port) ∧ u.faultSet .link = true
        ∧ u.ctr.records = { s.ctr.records with recordLost := s.ctr.records.recordLost + 1 }
        ∧ u.mem = s.mem ∧ u.lastRequest = s.lastRequest)

/-- A leg timer that expires voids a COLLECTING part, with the gap rows counted so far, and has no effect but its own
mark on a FLUSHING one (R138, R140). -/
def Obligations.LegTimerVoidsPart : Prop :=
  ∀ (t : Moment) (s : State) (i : Fin 8) (j : Fin 2) (p : OwnPart) (deadline : Moment),
    s.partAt i j = some p → p.timer = .running deadline → deadline ≤ max s.now t → s.closed = false →
    (p.state = .collecting → ∃ u p', exec (.legTimerExpiry t i j) s = .next u ∧ u.partAt i j = some p'
        ∧ p'.state = .void ∧ p'.timer = .stopped ∧ p'.gapRows = p.gapRows ∧ p'.taps = p.taps
        ∧ u.ctr.delivery.legTimeouts = s.ctr.delivery.legTimeouts + 1
        ∧ u.ctr.delivery.partsVoid = s.ctr.delivery.partsVoid + 1 ∧ u.mem = s.mem
        ∧ u.delivery.handled = s.delivery.handled
        ∧ ((s.pendingOf .done).length < 16 → u.pendingOf .done = s.pendingOf .done
            ++ [{ claim := .done (s.frameAt i) j false p.gapRows, attempts := 0, doom := .none }]))
    ∧ (p.state = .flushing → ∃ u, exec (.legTimerExpiry t i j) s = .next u
        ∧ u.partAt i j = some { p with timer := .expired } ∧ u.ctr = s.ctr ∧ u.delivery = s.delivery ∧ u.tx = s.tx)

/-- At link down the turn ends, the waiting requests are dropped, the notices among them and the records are lost and
LINK is raised, whose own notice is lost too; while delivery is open every COLLECTING or FLUSHING part has become VOID;
link up moves nothing else (R139, R154, R181). A link down while the link is down is no event: the model's choice (log 2). -/
def Obligations.LinkGoesDownAndUp : Prop :=
  ∀ (t : Moment) (s : State),
    (s.delivery.linkUp = true → ∃ u, exec (.linkDown t) s = .next u ∧ u.delivery.linkUp = false
      ∧ u.delivery.turn = none ∧ u.records = { queue := [], step := .idle } ∧ u.faultSet .link = true
      ∧ u.mem = s.mem ∧ u.delivery.handled = s.delivery.handled
      ∧ u.delivery.port = [] ∧ u.ctr.delivery.linkDowns = s.ctr.delivery.linkDowns + 1
      ∧ u.ctr.window.noticesLost = s.ctr.window.noticesLost + BitVec.ofNat 32 (noticesWaiting s)
          + (if s.faultSet .link = false ∧ s.configured = true
                ∧ (cfgFaultNotices s.area).getLsbD FaultKind.link.bit.val = true then 1 else 0)
      ∧ u.ctr.delivery.linesDropped = s.ctr.delivery.linesDropped
          + (match s.delivery.turn with | some tu => if tu.line.isSome then 1 else 0 | none => 0)
      ∧ u.ctr.records.recordLost = s.ctr.records.recordLost + BitVec.ofNat 32 s.records.queue.length
      ∧ (s.closed = false → ∀ (i : Fin 8) (j : Fin 2) p, s.partAt i j = some p → p.state = .collecting ∨ p.state = .flushing →
          ∃ p', u.partAt i j = some p' ∧ p'.state = .void ∧ p'.gapRows = p.gapRows))
    ∧ (s.delivery.linkUp = false → exec (.linkDown t) s = .next (s.tick t))
    ∧ exec (.linkUp t) s = .next { s.tick t with delivery := { s.delivery with linkUp := true } }

/-! ### Signal inputs and the fault line -/

/-- A new level becomes the filtered level when no sample within the filter time showed the old one; else it is the
sampled level alone. An accepted edge of a selected input: at a MEMBER with room it claims a SIGNAL with the level after
the edge and the line index now; with a full list it is lost and SIGNAL-OVERRUN is raised; in any other configured state
it is counted unclaimed. UNCONFIGURED samples nothing (R158, R159, R160). Which samples are known, the first ones and
those at the moments of SIGNAL_EDGE, is log 34. -/
def Obligations.EdgeClaimsSignal : Prop :=
  ∀ (t : Moment) (i : Fin 4) (level : Bool) (s : State),
    let since := match s.signals.sampled[i] with
      | some x => if x.level = level then x.since else x.shown
      | none => max s.now t
    let sampled := s.signals.sampled.set i (some { level := level, since := since, shown := max s.now t })
    let seen := { s.tick t with signals := { s.signals with sampled := sampled } }
    let v := { s.tick t with signals := { s.signals with filtered := s.signals.filtered.set i (some level)
                                                         sampled := sampled } }
    let k := s.ctr.inputs[i]
    let passes := s.signals.filtered[i] = some (!level) ∧ since + cfgInputFilter s.area i ≤ max s.now t
    let wanted := cfgInputOff s.area i = false ∧ cfgInputEdge s.area i level = true
    let selected := passes ∧ wanted
    let accepted : Counters := { s.ctr with inputs := s.ctr.inputs.set i { k with edgesAccepted := k.edgesAccepted + 1 } }
    (s.mem.state = .unconfigured → exec (.signalEdge t i level) s = .next (s.tick t))
    ∧ (s.mem.state ≠ .unconfigured → ¬ passes → exec (.signalEdge t i level) s = .next seen)
    ∧ (s.mem.state ≠ .unconfigured → passes → ¬ wanted → exec (.signalEdge t i level) s = .next v)
    ∧ (s.mem.state ≠ .unconfigured → s.mem.state ≠ .member → selected →
        ∃ u, exec (.signalEdge t i level) s = .next u ∧ u = { v with ctr := u.ctr }
          ∧ u.ctr.inputs[i] = { edgesAccepted := k.edgesAccepted + 1, edgesUnclaimed := k.edgesUnclaimed + 1 }
          ∧ u.ctr = { s.ctr with inputs := u.ctr.inputs })
    ∧ (s.mem.state = .member → selected → (s.pendingOf .signal).length < 4 →
        exec (.signalEdge t i level) s
          = .next ({ v with ctr := accepted }.joinList
              (.signal (cfgInputId s.area i) level (.sin i) (BitVec.ofNat 32 s.pos.lineIndex))))
    ∧ (s.mem.state = .member → selected → 4 ≤ (s.pendingOf .signal).length →
        ∃ u, exec (.signalEdge t i level) s = .next u ∧ u.tx = s.tx ∧ u.mem = s.mem ∧ u.signals = v.signals
          ∧ u.faultSet .signalOverrun = true
          ∧ u.ctr.signals = { s.ctr.signals with signalOverruns := s.ctr.signals.signalOverruns + 1 }
          ∧ u.ctr.queue = { s.ctr.queue with claimsRefused := s.ctr.queue.claimsRefused + 1 })

/-- A fall of the fault line after a high level is counted and, in a configured state, recorded; the first level after a
reset gives no edge; a release gives none (R180, R181). -/
def Obligations.FaultLineWatched : Prop :=
  ∀ (t : Moment) (s : State),
    (s.window.tkflt = some true → ∃ u, exec (.groupFaultEdge t) s = .next u ∧ u.window.tkflt = some false
      ∧ u.ctr.window.groupFaultEdges = s.ctr.window.groupFaultEdges + 1 ∧ u.mem = s.mem
      ∧ u.window.faults = s.window.faults
      ∧ (if s.mem.state = .unconfigured then
          u.window.events = s.window.events ∧ u.window.eventNumber = s.window.eventNumber
        else u.window.eventNumber = s.window.eventNumber + 1
          ∧ u.window.events.getLast? = some { number := s.window.eventNumber + 1, kind := .groupFault }))
    ∧ (s.window.tkflt ≠ some true →
        exec (.groupFaultEdge t) s = .next { s.tick t with window := { s.window with tkflt := some false } })
    ∧ exec (.tkfltReleased t) s = .next { s.tick t with window := { s.window with tkflt := some true } }

/-! ### Membership: timers and commands -/

/-- The listen timer's end claims ROSTER-JOIN and moves the station to JOINING; the roll timer's end claims ROLL and
starts it again at R; a silence timer's end claims DROP and leaves R to the next claim (R79, R84, R87). -/
def Obligations.MembershipTimersExpire : Prop :=
  ∀ (t : Moment) (s : State),
    (∀ deadline, s.mem.state = .listening → s.mem.listen = .running deadline → deadline ≤ max s.now t →
      ∃ u, exec (.listenTimerExpiry t) s = .next u ∧ u.mem = { s.mem with state := .joining, listen := .stopped }
        ∧ u.pos = s.pos ∧ u.trunk = s.trunk
        ∧ (s.pendingOf .roster = [] → u.frames = s.frames
            ∧ u.pendingOf .roster = [{ claim := .rosterJoin, attempts := 0, doom := .none }])
        ∧ u.ctr.mem = { s.ctr.mem with stateChanges := s.ctr.mem.stateChanges + 1 })
    ∧ (∀ deadline, s.mem.state = .member → s.mem.roll = .running deadline → deadline ≤ max s.now t →
        ∃ u, exec (.rollTimerExpiry t) s = .next u
          ∧ u.mem = { s.mem with roll := .running (max s.now t + cfgR s.area) }
          ∧ u = { s.tick t with mem := u.mem, tx := u.tx, ctr := u.ctr }
          ∧ (s.pendingOf .roll = [] → u.pendingOf .roll = [{ claim := .roll, attempts := 0, doom := .none }])
          ∧ (s.pendingOf .roll ≠ [] → u.tx = s.tx ∧ u.ctr.queue.claimsMet = s.ctr.queue.claimsMet + 1))
    ∧ (∀ (p : Station) deadline, s.mem.state = .member → s.mem.silence[p] = .running deadline → deadline ≤ max s.now t →
        ∃ u, exec (.silenceTimerExpiry t p) s = .next u
          ∧ (let rest := if s.trunk.stalled then Timer.held (cfgR s.area) else .running (max s.now t + cfgR s.area)
             u.mem = { s.mem with silence := s.mem.silence.set p rest })
          ∧ u = { s.tick t with mem := u.mem, tx := u.tx, ctr := u.ctr }
          ∧ u.ctr.mem = { s.ctr.mem with dropsClaimed := s.ctr.mem.dropsClaimed + 1 }
          ∧ ((s.pendingOf .drop).length < 7 → (∀ n ∈ s.pendingOf .drop, n.claim ≠ .drop p) →
              u.pendingOf .drop = s.pendingOf .drop ++ [{ claim := .drop p, attempts := 0, doom := .none }])
          ∧ ((∃ n ∈ s.pendingOf .drop, n.claim = .drop p) → u.tx = s.tx))

/-- JOIN and LEAVE by state (R78, R79, R89): JOIN takes a CONFIGURED station to LISTENING with a full listen period;
LEAVE takes a MEMBER or JOINING station to LEAVING with ROSTER-LEAVE claimed (DONEs kept at a MEMBER), a LISTENING one to
CONFIGURED (to UNCONFIGURED while CONFIG-CORRUPT is set), which empties every unit (R94); both are refused elsewhere. JOIN
leaves the position unit STOPPED with its current frame as it was (R4). -/
def Obligations.JoinAndLeaveCommands : Prop :=
  ∀ (t : Moment) (s : State), s.window.taking = none →
    (s.mem.state ≠ .configured → exec (.join t) s = .next (s.answeredAs t 2 .refusedState 0))
    ∧ (s.mem.state = .configured → ∃ u, exec (.join t) s = .next u ∧ u.mem.state = .listening
        ∧ u.mem.listen = (if s.trunk.stalled then .held (2 * cfgR s.area) else .running (max s.now t + 2 * cfgR s.area))
        ∧ u.mem.heardRoll = false ∧ u.trunk = { s.trunk with view := .settling }
        ∧ u.pos = { s.pos with mode := .stopped, leftFrame := s.currentFrame } ∧ u.frames = s.frames ∧ u.taps = s.taps ∧ u.tx = s.tx
        ∧ u.window.taking = none ∧ u.window.result = { code := 2, result := .accepted, value := 0, done := true }
        ∧ u.ctr.mem = { s.ctr.mem with stateChanges := s.ctr.mem.stateChanges + 1 })
    ∧ ((s.mem.state = .unconfigured ∨ s.mem.state = .configured ∨ s.mem.state = .leaving ∨ s.mem.state = .lapsed) →
        exec (.leave t) s = .next (s.answeredAs t 3 .refusedState 0))
    ∧ ((s.mem.state = .member ∨ s.mem.state = .joining) → s.trunk.wire = none → ∃ u, exec (.leave t) s = .next u
        ∧ u.mem.state = .leaving ∧ u.mem.roster = s.mem.roster ∧ u.mem.roll = .stopped
        ∧ (∀ p : Station, u.mem.silence[p] = .stopped)
        ∧ (s.pendingOf .roster = [] ∨ s.mem.state = .member ∨ (∃ n, s.pendingOf .roster = [n] ∧ n.claim = .rosterJoin) →
            u.pendingOf .roster = [{ claim := .rosterLeave, attempts := 0, doom := .none }])
        ∧ u.pendingOf .done = s.pendingOf .done
        ∧ (s.mem.state = .member → u.pos.mode = .tracking ∧ ∀ k, k ≠ .done → k ≠ .roster → u.pendingOf k = [])
        ∧ (s.mem.state = .joining → u.pos = s.pos)
        ∧ u.window.result = { code := 3, result := .accepted, value := 0, done := true })
    ∧ (s.mem.state = .listening → ∃ u, exec (.leave t) s = .next u ∧ u.mem.state = s.home ∧ u.mem.roster = 0
        ∧ u.emptied ∧ (∀ k, s.onWire k = false → u.pendingOf k = [])
        ∧ u.window.result = { code := 3, result := .accepted, value := 0, done := true })

/-! ### Host window -/

/-- A write of the command word while a command is being taken is ignored but for COLLISION and its counter (R173).
A code that names no command is answered REFUSED-ARGUMENT with no effect, and an argument word takes what is written
to it, without effect on a command being taken; a write to any other location changes nothing (R172, R185). That
IGNORED_WRITE has no effect also for the locations that other commands of the table name is the model's choice (log 29). -/
def Obligations.WindowWritesWithLittleEffect : Prop :=
  (∀ (c : Instr) (s : State), c.writesCommandWord = true → s.window.taking ≠ none →
      exec c s = .next { s.tick c.moment with
        window := { s.window with collision := true }
        ctr := { s.ctr with window := { s.ctr.window with collisions := s.ctr.window.collisions + 1 } } })
  ∧ (∀ (t : Moment) (s : State),
      (∀ code : Byte, (code = 0 ∨ 11 < code.toNat) → s.window.taking = none →
        exec (.unknownCommand t code) s = .next (s.answeredAs t code .refusedArgument 0))
      ∧ (∀ (i : Fin 4) (value : Word), exec (.argumentWordWrite t i value) s
          = .next { s.tick t with window := { s.window with args := s.window.args.set i value } })
      ∧ (∀ (location : Fin 1024) (value : Word), exec (.ignoredWrite t location value) s = .next (s.tick t)))

/-- A write to the configuration area: stored in an open area, all four bytes and no other; counted and ignored in a
frozen one; a collision while ACCEPT-CONFIG is taken (R173, R174). Whatever is stored, a STOPPED position unit's current
frame stays as it was left (R4). For 1A0h to 1FFh, where the record has nothing, an open
area takes no byte, and that such a write is else counted, or collides, as in the area is log 30. -/
def Obligations.ConfigWrites : Prop :=
  ∀ (t : Moment) (location : Fin 1024) (value : Word) (s : State), location.val < 148 →
    (s.takingCode ≠ some 1 → s.mem.state = .unconfigured → (location.val < 104 ∨ 128 ≤ location.val) → s.areaCanonical →
      ∃ u, exec (.configWrite t location value) s = .next u
        ∧ u = { s.tick t with window := { s.window with area := u.area } }
        ∧ (∀ i < 4, Memory.read u.area (4 * location.val + i) = value.extractLsb' (8 * i) 8)
        ∧ (∀ a, a < 4 * location.val ∨ 4 * location.val + 4 ≤ a → Memory.read u.area a = Memory.read s.area a)
        ∧ (s.pos.mode = .stopped → u.currentFrame = s.currentFrame))
    ∧ (s.takingCode ≠ some 1 → s.mem.state = .unconfigured → 104 ≤ location.val → location.val < 128 →
        exec (.configWrite t location value) s = .next (s.tick t))
    ∧ (s.takingCode ≠ some 1 → s.mem.state ≠ .unconfigured →
        exec (.configWrite t location value) s = .next { s.tick t with
          ctr := { s.ctr with window := { s.ctr.window with
            configWritesIgnored := s.ctr.window.configWritesIgnored + 1 } } })
    ∧ (s.takingCode = some 1 →
        exec (.configWrite t location value) s = .next { s.tick t with
          window := { s.window with collision := true }
          ctr := { s.ctr with window := { s.ctr.window with collisions := s.ctr.window.collisions + 1 } } })

/-- ACCEPT-CONFIG: refused outside UNCONFIGURED (at once: log 27); else taken with its arguments latched, and answered,
when the validation is done, with the number of the first check that fails, or ACCEPTED with the digest and the station
CONFIGURED (R77, R158, R172, R175, R176, R177). -/
def Obligations.AcceptConfig : Prop :=
  ∀ (t : Moment) (s : State),
    (s.window.taking = none → s.mem.state ≠ .unconfigured →
      exec (.acceptConfig t) s = .next (s.answeredAs t 1 .refusedState 0))
    ∧ (s.window.taking = none → s.mem.state = .unconfigured →
        exec (.acceptConfig t) s = .next { s.tick t with window := { s.window with
          command := 1, taking := some { code := 1, args := s.window.args }
          result := { s.window.result with done := false } } })
    ∧ (∀ straps samples n, s.takingCode = some 1 → s.window.command = 1 → s.mem.state = .unconfigured →
        (configChecks s.area).findIdx? (fun ok => !ok) = some n →
        exec (.acceptConfigDone t straps samples) s
          = .next (s.answeredAs t 1 .refusedArgument (BitVec.ofNat 32 (n + 1))))
    ∧ (∀ straps (samples : Vector Bool 4), s.takingCode = some 1 → s.mem.state = .unconfigured →
        (∀ ok ∈ configChecks s.area, ok = true) →
        let digest := crc16 ((List.range 0x1A0).map (Memory.read s.area))
        ∃ u, exec (.acceptConfigDone t straps samples) s = .next u ∧ u.mem.state = .configured ∧ u.area = s.area
          ∧ u.window.digest = digest ∧ u.faultSet .configCorrupt = false
          ∧ u.mem.number = some (match cfgOverride s.area with
              | some n => if h : n < 8 then ⟨n, h⟩ else straps
              | none => straps)
          ∧ (∀ i : Fin 4, u.signals.filtered[i] = some samples[i]
              ∧ u.signals.sampled[i] = some { level := samples[i], since := max s.now t, shown := max s.now t })
          ∧ u.window.nextCheck = some (max s.now t + cfgCheckInterval s.area) ∧ u.window.taking = none
          ∧ u.window.result = { code := 1, result := .accepted, value := digest.setWidth 32, done := true }
          ∧ u.pos = s.pos ∧ u.taps = s.taps ∧ u.frames = s.frames ∧ u.trunk = s.trunk)

/-- A configuration check that falls due: one that finds the digest as it was changes nothing but its counter and its
next moment; one that finds it changed raises CONFIG-CORRUPT and takes a MEMBER or LEAVING station to LAPSED and a
CONFIGURED, LISTENING or JOINING one to UNCONFIGURED with its area kept (R93, R174, R177). The upsets are bytes the
command brings (log 28). -/
def Obligations.ConfigCheckFindsUpset : Prop :=
  ∀ (t : Moment) (upsets : List Host.Cell) (s : State) (deadline : Moment),
    s.window.nextCheck = some deadline → deadline ≤ max s.now t → s.mem.state ≠ .unconfigured →
    let area := (s.upset upsets).area
    (configDigest area = s.window.digest →
      exec (.configCheck t upsets) s = .next { s.tick t with
        window := { s.window with area := area, nextCheck := some (deadline + cfgCheckInterval area) }
        ctr := { s.ctr with window := { s.ctr.window with configChecks := s.ctr.window.configChecks + 1 } } })
    ∧ (configDigest area ≠ s.window.digest → ∃ u, exec (.configCheck t upsets) s = .next u ∧ u.area = area
        ∧ u.faultSet .configCorrupt = true ∧ u.ctr.window.configChecks = s.ctr.window.configChecks + 1
        ∧ u.ctr.window.configCorruptSeen = s.ctr.window.configCorruptSeen + 1
        ∧ (s.mem.state = .member ∨ s.mem.state = .leaving ∨ s.mem.state = .lapsed → u.mem.state = .lapsed)
        ∧ (s.mem.state = .configured ∨ s.mem.state = .listening ∨ s.mem.state = .joining →
            u.mem.state = .unconfigured ∧ u.window.digest = 0 ∧ u.mem.number = none ∧ u.mem.roster = 0
              ∧ u.window.nextCheck = none))

/-- POST-GRANT (R106): the first condition that holds gives the result; an accepted grant takes the channel's next
sequence, which is its value. -/
def Obligations.PostGrantCommand : Prop :=
  ∀ (t : Moment) (s : State), s.window.taking = none →
    let channel := s.window.args[(0 : Fin 4)].toNat
    let base := s.window.args[(1 : Fin 4)].toNat + 2 ^ 32 * s.window.args[(2 : Fin 4)].toNat
    (s.mem.state ≠ .member → exec (.postGrant t) s = .next (s.answeredAs t 4 .refusedState 0))
    ∧ (s.mem.state = .member → cfgChannels s.area ≤ channel ∨ 8 ≤ channel →
        exec (.postGrant t) s = .next (s.answeredAs t 4 .refusedArgument 0))
    ∧ ∀ c : Fin 8, s.mem.state = .member → channel = c.val → channel < cfgChannels s.area →
        let ch := s.frames.channels[c]
        let badBase := base % 4096 ≠ 0 ∨ 2 ^ 52 ≤ base
        let outstanding := ch.queue.length + s.pendingGrants c
        (badBase → exec (.postGrant t) s = .next (s.answeredAs t 4 .refusedArgument 0))
        ∧ (¬ badBase → cfgHome s.area c ≠ s.self.val →
            exec (.postGrant t) s = .next (s.answeredAs t 4 .refusedNotHome 0))
        ∧ (¬ badBase → cfgHome s.area c = s.self.val → ch.complete = false →
            exec (.postGrant t) s = .next (s.answeredAs t 4 .refusedState 0))
        ∧ (¬ badBase → cfgHome s.area c = s.self.val → ch.complete = true → 16 ≤ outstanding →
            exec (.postGrant t) s = .next (s.answeredAs t 4 .refusedFull 0))
        ∧ (¬ badBase → cfgHome s.area c = s.self.val → ch.complete = true → outstanding < 16 →
            4 ≤ (s.pendingOf .grant).length → exec (.postGrant t) s = .next (s.answeredAs t 4 .refusedBusy 0))
        ∧ (¬ badBase → cfgHome s.area c = s.self.val → ch.complete = true → outstanding < 16 →
            (s.pendingOf .grant).length < 4 →
            ∃ u : State, exec (.postGrant t) s = .next (u.answeredAs t 4 .accepted (ch.nextSeq.setWidth 32))
              ∧ u = { s with frames := u.frames, tx := u.tx, ctr := u.ctr }
              ∧ u.frames = { s.frames with
                  channels := s.frames.channels.set c { ch with nextSeq := ch.nextSeq + 1 } }
              ∧ u.pendingOf .grant = s.pendingOf .grant
                  ++ [{ claim := .grant c ch.nextSeq (BitVec.ofNat 40 (base / 4096)), attempts := 0, doom := .none }]
              ∧ (∀ k, k ≠ .grant → u.pendingOf k = s.pendingOf k)
              ∧ u.ctr.frames = { s.ctr.frames with grantsPosted := s.ctr.frames.grantsPosted + 1 })

/-- GATE-CLOSE and GATE-OPEN (R113): refused outside MEMBER and while a GATE note is pending; else a GATE note is claimed
and the gate record stays as it is. -/
def Obligations.GateCommands : Prop :=
  ∀ (t : Moment) (s : State), s.window.taking = none →
    ∀ (c : Instr) (code : Byte) (isOpen : Bool),
      (c = .gateClose t ∧ code = 5 ∧ isOpen = false) ∨ (c = .gateOpen t ∧ code = 6 ∧ isOpen = true) →
      (s.mem.state ≠ .member → exec c s = .next (s.answeredAs t code .refusedState 0))
      ∧ (s.mem.state = .member → s.pendingOf .gate ≠ [] → exec c s = .next (s.answeredAs t code .refusedBusy 0))
      ∧ (s.mem.state = .member → s.pendingOf .gate = [] →
          exec c s = .next ((s.joinList (.gate isOpen)).answeredAs t code .accepted 0))

/-- MARK (R161). -/
def Obligations.MarkCommand : Prop :=
  ∀ (t : Moment) (s : State), s.window.taking = none →
    let id := s.window.args[(0 : Fin 4)]
    let line := s.window.args[(1 : Fin 4)]
    (s.mem.state ≠ .member → exec (.mark t) s = .next (s.answeredAs t 7 .refusedState 0))
    ∧ (s.mem.state = .member → 15 < id.toNat → exec (.mark t) s = .next (s.answeredAs t 7 .refusedArgument 0))
    ∧ (s.mem.state = .member → id.toNat ≤ 15 → 4 ≤ (s.pendingOf .signal).length →
        exec (.mark t) s = .next (s.answeredAs t 7 .refusedBusy 0))
    ∧ (s.mem.state = .member → id.toNat ≤ 15 → (s.pendingOf .signal).length < 4 →
        ∃ u : State, exec (.mark t) s = .next (u.answeredAs t 7 .accepted 0) ∧ u = { s with tx := u.tx, ctr := u.ctr }
          ∧ u.pendingOf .signal = s.pendingOf .signal
              ++ [{ claim := .signal (id.setWidth 4) true .host line, attempts := 0, doom := .none }]
          ∧ (∀ k, k ≠ .signal → u.pendingOf k = s.pendingOf k)
          ∧ u.ctr.signals = { s.ctr.signals with marksAccepted := s.ctr.signals.marksAccepted + 1 })

/-- SET-OUTPUT (R167). -/
def Obligations.SetOutputCommand : Prop :=
  ∀ (t : Moment) (s : State), s.window.taking = none →
    let output := s.window.args[(0 : Fin 4)].toNat
    let level := s.window.args[(1 : Fin 4)].toNat
    (s.mem.state = .unconfigured → exec (.setOutput t) s = .next (s.answeredAs t 8 .refusedState 0))
    ∧ (s.mem.state ≠ .unconfigured → 3 < output ∨ 1 < level →
        exec (.setOutput t) s = .next (s.answeredAs t 8 .refusedArgument 0))
    ∧ ∀ j : Fin 4, s.mem.state ≠ .unconfigured → output = j.val → level ≤ 1 →
        (cfgOutputMode s.area j ≠ .manual → exec (.setOutput t) s = .next (s.answeredAs t 8 .refusedArgument 0))
        ∧ (cfgOutputMode s.area j = .manual →
            ∃ u : State, exec (.setOutput t) s = .next (u.answeredAs t 8 .accepted 0)
              ∧ u = { s with signals := { s.signals with
                  outputs := s.signals.outputs.set j { s.signals.outputs[j] with manual := decide (level = 1) } } }
              ∧ u.asserted j = decide (level = 1))

/-- CLEAR-FAULTS (R179): a mask with a bit beyond the seventeenth is refused; else exactly the flags whose bits are set
become clear, COLLISION by bit 16. -/
def Obligations.ClearFaultsCommand : Prop :=
  ∀ (t : Moment) (s : State), s.window.taking = none →
    let mask := s.window.args[(0 : Fin 4)]
    (2 ^ 17 ≤ mask.toNat → exec (.clearFaults t) s = .next (s.answeredAs t 9 .refusedArgument 0))
    ∧ (mask.toNat < 2 ^ 17 → ∃ u : State, exec (.clearFaults t) s = .next (u.answeredAs t 9 .accepted 0)
        ∧ u = { s with window := { s.window with faults := u.window.faults, collision := u.window.collision } }
        ∧ (∀ i < 16, u.window.faults.getLsbD i = (s.window.faults.getLsbD i && !mask.getLsbD i))
        ∧ u.window.collision = (s.window.collision && !mask.getLsbD 16))
end

