-- ==== Sys2Proof/Laws/State.lean ====
section
/-! SUPPORT. What each plain update of the state does to each field: one lemma per field and update, true by unfolding. -/

namespace Sys2Proof.Machine

/-! ### The current frame of the position unit -/

@[simp] theorem currentFrame_stop (p : Position) (a b : Memory) : (p.stop a).currentFrame b = p.currentFrame a := rfl
@[simp] theorem currentFrame_toConfigured (p : Position) (a b : Memory) :
    (p.toConfigured a).currentFrame b = p.currentFrame a := rfl
@[simp] theorem stop_mode (p : Position) (a : Memory) : (p.stop a).mode = .stopped := rfl

/-- A STOPPED unit's current frame does not read the area (R4). -/
theorem currentFrame_of_stopped {p : Position} (a : Memory) (h : p.mode = .stopped) : p.currentFrame a = p.leftFrame := by
  simp [Position.currentFrame, h]

/-- The current frame of a unit that runs is that of its line index (R9). -/
theorem currentFrame_of_running {p : Position} (a : Memory) (h : p.mode ≠ .stopped) :
    p.currentFrame a = frameOf a p.lineIndex := by
  cases hm : p.mode <;> simp_all [Position.currentFrame]

/-! ### tick -/

@[simp] theorem tick_pending (s : State) (t : Moment) : (s.tick t).pending = s.pending := rfl
@[simp] theorem tick_now (s : State) (t : Moment) : (s.tick t).now = max s.now t := rfl
@[simp] theorem tick_draws (s : State) (t : Moment) : (s.tick t).draws = s.draws := rfl
@[simp] theorem tick_lastRequest (s : State) (t : Moment) : (s.tick t).lastRequest = s.lastRequest := rfl
@[simp] theorem tick_pos (s : State) (t : Moment) : (s.tick t).pos = s.pos := rfl
@[simp] theorem tick_taps (s : State) (t : Moment) : (s.tick t).taps = s.taps := rfl
@[simp] theorem tick_freeLow (s : State) (t : Moment) : (s.tick t).freeLow = s.freeLow := rfl
@[simp] theorem tick_trunk (s : State) (t : Moment) : (s.tick t).trunk = s.trunk := rfl
@[simp] theorem tick_tx (s : State) (t : Moment) : (s.tick t).tx = s.tx := rfl
@[simp] theorem tick_mem (s : State) (t : Moment) : (s.tick t).mem = s.mem := rfl
@[simp] theorem tick_frames (s : State) (t : Moment) : (s.tick t).frames = s.frames := rfl
@[simp] theorem tick_delivery (s : State) (t : Moment) : (s.tick t).delivery = s.delivery := rfl
@[simp] theorem tick_records (s : State) (t : Moment) : (s.tick t).records = s.records := rfl
@[simp] theorem tick_signals (s : State) (t : Moment) : (s.tick t).signals = s.signals := rfl
@[simp] theorem tick_window (s : State) (t : Moment) : (s.tick t).window = s.window := rfl
@[simp] theorem tick_ctr (s : State) (t : Moment) : (s.tick t).ctr = s.ctr := rfl

/-! ### bump -/

@[simp] theorem bump_pending (s : State) (f : Counters → Counters) : (s.bump f).pending = s.pending := rfl
@[simp] theorem bump_now (s : State) (f : Counters → Counters) : (s.bump f).now = s.now := rfl
@[simp] theorem bump_draws (s : State) (f : Counters → Counters) : (s.bump f).draws = s.draws := rfl
@[simp] theorem bump_lastRequest (s : State) (f : Counters → Counters) : (s.bump f).lastRequest = s.lastRequest := rfl
@[simp] theorem bump_pos (s : State) (f : Counters → Counters) : (s.bump f).pos = s.pos := rfl
@[simp] theorem bump_taps (s : State) (f : Counters → Counters) : (s.bump f).taps = s.taps := rfl
@[simp] theorem bump_freeLow (s : State) (f : Counters → Counters) : (s.bump f).freeLow = s.freeLow := rfl
@[simp] theorem bump_trunk (s : State) (f : Counters → Counters) : (s.bump f).trunk = s.trunk := rfl
@[simp] theorem bump_tx (s : State) (f : Counters → Counters) : (s.bump f).tx = s.tx := rfl
@[simp] theorem bump_mem (s : State) (f : Counters → Counters) : (s.bump f).mem = s.mem := rfl
@[simp] theorem bump_frames (s : State) (f : Counters → Counters) : (s.bump f).frames = s.frames := rfl
@[simp] theorem bump_delivery (s : State) (f : Counters → Counters) : (s.bump f).delivery = s.delivery := rfl
@[simp] theorem bump_records (s : State) (f : Counters → Counters) : (s.bump f).records = s.records := rfl
@[simp] theorem bump_signals (s : State) (f : Counters → Counters) : (s.bump f).signals = s.signals := rfl
@[simp] theorem bump_window (s : State) (f : Counters → Counters) : (s.bump f).window = s.window := rfl
@[simp] theorem bump_ctr (s : State) (f : Counters → Counters) : (s.bump f).ctr = f s.ctr := rfl

/-! ### present -/

@[simp] theorem present_pending (s : State) (r : PortRequest) : (s.present r).pending = s.pending := rfl
@[simp] theorem present_now (s : State) (r : PortRequest) : (s.present r).now = s.now := rfl
@[simp] theorem present_draws (s : State) (r : PortRequest) : (s.present r).draws = s.draws := rfl
@[simp] theorem present_lastRequest (s : State) (r : PortRequest) : (s.present r).lastRequest = s.lastRequest := rfl
@[simp] theorem present_pos (s : State) (r : PortRequest) : (s.present r).pos = s.pos := rfl
@[simp] theorem present_taps (s : State) (r : PortRequest) : (s.present r).taps = s.taps := rfl
@[simp] theorem present_freeLow (s : State) (r : PortRequest) : (s.present r).freeLow = s.freeLow := rfl
@[simp] theorem present_trunk (s : State) (r : PortRequest) : (s.present r).trunk = s.trunk := rfl
@[simp] theorem present_tx (s : State) (r : PortRequest) : (s.present r).tx = s.tx := rfl
@[simp] theorem present_mem (s : State) (r : PortRequest) : (s.present r).mem = s.mem := rfl
@[simp] theorem present_frames (s : State) (r : PortRequest) : (s.present r).frames = s.frames := rfl
@[simp] theorem present_delivery (s : State) (r : PortRequest) :
    (s.present r).delivery = { s.delivery with port := s.delivery.port ++ [r] } := rfl
@[simp] theorem present_records (s : State) (r : PortRequest) : (s.present r).records = s.records := rfl
@[simp] theorem present_signals (s : State) (r : PortRequest) : (s.present r).signals = s.signals := rfl
@[simp] theorem present_window (s : State) (r : PortRequest) : (s.present r).window = s.window := rfl
@[simp] theorem present_ctr (s : State) (r : PortRequest) : (s.present r).ctr = s.ctr := rfl

/-! ### clearFault -/

@[simp] theorem clearFault_pending (s : State) (k : FaultKind) : (s.clearFault k).pending = s.pending := rfl
@[simp] theorem clearFault_now (s : State) (k : FaultKind) : (s.clearFault k).now = s.now := rfl
@[simp] theorem clearFault_draws (s : State) (k : FaultKind) : (s.clearFault k).draws = s.draws := rfl
@[simp] theorem clearFault_lastRequest (s : State) (k : FaultKind) :
    (s.clearFault k).lastRequest = s.lastRequest := rfl
@[simp] theorem clearFault_pos (s : State) (k : FaultKind) : (s.clearFault k).pos = s.pos := rfl
@[simp] theorem clearFault_taps (s : State) (k : FaultKind) : (s.clearFault k).taps = s.taps := rfl
@[simp] theorem clearFault_freeLow (s : State) (k : FaultKind) : (s.clearFault k).freeLow = s.freeLow := rfl
@[simp] theorem clearFault_trunk (s : State) (k : FaultKind) : (s.clearFault k).trunk = s.trunk := rfl
@[simp] theorem clearFault_tx (s : State) (k : FaultKind) : (s.clearFault k).tx = s.tx := rfl
@[simp] theorem clearFault_mem (s : State) (k : FaultKind) : (s.clearFault k).mem = s.mem := rfl
@[simp] theorem clearFault_frames (s : State) (k : FaultKind) : (s.clearFault k).frames = s.frames := rfl
@[simp] theorem clearFault_delivery (s : State) (k : FaultKind) : (s.clearFault k).delivery = s.delivery := rfl
@[simp] theorem clearFault_records (s : State) (k : FaultKind) : (s.clearFault k).records = s.records := rfl
@[simp] theorem clearFault_signals (s : State) (k : FaultKind) : (s.clearFault k).signals = s.signals := rfl
@[simp] theorem clearFault_window (s : State) (k : FaultKind) :
    (s.clearFault k).window = { s.window with faults := s.window.faults &&& ~~~(1#16 <<< k.bit.val) } := rfl
@[simp] theorem clearFault_ctr (s : State) (k : FaultKind) : (s.clearFault k).ctr = s.ctr := rfl

/-! ### collide -/

@[simp] theorem collide_pending (s : State) : (s.collide).pending = s.pending := rfl
@[simp] theorem collide_now (s : State) : (s.collide).now = s.now := rfl
@[simp] theorem collide_draws (s : State) : (s.collide).draws = s.draws := rfl
@[simp] theorem collide_lastRequest (s : State) : (s.collide).lastRequest = s.lastRequest := rfl
@[simp] theorem collide_pos (s : State) : (s.collide).pos = s.pos := rfl
@[simp] theorem collide_taps (s : State) : (s.collide).taps = s.taps := rfl
@[simp] theorem collide_freeLow (s : State) : (s.collide).freeLow = s.freeLow := rfl
@[simp] theorem collide_trunk (s : State) : (s.collide).trunk = s.trunk := rfl
@[simp] theorem collide_tx (s : State) : (s.collide).tx = s.tx := rfl
@[simp] theorem collide_mem (s : State) : (s.collide).mem = s.mem := rfl
@[simp] theorem collide_frames (s : State) : (s.collide).frames = s.frames := rfl
@[simp] theorem collide_delivery (s : State) : (s.collide).delivery = s.delivery := rfl
@[simp] theorem collide_records (s : State) : (s.collide).records = s.records := rfl
@[simp] theorem collide_signals (s : State) : (s.collide).signals = s.signals := rfl
@[simp] theorem collide_window (s : State) : (s.collide).window = { s.window with collision := true } := rfl

/-! ### answer -/

@[simp] theorem answer_pending (s : State) (code : Byte) (r : Result) (v : Word) :
    (s.answer code r v).pending = s.pending := rfl
@[simp] theorem answer_now (s : State) (code : Byte) (r : Result) (v : Word) : (s.answer code r v).now = s.now := rfl
@[simp] theorem answer_draws (s : State) (code : Byte) (r : Result) (v : Word) :
    (s.answer code r v).draws = s.draws := rfl
@[simp] theorem answer_lastRequest (s : State) (code : Byte) (r : Result) (v : Word) :
    (s.answer code r v).lastRequest = s.lastRequest := rfl
@[simp] theorem answer_pos (s : State) (code : Byte) (r : Result) (v : Word) : (s.answer code r v).pos = s.pos := rfl
@[simp] theorem answer_taps (s : State) (code : Byte) (r : Result) (v : Word) :
    (s.answer code r v).taps = s.taps := rfl
@[simp] theorem answer_freeLow (s : State) (code : Byte) (r : Result) (v : Word) :
    (s.answer code r v).freeLow = s.freeLow := rfl
@[simp] theorem answer_trunk (s : State) (code : Byte) (r : Result) (v : Word) :
    (s.answer code r v).trunk = s.trunk := rfl
@[simp] theorem answer_tx (s : State) (code : Byte) (r : Result) (v : Word) : (s.answer code r v).tx = s.tx := rfl
@[simp] theorem answer_mem (s : State) (code : Byte) (r : Result) (v : Word) : (s.answer code r v).mem = s.mem := rfl
@[simp] theorem answer_frames (s : State) (code : Byte) (r : Result) (v : Word) :
    (s.answer code r v).frames = s.frames := rfl
@[simp] theorem answer_delivery (s : State) (code : Byte) (r : Result) (v : Word) :
    (s.answer code r v).delivery = s.delivery := rfl
@[simp] theorem answer_records (s : State) (code : Byte) (r : Result) (v : Word) :
    (s.answer code r v).records = s.records := rfl
@[simp] theorem answer_signals (s : State) (code : Byte) (r : Result) (v : Word) :
    (s.answer code r v).signals = s.signals := rfl
@[simp] theorem answer_window (s : State) (code : Byte) (r : Result) (v : Word) :
    (s.answer code r v).window = { s.window with taking := none, result := { code, result := r, value := v, done := true } } := rfl

/-! ### setPending -/

@[simp] theorem setPending_pending (s : State) (k : NoteKind) (l : List Pending) :
    (s.setPending k l).pending = s.pending := rfl
@[simp] theorem setPending_now (s : State) (k : NoteKind) (l : List Pending) : (s.setPending k l).now = s.now := rfl
@[simp] theorem setPending_draws (s : State) (k : NoteKind) (l : List Pending) :
    (s.setPending k l).draws = s.draws := rfl
@[simp] theorem setPending_lastRequest (s : State) (k : NoteKind) (l : List Pending) :
    (s.setPending k l).lastRequest = s.lastRequest := rfl
@[simp] theorem setPending_pos (s : State) (k : NoteKind) (l : List Pending) : (s.setPending k l).pos = s.pos := rfl
@[simp] theorem setPending_taps (s : State) (k : NoteKind) (l : List Pending) :
    (s.setPending k l).taps = s.taps := rfl
@[simp] theorem setPending_freeLow (s : State) (k : NoteKind) (l : List Pending) :
    (s.setPending k l).freeLow = s.freeLow := rfl
@[simp] theorem setPending_trunk (s : State) (k : NoteKind) (l : List Pending) :
    (s.setPending k l).trunk = s.trunk := rfl
@[simp] theorem setPending_tx (s : State) (k : NoteKind) (l : List Pending) :
    (s.setPending k l).tx = { s.tx with lists := s.tx.lists.set k.code l } := rfl
@[simp] theorem setPending_mem (s : State) (k : NoteKind) (l : List Pending) : (s.setPending k l).mem = s.mem := rfl
@[simp] theorem setPending_frames (s : State) (k : NoteKind) (l : List Pending) :
    (s.setPending k l).frames = s.frames := rfl
@[simp] theorem setPending_delivery (s : State) (k : NoteKind) (l : List Pending) :
    (s.setPending k l).delivery = s.delivery := rfl
@[simp] theorem setPending_records (s : State) (k : NoteKind) (l : List Pending) :
    (s.setPending k l).records = s.records := rfl
@[simp] theorem setPending_signals (s : State) (k : NoteKind) (l : List Pending) :
    (s.setPending k l).signals = s.signals := rfl
@[simp] theorem setPending_window (s : State) (k : NoteKind) (l : List Pending) :
    (s.setPending k l).window = s.window := rfl
@[simp] theorem setPending_ctr (s : State) (k : NoteKind) (l : List Pending) : (s.setPending k l).ctr = s.ctr := rfl

/-! ### joinList -/

@[simp] theorem joinList_pending (s : State) (c : Claim) : (s.joinList c).pending = s.pending := rfl
@[simp] theorem joinList_now (s : State) (c : Claim) : (s.joinList c).now = s.now := rfl
@[simp] theorem joinList_draws (s : State) (c : Claim) : (s.joinList c).draws = s.draws := rfl
@[simp] theorem joinList_lastRequest (s : State) (c : Claim) : (s.joinList c).lastRequest = s.lastRequest := rfl
@[simp] theorem joinList_pos (s : State) (c : Claim) : (s.joinList c).pos = s.pos := rfl
@[simp] theorem joinList_taps (s : State) (c : Claim) : (s.joinList c).taps = s.taps := rfl
@[simp] theorem joinList_freeLow (s : State) (c : Claim) : (s.joinList c).freeLow = s.freeLow := rfl
@[simp] theorem joinList_trunk (s : State) (c : Claim) : (s.joinList c).trunk = s.trunk := rfl
@[simp] theorem joinList_tx (s : State) (c : Claim) :
    (s.joinList c).tx = { s.tx with lists := s.tx.lists.set c.kind.code (s.pendingOf c.kind ++ [{ claim := c, attempts := 0, doom := .none }]) } := rfl
@[simp] theorem joinList_mem (s : State) (c : Claim) : (s.joinList c).mem = s.mem := rfl
@[simp] theorem joinList_frames (s : State) (c : Claim) : (s.joinList c).frames = s.frames := rfl
@[simp] theorem joinList_delivery (s : State) (c : Claim) : (s.joinList c).delivery = s.delivery := rfl
@[simp] theorem joinList_records (s : State) (c : Claim) : (s.joinList c).records = s.records := rfl
@[simp] theorem joinList_signals (s : State) (c : Claim) : (s.joinList c).signals = s.signals := rfl
@[simp] theorem joinList_window (s : State) (c : Claim) : (s.joinList c).window = s.window := rfl

/-! ### claimMet -/

@[simp] theorem claimMet_pending (s : State) : (s.claimMet).pending = s.pending := rfl
@[simp] theorem claimMet_now (s : State) : (s.claimMet).now = s.now := rfl
@[simp] theorem claimMet_draws (s : State) : (s.claimMet).draws = s.draws := rfl
@[simp] theorem claimMet_lastRequest (s : State) : (s.claimMet).lastRequest = s.lastRequest := rfl
@[simp] theorem claimMet_pos (s : State) : (s.claimMet).pos = s.pos := rfl
@[simp] theorem claimMet_taps (s : State) : (s.claimMet).taps = s.taps := rfl
@[simp] theorem claimMet_freeLow (s : State) : (s.claimMet).freeLow = s.freeLow := rfl
@[simp] theorem claimMet_trunk (s : State) : (s.claimMet).trunk = s.trunk := rfl
@[simp] theorem claimMet_tx (s : State) : (s.claimMet).tx = s.tx := rfl
@[simp] theorem claimMet_mem (s : State) : (s.claimMet).mem = s.mem := rfl
@[simp] theorem claimMet_frames (s : State) : (s.claimMet).frames = s.frames := rfl
@[simp] theorem claimMet_delivery (s : State) : (s.claimMet).delivery = s.delivery := rfl
@[simp] theorem claimMet_records (s : State) : (s.claimMet).records = s.records := rfl
@[simp] theorem claimMet_signals (s : State) : (s.claimMet).signals = s.signals := rfl
@[simp] theorem claimMet_window (s : State) : (s.claimMet).window = s.window := rfl

/-! ### claimRefused -/

@[simp] theorem claimRefused_pending (s : State) : (s.claimRefused).pending = s.pending := rfl
@[simp] theorem claimRefused_now (s : State) : (s.claimRefused).now = s.now := rfl
@[simp] theorem claimRefused_draws (s : State) : (s.claimRefused).draws = s.draws := rfl
@[simp] theorem claimRefused_lastRequest (s : State) : (s.claimRefused).lastRequest = s.lastRequest := rfl
@[simp] theorem claimRefused_pos (s : State) : (s.claimRefused).pos = s.pos := rfl
@[simp] theorem claimRefused_taps (s : State) : (s.claimRefused).taps = s.taps := rfl
@[simp] theorem claimRefused_freeLow (s : State) : (s.claimRefused).freeLow = s.freeLow := rfl
@[simp] theorem claimRefused_trunk (s : State) : (s.claimRefused).trunk = s.trunk := rfl
@[simp] theorem claimRefused_tx (s : State) : (s.claimRefused).tx = s.tx := rfl
@[simp] theorem claimRefused_mem (s : State) : (s.claimRefused).mem = s.mem := rfl
@[simp] theorem claimRefused_frames (s : State) : (s.claimRefused).frames = s.frames := rfl
@[simp] theorem claimRefused_delivery (s : State) : (s.claimRefused).delivery = s.delivery := rfl
@[simp] theorem claimRefused_records (s : State) : (s.claimRefused).records = s.records := rfl
@[simp] theorem claimRefused_signals (s : State) : (s.claimRefused).signals = s.signals := rfl
@[simp] theorem claimRefused_window (s : State) : (s.claimRefused).window = s.window := rfl

/-! ### setTap -/

@[simp] theorem setTap_pending (s : State) (t : Tap) (x : TapState) : (s.setTap t x).pending = s.pending := rfl
@[simp] theorem setTap_now (s : State) (t : Tap) (x : TapState) : (s.setTap t x).now = s.now := rfl
@[simp] theorem setTap_draws (s : State) (t : Tap) (x : TapState) : (s.setTap t x).draws = s.draws := rfl
@[simp] theorem setTap_lastRequest (s : State) (t : Tap) (x : TapState) :
    (s.setTap t x).lastRequest = s.lastRequest := rfl
@[simp] theorem setTap_pos (s : State) (t : Tap) (x : TapState) : (s.setTap t x).pos = s.pos := rfl
@[simp] theorem setTap_taps (s : State) (t : Tap) (x : TapState) : (s.setTap t x).taps = s.taps.set t x := rfl
@[simp] theorem setTap_freeLow (s : State) (t : Tap) (x : TapState) : (s.setTap t x).freeLow = s.freeLow := rfl
@[simp] theorem setTap_trunk (s : State) (t : Tap) (x : TapState) : (s.setTap t x).trunk = s.trunk := rfl
@[simp] theorem setTap_tx (s : State) (t : Tap) (x : TapState) : (s.setTap t x).tx = s.tx := rfl
@[simp] theorem setTap_mem (s : State) (t : Tap) (x : TapState) : (s.setTap t x).mem = s.mem := rfl
@[simp] theorem setTap_frames (s : State) (t : Tap) (x : TapState) : (s.setTap t x).frames = s.frames := rfl
@[simp] theorem setTap_delivery (s : State) (t : Tap) (x : TapState) : (s.setTap t x).delivery = s.delivery := rfl
@[simp] theorem setTap_records (s : State) (t : Tap) (x : TapState) : (s.setTap t x).records = s.records := rfl
@[simp] theorem setTap_signals (s : State) (t : Tap) (x : TapState) : (s.setTap t x).signals = s.signals := rfl
@[simp] theorem setTap_window (s : State) (t : Tap) (x : TapState) : (s.setTap t x).window = s.window := rfl
@[simp] theorem setTap_ctr (s : State) (t : Tap) (x : TapState) : (s.setTap t x).ctr = s.ctr := rfl

/-! ### slotTaken -/

@[simp] theorem slotTaken_pending (s : State) : (s.slotTaken).pending = s.pending := rfl
@[simp] theorem slotTaken_now (s : State) : (s.slotTaken).now = s.now := rfl
@[simp] theorem slotTaken_draws (s : State) : (s.slotTaken).draws = s.draws + 1 := rfl
@[simp] theorem slotTaken_lastRequest (s : State) : (s.slotTaken).lastRequest = s.lastRequest := rfl
@[simp] theorem slotTaken_pos (s : State) : (s.slotTaken).pos = s.pos := rfl
@[simp] theorem slotTaken_taps (s : State) : (s.slotTaken).taps = s.taps := rfl
@[simp] theorem slotTaken_freeLow (s : State) : (s.slotTaken).freeLow = min s.freeLow s.freeCount := rfl
@[simp] theorem slotTaken_trunk (s : State) : (s.slotTaken).trunk = s.trunk := rfl
@[simp] theorem slotTaken_tx (s : State) : (s.slotTaken).tx = s.tx := rfl
@[simp] theorem slotTaken_mem (s : State) : (s.slotTaken).mem = s.mem := rfl
@[simp] theorem slotTaken_frames (s : State) : (s.slotTaken).frames = s.frames := rfl
@[simp] theorem slotTaken_delivery (s : State) : (s.slotTaken).delivery = s.delivery := rfl
@[simp] theorem slotTaken_records (s : State) : (s.slotTaken).records = s.records := rfl
@[simp] theorem slotTaken_signals (s : State) : (s.slotTaken).signals = s.signals := rfl
@[simp] theorem slotTaken_window (s : State) : (s.slotTaken).window = s.window := rfl
@[simp] theorem slotTaken_ctr (s : State) : (s.slotTaken).ctr = s.ctr := rfl

/-! ### setSlot -/

@[simp] theorem setSlot_pending (s : State) (i : Fin 8) (x : Slot) : (s.setSlot i x).pending = s.pending := rfl
@[simp] theorem setSlot_now (s : State) (i : Fin 8) (x : Slot) : (s.setSlot i x).now = s.now := rfl
@[simp] theorem setSlot_draws (s : State) (i : Fin 8) (x : Slot) : (s.setSlot i x).draws = s.draws := rfl
@[simp] theorem setSlot_lastRequest (s : State) (i : Fin 8) (x : Slot) :
    (s.setSlot i x).lastRequest = s.lastRequest := rfl
@[simp] theorem setSlot_pos (s : State) (i : Fin 8) (x : Slot) : (s.setSlot i x).pos = s.pos := rfl
@[simp] theorem setSlot_taps (s : State) (i : Fin 8) (x : Slot) : (s.setSlot i x).taps = s.taps := rfl
@[simp] theorem setSlot_freeLow (s : State) (i : Fin 8) (x : Slot) : (s.setSlot i x).freeLow = s.freeLow := rfl
@[simp] theorem setSlot_trunk (s : State) (i : Fin 8) (x : Slot) : (s.setSlot i x).trunk = s.trunk := rfl
@[simp] theorem setSlot_tx (s : State) (i : Fin 8) (x : Slot) : (s.setSlot i x).tx = s.tx := rfl
@[simp] theorem setSlot_mem (s : State) (i : Fin 8) (x : Slot) : (s.setSlot i x).mem = s.mem := rfl
@[simp] theorem setSlot_frames (s : State) (i : Fin 8) (x : Slot) :
    (s.setSlot i x).frames = { s.frames with slots := s.frames.slots.set i x } := rfl
@[simp] theorem setSlot_delivery (s : State) (i : Fin 8) (x : Slot) : (s.setSlot i x).delivery = s.delivery := rfl
@[simp] theorem setSlot_records (s : State) (i : Fin 8) (x : Slot) : (s.setSlot i x).records = s.records := rfl
@[simp] theorem setSlot_signals (s : State) (i : Fin 8) (x : Slot) : (s.setSlot i x).signals = s.signals := rfl
@[simp] theorem setSlot_window (s : State) (i : Fin 8) (x : Slot) : (s.setSlot i x).window = s.window := rfl
@[simp] theorem setSlot_ctr (s : State) (i : Fin 8) (x : Slot) : (s.setSlot i x).ctr = s.ctr := rfl

/-! ### setOutputState -/

@[simp] theorem setOutputState_pending (s : State) (j : Fin 4) (o : Output) :
    (s.setOutputState j o).pending = s.pending := rfl
@[simp] theorem setOutputState_now (s : State) (j : Fin 4) (o : Output) : (s.setOutputState j o).now = s.now := rfl
@[simp] theorem setOutputState_draws (s : State) (j : Fin 4) (o : Output) :
    (s.setOutputState j o).draws = s.draws := rfl
@[simp] theorem setOutputState_lastRequest (s : State) (j : Fin 4) (o : Output) :
    (s.setOutputState j o).lastRequest = s.lastRequest := rfl
@[simp] theorem setOutputState_pos (s : State) (j : Fin 4) (o : Output) : (s.setOutputState j o).pos = s.pos := rfl
@[simp] theorem setOutputState_taps (s : State) (j : Fin 4) (o : Output) : (s.setOutputState j o).taps = s.taps := rfl
@[simp] theorem setOutputState_freeLow (s : State) (j : Fin 4) (o : Output) :
    (s.setOutputState j o).freeLow = s.freeLow := rfl
@[simp] theorem setOutputState_trunk (s : State) (j : Fin 4) (o : Output) :
    (s.setOutputState j o).trunk = s.trunk := rfl
@[simp] theorem setOutputState_tx (s : State) (j : Fin 4) (o : Output) : (s.setOutputState j o).tx = s.tx := rfl
@[simp] theorem setOutputState_mem (s : State) (j : Fin 4) (o : Output) : (s.setOutputState j o).mem = s.mem := rfl
@[simp] theorem setOutputState_frames (s : State) (j : Fin 4) (o : Output) :
    (s.setOutputState j o).frames = s.frames := rfl
@[simp] theorem setOutputState_delivery (s : State) (j : Fin 4) (o : Output) :
    (s.setOutputState j o).delivery = s.delivery := rfl
@[simp] theorem setOutputState_records (s : State) (j : Fin 4) (o : Output) :
    (s.setOutputState j o).records = s.records := rfl
@[simp] theorem setOutputState_signals (s : State) (j : Fin 4) (o : Output) :
    (s.setOutputState j o).signals = { s.signals with outputs := s.signals.outputs.set j o } := rfl
@[simp] theorem setOutputState_window (s : State) (j : Fin 4) (o : Output) :
    (s.setOutputState j o).window = s.window := rfl
@[simp] theorem setOutputState_ctr (s : State) (j : Fin 4) (o : Output) : (s.setOutputState j o).ctr = s.ctr := rfl

/-! ### setFiltered -/

@[simp] theorem setFiltered_pending (s : State) (i : Fin 4) (b : Bool) :
    (s.setFiltered i b).pending = s.pending := rfl
@[simp] theorem setFiltered_now (s : State) (i : Fin 4) (b : Bool) : (s.setFiltered i b).now = s.now := rfl
@[simp] theorem setFiltered_draws (s : State) (i : Fin 4) (b : Bool) : (s.setFiltered i b).draws = s.draws := rfl
@[simp] theorem setFiltered_lastRequest (s : State) (i : Fin 4) (b : Bool) :
    (s.setFiltered i b).lastRequest = s.lastRequest := rfl
@[simp] theorem setFiltered_pos (s : State) (i : Fin 4) (b : Bool) : (s.setFiltered i b).pos = s.pos := rfl
@[simp] theorem setFiltered_taps (s : State) (i : Fin 4) (b : Bool) : (s.setFiltered i b).taps = s.taps := rfl
@[simp] theorem setFiltered_freeLow (s : State) (i : Fin 4) (b : Bool) :
    (s.setFiltered i b).freeLow = s.freeLow := rfl
@[simp] theorem setFiltered_trunk (s : State) (i : Fin 4) (b : Bool) : (s.setFiltered i b).trunk = s.trunk := rfl
@[simp] theorem setFiltered_tx (s : State) (i : Fin 4) (b : Bool) : (s.setFiltered i b).tx = s.tx := rfl
@[simp] theorem setFiltered_mem (s : State) (i : Fin 4) (b : Bool) : (s.setFiltered i b).mem = s.mem := rfl
@[simp] theorem setFiltered_frames (s : State) (i : Fin 4) (b : Bool) : (s.setFiltered i b).frames = s.frames := rfl
@[simp] theorem setFiltered_delivery (s : State) (i : Fin 4) (b : Bool) :
    (s.setFiltered i b).delivery = s.delivery := rfl
@[simp] theorem setFiltered_records (s : State) (i : Fin 4) (b : Bool) :
    (s.setFiltered i b).records = s.records := rfl
@[simp] theorem setFiltered_window (s : State) (i : Fin 4) (b : Bool) : (s.setFiltered i b).window = s.window := rfl
@[simp] theorem setFiltered_ctr (s : State) (i : Fin 4) (b : Bool) : (s.setFiltered i b).ctr = s.ctr := rfl
@[simp] theorem setFiltered_signals (s : State) (i : Fin 4) (b : Bool) :
    (s.setFiltered i b).signals = { s.signals with filtered := s.signals.filtered.set i (some b) } := rfl

/-! ### takeSample -/

@[simp] theorem takeSample_pending (s : State) (i : Fin 4) (b : Bool) :
    (s.takeSample i b).pending = s.pending := rfl
@[simp] theorem takeSample_now (s : State) (i : Fin 4) (b : Bool) : (s.takeSample i b).now = s.now := rfl
@[simp] theorem takeSample_draws (s : State) (i : Fin 4) (b : Bool) : (s.takeSample i b).draws = s.draws := rfl
@[simp] theorem takeSample_lastRequest (s : State) (i : Fin 4) (b : Bool) :
    (s.takeSample i b).lastRequest = s.lastRequest := rfl
@[simp] theorem takeSample_pos (s : State) (i : Fin 4) (b : Bool) : (s.takeSample i b).pos = s.pos := rfl
@[simp] theorem takeSample_taps (s : State) (i : Fin 4) (b : Bool) : (s.takeSample i b).taps = s.taps := rfl
@[simp] theorem takeSample_freeLow (s : State) (i : Fin 4) (b : Bool) :
    (s.takeSample i b).freeLow = s.freeLow := rfl
@[simp] theorem takeSample_trunk (s : State) (i : Fin 4) (b : Bool) : (s.takeSample i b).trunk = s.trunk := rfl
@[simp] theorem takeSample_tx (s : State) (i : Fin 4) (b : Bool) : (s.takeSample i b).tx = s.tx := rfl
@[simp] theorem takeSample_mem (s : State) (i : Fin 4) (b : Bool) : (s.takeSample i b).mem = s.mem := rfl
@[simp] theorem takeSample_frames (s : State) (i : Fin 4) (b : Bool) : (s.takeSample i b).frames = s.frames := rfl
@[simp] theorem takeSample_delivery (s : State) (i : Fin 4) (b : Bool) :
    (s.takeSample i b).delivery = s.delivery := rfl
@[simp] theorem takeSample_records (s : State) (i : Fin 4) (b : Bool) :
    (s.takeSample i b).records = s.records := rfl
@[simp] theorem takeSample_window (s : State) (i : Fin 4) (b : Bool) : (s.takeSample i b).window = s.window := rfl
@[simp] theorem takeSample_ctr (s : State) (i : Fin 4) (b : Bool) : (s.takeSample i b).ctr = s.ctr := rfl
@[simp] theorem takeSample_signals (s : State) (i : Fin 4) (b : Bool) :
    (s.takeSample i b).signals
      = { s.signals with sampled := s.signals.sampled.set i (some (Sample.next s.signals.sampled[i] b s.now)) } := rfl

@[simp] theorem Sample.next_level (old : Option Sample) (level : Bool) (now : Moment) :
    (Sample.next old level now).level = level := by cases old <;> rfl
@[simp] theorem Sample.next_shown (old : Option Sample) (level : Bool) (now : Moment) :
    (Sample.next old level now).shown = now := by cases old <;> rfl
@[simp] theorem Sample.next_none_since (level : Bool) (now : Moment) : (Sample.next none level now).since = now := rfl
@[simp] theorem Sample.next_some_since (x : Sample) (level : Bool) (now : Moment) :
    (Sample.next (some x) level now).since = if x.level = level then x.since else x.shown := rfl

/-- The filter passes a level that has just been sampled when no sample within the filter time showed the other (R158). -/
theorem filterPassed_takeSample (s : State) (i : Fin 4) (b : Bool) :
    (s.takeSample i b).filterPassed i = true
      ↔ (Sample.next s.signals.sampled[i] b s.now).since + cfgInputFilter s.area i ≤ s.now := by
  simp only [State.filterPassed, takeSample_signals, takeSample_now, takeSample_window, State.area, Fin.getElem_fin,
    Vector.getElem_set_self, Option.any_some]
  exact decide_eq_true_iff

/-! ### Heads that are kept -/

/-- Where the head is not to be discarded, nothing is (R128). -/
theorem discardHeads_of_kept (t : Tap) (lines : List Line) (s : State)
    (h : ∀ l, lines.head? = some l → ∀ why, s.headDecision l ≠ .discard why) : State.discardHeads t lines s = s := by
  cases lines with
  | nil => rfl
  | cons l rest =>
    simp only [State.discardHeads]
    split
    · next why hd => exact absurd hd (h l rfl why)
    · rfl
    · rfl

/-! ### setLines -/

@[simp] theorem setLines_pending (s : State) (t : Tap) (l : List Line) : (s.setLines t l).pending = s.pending := rfl
@[simp] theorem setLines_now (s : State) (t : Tap) (l : List Line) : (s.setLines t l).now = s.now := rfl
@[simp] theorem setLines_draws (s : State) (t : Tap) (l : List Line) : (s.setLines t l).draws = s.draws := rfl
@[simp] theorem setLines_lastRequest (s : State) (t : Tap) (l : List Line) :
    (s.setLines t l).lastRequest = s.lastRequest := rfl
@[simp] theorem setLines_pos (s : State) (t : Tap) (l : List Line) : (s.setLines t l).pos = s.pos := rfl
@[simp] theorem setLines_taps (s : State) (t : Tap) (l : List Line) :
    (s.setLines t l).taps = s.taps.set t { s.taps[t] with lines := l } := rfl
@[simp] theorem setLines_freeLow (s : State) (t : Tap) (l : List Line) : (s.setLines t l).freeLow = s.freeLow := rfl
@[simp] theorem setLines_trunk (s : State) (t : Tap) (l : List Line) : (s.setLines t l).trunk = s.trunk := rfl
@[simp] theorem setLines_tx (s : State) (t : Tap) (l : List Line) : (s.setLines t l).tx = s.tx := rfl
@[simp] theorem setLines_mem (s : State) (t : Tap) (l : List Line) : (s.setLines t l).mem = s.mem := rfl
@[simp] theorem setLines_frames (s : State) (t : Tap) (l : List Line) : (s.setLines t l).frames = s.frames := rfl
@[simp] theorem setLines_delivery (s : State) (t : Tap) (l : List Line) :
    (s.setLines t l).delivery = s.delivery := rfl
@[simp] theorem setLines_records (s : State) (t : Tap) (l : List Line) : (s.setLines t l).records = s.records := rfl
@[simp] theorem setLines_signals (s : State) (t : Tap) (l : List Line) : (s.setLines t l).signals = s.signals := rfl
@[simp] theorem setLines_window (s : State) (t : Tap) (l : List Line) : (s.setLines t l).window = s.window := rfl
@[simp] theorem setLines_ctr (s : State) (t : Tap) (l : List Line) : (s.setLines t l).ctr = s.ctr := rfl

/-! ### setPort -/

@[simp] theorem setPort_pending (s : State) (t : Tap) (p : LinePort) : (s.setPort t p).pending = s.pending := rfl
@[simp] theorem setPort_now (s : State) (t : Tap) (p : LinePort) : (s.setPort t p).now = s.now := rfl
@[simp] theorem setPort_draws (s : State) (t : Tap) (p : LinePort) : (s.setPort t p).draws = s.draws := rfl
@[simp] theorem setPort_lastRequest (s : State) (t : Tap) (p : LinePort) :
    (s.setPort t p).lastRequest = s.lastRequest := rfl
@[simp] theorem setPort_pos (s : State) (t : Tap) (p : LinePort) : (s.setPort t p).pos = s.pos := rfl
@[simp] theorem setPort_taps (s : State) (t : Tap) (p : LinePort) :
    (s.setPort t p).taps = s.taps.set t { s.taps[t] with port := p } := rfl
@[simp] theorem setPort_freeLow (s : State) (t : Tap) (p : LinePort) : (s.setPort t p).freeLow = s.freeLow := rfl
@[simp] theorem setPort_trunk (s : State) (t : Tap) (p : LinePort) : (s.setPort t p).trunk = s.trunk := rfl
@[simp] theorem setPort_tx (s : State) (t : Tap) (p : LinePort) : (s.setPort t p).tx = s.tx := rfl
@[simp] theorem setPort_mem (s : State) (t : Tap) (p : LinePort) : (s.setPort t p).mem = s.mem := rfl
@[simp] theorem setPort_frames (s : State) (t : Tap) (p : LinePort) : (s.setPort t p).frames = s.frames := rfl
@[simp] theorem setPort_delivery (s : State) (t : Tap) (p : LinePort) : (s.setPort t p).delivery = s.delivery := rfl
@[simp] theorem setPort_records (s : State) (t : Tap) (p : LinePort) : (s.setPort t p).records = s.records := rfl
@[simp] theorem setPort_signals (s : State) (t : Tap) (p : LinePort) : (s.setPort t p).signals = s.signals := rfl
@[simp] theorem setPort_window (s : State) (t : Tap) (p : LinePort) : (s.setPort t p).window = s.window := rfl
@[simp] theorem setPort_ctr (s : State) (t : Tap) (p : LinePort) : (s.setPort t p).ctr = s.ctr := rfl

/-! ### setWaiting -/

@[simp] theorem setWaiting_pending (s : State) (t : Tap) (b : Bool) : (s.setWaiting t b).pending = s.pending := rfl
@[simp] theorem setWaiting_now (s : State) (t : Tap) (b : Bool) : (s.setWaiting t b).now = s.now := rfl
@[simp] theorem setWaiting_draws (s : State) (t : Tap) (b : Bool) : (s.setWaiting t b).draws = s.draws := rfl
@[simp] theorem setWaiting_lastRequest (s : State) (t : Tap) (b : Bool) :
    (s.setWaiting t b).lastRequest = s.lastRequest := rfl
@[simp] theorem setWaiting_pos (s : State) (t : Tap) (b : Bool) : (s.setWaiting t b).pos = s.pos := rfl
@[simp] theorem setWaiting_taps (s : State) (t : Tap) (b : Bool) : (s.setWaiting t b).taps = s.taps := rfl
@[simp] theorem setWaiting_freeLow (s : State) (t : Tap) (b : Bool) : (s.setWaiting t b).freeLow = s.freeLow := rfl
@[simp] theorem setWaiting_trunk (s : State) (t : Tap) (b : Bool) : (s.setWaiting t b).trunk = s.trunk := rfl
@[simp] theorem setWaiting_tx (s : State) (t : Tap) (b : Bool) : (s.setWaiting t b).tx = s.tx := rfl
@[simp] theorem setWaiting_mem (s : State) (t : Tap) (b : Bool) : (s.setWaiting t b).mem = s.mem := rfl
@[simp] theorem setWaiting_frames (s : State) (t : Tap) (b : Bool) : (s.setWaiting t b).frames = s.frames := rfl
@[simp] theorem setWaiting_delivery (s : State) (t : Tap) (b : Bool) :
    (s.setWaiting t b).delivery = { s.delivery with waiting := s.delivery.waiting.set t b } := rfl
@[simp] theorem setWaiting_records (s : State) (t : Tap) (b : Bool) : (s.setWaiting t b).records = s.records := rfl
@[simp] theorem setWaiting_signals (s : State) (t : Tap) (b : Bool) : (s.setWaiting t b).signals = s.signals := rfl
@[simp] theorem setWaiting_window (s : State) (t : Tap) (b : Bool) : (s.setWaiting t b).window = s.window := rfl
@[simp] theorem setWaiting_ctr (s : State) (t : Tap) (b : Bool) : (s.setWaiting t b).ctr = s.ctr := rfl

/-! ### setTurn -/

@[simp] theorem setTurn_pending (s : State) (tu : Option Turn) : (s.setTurn tu).pending = s.pending := rfl
@[simp] theorem setTurn_now (s : State) (tu : Option Turn) : (s.setTurn tu).now = s.now := rfl
@[simp] theorem setTurn_draws (s : State) (tu : Option Turn) : (s.setTurn tu).draws = s.draws := rfl
@[simp] theorem setTurn_lastRequest (s : State) (tu : Option Turn) : (s.setTurn tu).lastRequest = s.lastRequest := rfl
@[simp] theorem setTurn_pos (s : State) (tu : Option Turn) : (s.setTurn tu).pos = s.pos := rfl
@[simp] theorem setTurn_taps (s : State) (tu : Option Turn) : (s.setTurn tu).taps = s.taps := rfl
@[simp] theorem setTurn_freeLow (s : State) (tu : Option Turn) : (s.setTurn tu).freeLow = s.freeLow := rfl
@[simp] theorem setTurn_trunk (s : State) (tu : Option Turn) : (s.setTurn tu).trunk = s.trunk := rfl
@[simp] theorem setTurn_tx (s : State) (tu : Option Turn) : (s.setTurn tu).tx = s.tx := rfl
@[simp] theorem setTurn_mem (s : State) (tu : Option Turn) : (s.setTurn tu).mem = s.mem := rfl
@[simp] theorem setTurn_frames (s : State) (tu : Option Turn) : (s.setTurn tu).frames = s.frames := rfl
@[simp] theorem setTurn_delivery (s : State) (tu : Option Turn) :
    (s.setTurn tu).delivery = { s.delivery with turn := tu } := rfl
@[simp] theorem setTurn_records (s : State) (tu : Option Turn) : (s.setTurn tu).records = s.records := rfl
@[simp] theorem setTurn_signals (s : State) (tu : Option Turn) : (s.setTurn tu).signals = s.signals := rfl
@[simp] theorem setTurn_window (s : State) (tu : Option Turn) : (s.setTurn tu).window = s.window := rfl
@[simp] theorem setTurn_ctr (s : State) (tu : Option Turn) : (s.setTurn tu).ctr = s.ctr := rfl

/-! ### setHandled -/

@[simp] theorem setHandled_pending (s : State) (t : Tap) (n : Nat) : (s.setHandled t n).pending = s.pending := rfl
@[simp] theorem setHandled_now (s : State) (t : Tap) (n : Nat) : (s.setHandled t n).now = s.now := rfl
@[simp] theorem setHandled_draws (s : State) (t : Tap) (n : Nat) : (s.setHandled t n).draws = s.draws := rfl
@[simp] theorem setHandled_lastRequest (s : State) (t : Tap) (n : Nat) :
    (s.setHandled t n).lastRequest = s.lastRequest := rfl
@[simp] theorem setHandled_pos (s : State) (t : Tap) (n : Nat) : (s.setHandled t n).pos = s.pos := rfl
@[simp] theorem setHandled_taps (s : State) (t : Tap) (n : Nat) : (s.setHandled t n).taps = s.taps := rfl
@[simp] theorem setHandled_freeLow (s : State) (t : Tap) (n : Nat) : (s.setHandled t n).freeLow = s.freeLow := rfl
@[simp] theorem setHandled_trunk (s : State) (t : Tap) (n : Nat) : (s.setHandled t n).trunk = s.trunk := rfl
@[simp] theorem setHandled_tx (s : State) (t : Tap) (n : Nat) : (s.setHandled t n).tx = s.tx := rfl
@[simp] theorem setHandled_mem (s : State) (t : Tap) (n : Nat) : (s.setHandled t n).mem = s.mem := rfl
@[simp] theorem setHandled_frames (s : State) (t : Tap) (n : Nat) : (s.setHandled t n).frames = s.frames := rfl
@[simp] theorem setHandled_delivery (s : State) (t : Tap) (n : Nat) :
    (s.setHandled t n).delivery = { s.delivery with handled := s.delivery.handled.set t n } := rfl
@[simp] theorem setHandled_records (s : State) (t : Tap) (n : Nat) : (s.setHandled t n).records = s.records := rfl
@[simp] theorem setHandled_signals (s : State) (t : Tap) (n : Nat) : (s.setHandled t n).signals = s.signals := rfl
@[simp] theorem setHandled_window (s : State) (t : Tap) (n : Nat) : (s.setHandled t n).window = s.window := rfl
@[simp] theorem setHandled_ctr (s : State) (t : Tap) (n : Nat) : (s.setHandled t n).ctr = s.ctr := rfl

/-! ### issueFlush -/

@[simp] theorem issueFlush_pending (s : State) : (s.issueFlush).pending = s.pending := rfl
@[simp] theorem issueFlush_now (s : State) : (s.issueFlush).now = s.now := rfl
@[simp] theorem issueFlush_draws (s : State) : (s.issueFlush).draws = s.draws := rfl
@[simp] theorem issueFlush_lastRequest (s : State) :
    (s.issueFlush).lastRequest = some (.flush (s.delivery.flushCount + 1)) := rfl
@[simp] theorem issueFlush_pos (s : State) : (s.issueFlush).pos = s.pos := rfl
@[simp] theorem issueFlush_taps (s : State) : (s.issueFlush).taps = s.taps := rfl
@[simp] theorem issueFlush_freeLow (s : State) : (s.issueFlush).freeLow = s.freeLow := rfl
@[simp] theorem issueFlush_trunk (s : State) : (s.issueFlush).trunk = s.trunk := rfl
@[simp] theorem issueFlush_tx (s : State) : (s.issueFlush).tx = s.tx := rfl
@[simp] theorem issueFlush_mem (s : State) : (s.issueFlush).mem = s.mem := rfl
@[simp] theorem issueFlush_frames (s : State) : (s.issueFlush).frames = s.frames := rfl
@[simp] theorem issueFlush_delivery (s : State) :
    (s.issueFlush).delivery = { s.delivery with flushCount := s.delivery.flushCount + 1 } := rfl
@[simp] theorem issueFlush_records (s : State) : (s.issueFlush).records = s.records := rfl
@[simp] theorem issueFlush_signals (s : State) : (s.issueFlush).signals = s.signals := rfl
@[simp] theorem issueFlush_window (s : State) : (s.issueFlush).window = s.window := rfl

/-! ### issueMessage -/

@[simp] theorem issueMessage_pending (s : State) (a : Nat) (d : Word) :
    (s.issueMessage a d).pending = s.pending := rfl
@[simp] theorem issueMessage_now (s : State) (a : Nat) (d : Word) : (s.issueMessage a d).now = s.now := rfl
@[simp] theorem issueMessage_draws (s : State) (a : Nat) (d : Word) : (s.issueMessage a d).draws = s.draws := rfl
@[simp] theorem issueMessage_lastRequest (s : State) (a : Nat) (d : Word) :
    (s.issueMessage a d).lastRequest = some (.messageWrite a d) := rfl
@[simp] theorem issueMessage_pos (s : State) (a : Nat) (d : Word) : (s.issueMessage a d).pos = s.pos := rfl
@[simp] theorem issueMessage_taps (s : State) (a : Nat) (d : Word) : (s.issueMessage a d).taps = s.taps := rfl
@[simp] theorem issueMessage_freeLow (s : State) (a : Nat) (d : Word) :
    (s.issueMessage a d).freeLow = s.freeLow := rfl
@[simp] theorem issueMessage_trunk (s : State) (a : Nat) (d : Word) : (s.issueMessage a d).trunk = s.trunk := rfl
@[simp] theorem issueMessage_tx (s : State) (a : Nat) (d : Word) : (s.issueMessage a d).tx = s.tx := rfl
@[simp] theorem issueMessage_mem (s : State) (a : Nat) (d : Word) : (s.issueMessage a d).mem = s.mem := rfl
@[simp] theorem issueMessage_frames (s : State) (a : Nat) (d : Word) : (s.issueMessage a d).frames = s.frames := rfl
@[simp] theorem issueMessage_delivery (s : State) (a : Nat) (d : Word) :
    (s.issueMessage a d).delivery = s.delivery := rfl
@[simp] theorem issueMessage_records (s : State) (a : Nat) (d : Word) :
    (s.issueMessage a d).records = s.records := rfl
@[simp] theorem issueMessage_signals (s : State) (a : Nat) (d : Word) :
    (s.issueMessage a d).signals = s.signals := rfl
@[simp] theorem issueMessage_window (s : State) (a : Nat) (d : Word) : (s.issueMessage a d).window = s.window := rfl
@[simp] theorem issueMessage_ctr (s : State) (a : Nat) (d : Word) : (s.issueMessage a d).ctr = s.ctr := rfl

/-! ### setChannel -/

@[simp] theorem setChannel_pending (s : State) (c : Fin 8) (x : Channel) :
    (s.setChannel c x).pending = s.pending := rfl
@[simp] theorem setChannel_now (s : State) (c : Fin 8) (x : Channel) : (s.setChannel c x).now = s.now := rfl
@[simp] theorem setChannel_draws (s : State) (c : Fin 8) (x : Channel) : (s.setChannel c x).draws = s.draws := rfl
@[simp] theorem setChannel_lastRequest (s : State) (c : Fin 8) (x : Channel) :
    (s.setChannel c x).lastRequest = s.lastRequest := rfl
@[simp] theorem setChannel_pos (s : State) (c : Fin 8) (x : Channel) : (s.setChannel c x).pos = s.pos := rfl
@[simp] theorem setChannel_taps (s : State) (c : Fin 8) (x : Channel) : (s.setChannel c x).taps = s.taps := rfl
@[simp] theorem setChannel_freeLow (s : State) (c : Fin 8) (x : Channel) :
    (s.setChannel c x).freeLow = s.freeLow := rfl
@[simp] theorem setChannel_trunk (s : State) (c : Fin 8) (x : Channel) : (s.setChannel c x).trunk = s.trunk := rfl
@[simp] theorem setChannel_tx (s : State) (c : Fin 8) (x : Channel) : (s.setChannel c x).tx = s.tx := rfl
@[simp] theorem setChannel_mem (s : State) (c : Fin 8) (x : Channel) : (s.setChannel c x).mem = s.mem := rfl
@[simp] theorem setChannel_frames (s : State) (c : Fin 8) (x : Channel) :
    (s.setChannel c x).frames = { s.frames with channels := s.frames.channels.set c x } := rfl
@[simp] theorem setChannel_delivery (s : State) (c : Fin 8) (x : Channel) :
    (s.setChannel c x).delivery = s.delivery := rfl
@[simp] theorem setChannel_records (s : State) (c : Fin 8) (x : Channel) :
    (s.setChannel c x).records = s.records := rfl
@[simp] theorem setChannel_signals (s : State) (c : Fin 8) (x : Channel) :
    (s.setChannel c x).signals = s.signals := rfl
@[simp] theorem setChannel_window (s : State) (c : Fin 8) (x : Channel) : (s.setChannel c x).window = s.window := rfl
@[simp] theorem setChannel_ctr (s : State) (c : Fin 8) (x : Channel) : (s.setChannel c x).ctr = s.ctr := rfl

/-! ### setWire -/

@[simp] theorem setWire_pending (s : State) (w : Option Wire) : (s.setWire w).pending = s.pending := rfl
@[simp] theorem setWire_now (s : State) (w : Option Wire) : (s.setWire w).now = s.now := rfl
@[simp] theorem setWire_draws (s : State) (w : Option Wire) : (s.setWire w).draws = s.draws := rfl
@[simp] theorem setWire_lastRequest (s : State) (w : Option Wire) : (s.setWire w).lastRequest = s.lastRequest := rfl
@[simp] theorem setWire_pos (s : State) (w : Option Wire) : (s.setWire w).pos = s.pos := rfl
@[simp] theorem setWire_taps (s : State) (w : Option Wire) : (s.setWire w).taps = s.taps := rfl
@[simp] theorem setWire_freeLow (s : State) (w : Option Wire) : (s.setWire w).freeLow = s.freeLow := rfl
@[simp] theorem setWire_trunk (s : State) (w : Option Wire) : (s.setWire w).trunk = { s.trunk with wire := w } := rfl
@[simp] theorem setWire_tx (s : State) (w : Option Wire) : (s.setWire w).tx = s.tx := rfl
@[simp] theorem setWire_mem (s : State) (w : Option Wire) : (s.setWire w).mem = s.mem := rfl
@[simp] theorem setWire_frames (s : State) (w : Option Wire) : (s.setWire w).frames = s.frames := rfl
@[simp] theorem setWire_delivery (s : State) (w : Option Wire) : (s.setWire w).delivery = s.delivery := rfl
@[simp] theorem setWire_records (s : State) (w : Option Wire) : (s.setWire w).records = s.records := rfl
@[simp] theorem setWire_signals (s : State) (w : Option Wire) : (s.setWire w).signals = s.signals := rfl
@[simp] theorem setWire_window (s : State) (w : Option Wire) : (s.setWire w).window = s.window := rfl
@[simp] theorem setWire_ctr (s : State) (w : Option Wire) : (s.setWire w).ctr = s.ctr := rfl

/-! ### enterQueue -/

@[simp] theorem enterQueue_pending (s : State) (r : Received) : (s.enterQueue r).pending = s.pending := rfl
@[simp] theorem enterQueue_now (s : State) (r : Received) : (s.enterQueue r).now = s.now := rfl
@[simp] theorem enterQueue_draws (s : State) (r : Received) : (s.enterQueue r).draws = s.draws := rfl
@[simp] theorem enterQueue_lastRequest (s : State) (r : Received) :
    (s.enterQueue r).lastRequest = s.lastRequest := rfl
@[simp] theorem enterQueue_pos (s : State) (r : Received) : (s.enterQueue r).pos = s.pos := rfl
@[simp] theorem enterQueue_taps (s : State) (r : Received) : (s.enterQueue r).taps = s.taps := rfl
@[simp] theorem enterQueue_freeLow (s : State) (r : Received) : (s.enterQueue r).freeLow = s.freeLow := rfl
@[simp] theorem enterQueue_trunk (s : State) (r : Received) :
    (s.enterQueue r).trunk = { s.trunk with queue := s.trunk.queue ++ [r] } := rfl
@[simp] theorem enterQueue_tx (s : State) (r : Received) : (s.enterQueue r).tx = s.tx := rfl
@[simp] theorem enterQueue_mem (s : State) (r : Received) : (s.enterQueue r).mem = s.mem := rfl
@[simp] theorem enterQueue_frames (s : State) (r : Received) : (s.enterQueue r).frames = s.frames := rfl
@[simp] theorem enterQueue_delivery (s : State) (r : Received) : (s.enterQueue r).delivery = s.delivery := rfl
@[simp] theorem enterQueue_records (s : State) (r : Received) : (s.enterQueue r).records = s.records := rfl
@[simp] theorem enterQueue_signals (s : State) (r : Received) : (s.enterQueue r).signals = s.signals := rfl
@[simp] theorem enterQueue_window (s : State) (r : Received) : (s.enterQueue r).window = s.window := rfl

/-! ### takeHead -/

@[simp] theorem takeHead_pending (s : State) (rest : List Received) : (s.takeHead rest).pending = s.pending := rfl
@[simp] theorem takeHead_now (s : State) (rest : List Received) : (s.takeHead rest).now = s.now := rfl
@[simp] theorem takeHead_draws (s : State) (rest : List Received) : (s.takeHead rest).draws = s.draws := rfl
@[simp] theorem takeHead_lastRequest (s : State) (rest : List Received) :
    (s.takeHead rest).lastRequest = s.lastRequest := rfl
@[simp] theorem takeHead_pos (s : State) (rest : List Received) : (s.takeHead rest).pos = s.pos := rfl
@[simp] theorem takeHead_taps (s : State) (rest : List Received) : (s.takeHead rest).taps = s.taps := rfl
@[simp] theorem takeHead_freeLow (s : State) (rest : List Received) : (s.takeHead rest).freeLow = s.freeLow := rfl
@[simp] theorem takeHead_tx (s : State) (rest : List Received) : (s.takeHead rest).tx = s.tx := rfl
@[simp] theorem takeHead_mem (s : State) (rest : List Received) : (s.takeHead rest).mem = s.mem := rfl
@[simp] theorem takeHead_frames (s : State) (rest : List Received) : (s.takeHead rest).frames = s.frames := rfl
@[simp] theorem takeHead_delivery (s : State) (rest : List Received) : (s.takeHead rest).delivery = s.delivery := rfl
@[simp] theorem takeHead_records (s : State) (rest : List Received) : (s.takeHead rest).records = s.records := rfl
@[simp] theorem takeHead_signals (s : State) (rest : List Received) : (s.takeHead rest).signals = s.signals := rfl
@[simp] theorem takeHead_window (s : State) (rest : List Received) : (s.takeHead rest).window = s.window := rfl
@[simp] theorem takeHead_ctr (s : State) (rest : List Received) : (s.takeHead rest).ctr = s.ctr := rfl

/-! ### advanceOutputs -/

@[simp] theorem advanceOutputs_pending (s : State) : (s.advanceOutputs).pending = s.pending := rfl
@[simp] theorem advanceOutputs_now (s : State) : (s.advanceOutputs).now = s.now := rfl
@[simp] theorem advanceOutputs_draws (s : State) : (s.advanceOutputs).draws = s.draws := rfl
@[simp] theorem advanceOutputs_lastRequest (s : State) : (s.advanceOutputs).lastRequest = s.lastRequest := rfl
@[simp] theorem advanceOutputs_pos (s : State) : (s.advanceOutputs).pos = s.pos := rfl
@[simp] theorem advanceOutputs_taps (s : State) : (s.advanceOutputs).taps = s.taps := rfl
@[simp] theorem advanceOutputs_freeLow (s : State) : (s.advanceOutputs).freeLow = s.freeLow := rfl
@[simp] theorem advanceOutputs_trunk (s : State) : (s.advanceOutputs).trunk = s.trunk := rfl
@[simp] theorem advanceOutputs_tx (s : State) : (s.advanceOutputs).tx = s.tx := rfl
@[simp] theorem advanceOutputs_mem (s : State) : (s.advanceOutputs).mem = s.mem := rfl
@[simp] theorem advanceOutputs_frames (s : State) : (s.advanceOutputs).frames = s.frames := rfl
@[simp] theorem advanceOutputs_delivery (s : State) : (s.advanceOutputs).delivery = s.delivery := rfl
@[simp] theorem advanceOutputs_records (s : State) : (s.advanceOutputs).records = s.records := rfl
@[simp] theorem advanceOutputs_signals (s : State) :
    (s.advanceOutputs).signals = { s.signals with outputs := s.signals.outputs.map (Output.advance s.pos.lineIndex) } := rfl
@[simp] theorem advanceOutputs_window (s : State) : (s.advanceOutputs).window = s.window := rfl
@[simp] theorem advanceOutputs_ctr (s : State) : (s.advanceOutputs).ctr = s.ctr := rfl

/-! ### fireStrobes -/

@[simp] theorem fireStrobes_pending (s : State) (p : Nat) : (s.fireStrobes p).pending = s.pending := rfl
@[simp] theorem fireStrobes_now (s : State) (p : Nat) : (s.fireStrobes p).now = s.now := rfl
@[simp] theorem fireStrobes_draws (s : State) (p : Nat) : (s.fireStrobes p).draws = s.draws := rfl
@[simp] theorem fireStrobes_lastRequest (s : State) (p : Nat) : (s.fireStrobes p).lastRequest = s.lastRequest := rfl
@[simp] theorem fireStrobes_taps (s : State) (p : Nat) : (s.fireStrobes p).taps = s.taps := rfl
@[simp] theorem fireStrobes_freeLow (s : State) (p : Nat) : (s.fireStrobes p).freeLow = s.freeLow := rfl
@[simp] theorem fireStrobes_trunk (s : State) (p : Nat) : (s.fireStrobes p).trunk = s.trunk := rfl
@[simp] theorem fireStrobes_tx (s : State) (p : Nat) : (s.fireStrobes p).tx = s.tx := rfl
@[simp] theorem fireStrobes_mem (s : State) (p : Nat) : (s.fireStrobes p).mem = s.mem := rfl
@[simp] theorem fireStrobes_frames (s : State) (p : Nat) : (s.fireStrobes p).frames = s.frames := rfl
@[simp] theorem fireStrobes_delivery (s : State) (p : Nat) : (s.fireStrobes p).delivery = s.delivery := rfl
@[simp] theorem fireStrobes_records (s : State) (p : Nat) : (s.fireStrobes p).records = s.records := rfl
@[simp] theorem fireStrobes_signals (s : State) (p : Nat) : (s.fireStrobes p).signals = s.signals := rfl
@[simp] theorem fireStrobes_window (s : State) (p : Nat) : (s.fireStrobes p).window = s.window := rfl
@[simp] theorem fireStrobes_ctr (s : State) (p : Nat) : (s.fireStrobes p).ctr = s.ctr := rfl

/-! ### setFaultLine -/

@[simp] theorem setFaultLine_pending (s : State) (b : Bool) : (s.setFaultLine b).pending = s.pending := rfl
@[simp] theorem setFaultLine_now (s : State) (b : Bool) : (s.setFaultLine b).now = s.now := rfl
@[simp] theorem setFaultLine_draws (s : State) (b : Bool) : (s.setFaultLine b).draws = s.draws := rfl
@[simp] theorem setFaultLine_lastRequest (s : State) (b : Bool) :
    (s.setFaultLine b).lastRequest = s.lastRequest := rfl
@[simp] theorem setFaultLine_pos (s : State) (b : Bool) : (s.setFaultLine b).pos = s.pos := rfl
@[simp] theorem setFaultLine_taps (s : State) (b : Bool) : (s.setFaultLine b).taps = s.taps := rfl
@[simp] theorem setFaultLine_freeLow (s : State) (b : Bool) : (s.setFaultLine b).freeLow = s.freeLow := rfl
@[simp] theorem setFaultLine_trunk (s : State) (b : Bool) : (s.setFaultLine b).trunk = s.trunk := rfl
@[simp] theorem setFaultLine_tx (s : State) (b : Bool) : (s.setFaultLine b).tx = s.tx := rfl
@[simp] theorem setFaultLine_mem (s : State) (b : Bool) : (s.setFaultLine b).mem = s.mem := rfl
@[simp] theorem setFaultLine_frames (s : State) (b : Bool) : (s.setFaultLine b).frames = s.frames := rfl
@[simp] theorem setFaultLine_delivery (s : State) (b : Bool) : (s.setFaultLine b).delivery = s.delivery := rfl
@[simp] theorem setFaultLine_records (s : State) (b : Bool) : (s.setFaultLine b).records = s.records := rfl
@[simp] theorem setFaultLine_signals (s : State) (b : Bool) : (s.setFaultLine b).signals = s.signals := rfl
@[simp] theorem setFaultLine_window (s : State) (b : Bool) :
    (s.setFaultLine b).window = { s.window with tkflt := some b } := rfl
@[simp] theorem setFaultLine_ctr (s : State) (b : Bool) : (s.setFaultLine b).ctr = s.ctr := rfl

/-! ### raiseH -/

@[simp] theorem raiseH_pending (s : State) (k : Nat) : (s.raiseH k).pending = s.pending := rfl
@[simp] theorem raiseH_now (s : State) (k : Nat) : (s.raiseH k).now = s.now := rfl
@[simp] theorem raiseH_draws (s : State) (k : Nat) : (s.raiseH k).draws = s.draws := rfl
@[simp] theorem raiseH_lastRequest (s : State) (k : Nat) : (s.raiseH k).lastRequest = s.lastRequest := rfl
@[simp] theorem raiseH_pos (s : State) (k : Nat) : (s.raiseH k).pos = s.pos := rfl
@[simp] theorem raiseH_taps (s : State) (k : Nat) : (s.raiseH k).taps = s.taps := rfl
@[simp] theorem raiseH_freeLow (s : State) (k : Nat) : (s.raiseH k).freeLow = s.freeLow := rfl
@[simp] theorem raiseH_trunk (s : State) (k : Nat) : (s.raiseH k).trunk = s.trunk := rfl
@[simp] theorem raiseH_tx (s : State) (k : Nat) : (s.raiseH k).tx = s.tx := rfl
@[simp] theorem raiseH_mem (s : State) (k : Nat) : (s.raiseH k).mem = s.mem := rfl
@[simp] theorem raiseH_frames (s : State) (k : Nat) : (s.raiseH k).frames = { s.frames with h := k } := rfl
@[simp] theorem raiseH_delivery (s : State) (k : Nat) : (s.raiseH k).delivery = s.delivery := rfl
@[simp] theorem raiseH_records (s : State) (k : Nat) : (s.raiseH k).records = s.records := rfl
@[simp] theorem raiseH_signals (s : State) (k : Nat) : (s.raiseH k).signals = s.signals := rfl
@[simp] theorem raiseH_window (s : State) (k : Nat) : (s.raiseH k).window = s.window := rfl

/-! ### dropFromRoster -/

@[simp] theorem dropFromRoster_pending (s : State) (p : Station) : (s.dropFromRoster p).pending = s.pending := rfl
@[simp] theorem dropFromRoster_now (s : State) (p : Station) : (s.dropFromRoster p).now = s.now := rfl
@[simp] theorem dropFromRoster_draws (s : State) (p : Station) : (s.dropFromRoster p).draws = s.draws := rfl
@[simp] theorem dropFromRoster_lastRequest (s : State) (p : Station) :
    (s.dropFromRoster p).lastRequest = s.lastRequest := rfl
@[simp] theorem dropFromRoster_pos (s : State) (p : Station) : (s.dropFromRoster p).pos = s.pos := rfl
@[simp] theorem dropFromRoster_taps (s : State) (p : Station) : (s.dropFromRoster p).taps = s.taps := rfl
@[simp] theorem dropFromRoster_freeLow (s : State) (p : Station) : (s.dropFromRoster p).freeLow = s.freeLow := rfl
@[simp] theorem dropFromRoster_trunk (s : State) (p : Station) : (s.dropFromRoster p).trunk = s.trunk := rfl
@[simp] theorem dropFromRoster_tx (s : State) (p : Station) : (s.dropFromRoster p).tx = s.tx := rfl
@[simp] theorem dropFromRoster_mem (s : State) (p : Station) :
    (s.dropFromRoster p).mem = { s.mem with roster := dropStation s.mem.roster p, peers := s.mem.peers.set p none, silence := s.mem.silence.set p .stopped } := rfl
@[simp] theorem dropFromRoster_frames (s : State) (p : Station) : (s.dropFromRoster p).frames = s.frames := rfl
@[simp] theorem dropFromRoster_delivery (s : State) (p : Station) : (s.dropFromRoster p).delivery = s.delivery := rfl
@[simp] theorem dropFromRoster_records (s : State) (p : Station) : (s.dropFromRoster p).records = s.records := rfl
@[simp] theorem dropFromRoster_signals (s : State) (p : Station) : (s.dropFromRoster p).signals = s.signals := rfl
@[simp] theorem dropFromRoster_window (s : State) (p : Station) : (s.dropFromRoster p).window = s.window := rfl
@[simp] theorem dropFromRoster_ctr (s : State) (p : Station) : (s.dropFromRoster p).ctr = s.ctr := rfl

end Sys2Proof.Machine
end

