-- ==== Sys2Proof/Laws/Frame.lean ====
section
/-! SUPPORT. The waiting commands, the moment and the configuration area through every operation of the units. -/

namespace Sys2Proof.Machine

set_option linter.unusedTactic false
set_option linter.unreachableTactic false
set_option linter.unnecessarySeqFocus false

theorem foldl_pending {α : Type} {f : State → α → State} (h : ∀ s a, (f s a).pending = s.pending) (l : List α)
    (s : State) : (l.foldl f s).pending = s.pending := by
  induction l generalizing s with
  | nil => rfl
  | cons a l ih => exact (ih _).trans (h _ _)

theorem foldl_now {α : Type} {f : State → α → State} (h : ∀ s a, (f s a).now = s.now) (l : List α)
    (s : State) : (l.foldl f s).now = s.now := by
  induction l generalizing s with
  | nil => rfl
  | cons a l ih => exact (ih _).trans (h _ _)

theorem foldl_area {α : Type} {f : State → α → State} (h : ∀ s a, (f s a).window.area = s.window.area) (l : List α)
    (s : State) : (l.foldl f s).window.area = s.window.area := by
  induction l generalizing s with
  | nil => rfl
  | cons a l ih => exact (ih _).trans (h _ _)

@[simp] theorem bump_area (s : State) (f : Counters → Counters) : (s.bump f).window.area = s.window.area := rfl
@[simp] theorem present_area (s : State) (r : PortRequest) : (s.present r).window.area = s.window.area := rfl
@[simp] theorem notice_pending (s : State) : (s.notice).pending = s.pending := by unfold State.notice; split <;> simp
@[simp] theorem notice_now (s : State) : (s.notice).now = s.now := by unfold State.notice; split <;> simp
@[simp] theorem notice_area (s : State) :
    (s.notice).window.area = s.window.area := by unfold State.notice; split <;> simp
@[simp] theorem event_pending (s : State) (k : EventKind) :
    (s.event k).pending = s.pending := by unfold State.event; split <;> simp
@[simp] theorem event_now (s : State) (k : EventKind) :
    (s.event k).now = s.now := by unfold State.event; split <;> simp
@[simp] theorem event_area (s : State) (k : EventKind) :
    (s.event k).window.area = s.window.area := by unfold State.event; split <;> simp
@[simp] theorem eventNoticed_pending (s : State) (k : EventKind) (enabled : Bool) :
    (s.eventNoticed k enabled).pending = s.pending := by unfold State.eventNoticed; split <;> simp
@[simp] theorem eventNoticed_now (s : State) (k : EventKind) (enabled : Bool) :
    (s.eventNoticed k enabled).now = s.now := by unfold State.eventNoticed; split <;> simp
@[simp] theorem eventNoticed_area (s : State) (k : EventKind) (enabled : Bool) :
    (s.eventNoticed k enabled).window.area = s.window.area := by unfold State.eventNoticed; split <;> simp
@[simp] theorem raise_pending (s : State) (k : FaultKind) :
    (s.raise k).pending = s.pending := by unfold State.raise; split <;> simp
@[simp] theorem raise_now (s : State) (k : FaultKind) :
    (s.raise k).now = s.now := by unfold State.raise; split <;> simp
@[simp] theorem raise_area (s : State) (k : FaultKind) :
    (s.raise k).window.area = s.window.area := by unfold State.raise; split <;> simp
@[simp] theorem clearFault_area (s : State) (k : FaultKind) : (s.clearFault k).window.area = s.window.area := rfl
@[simp] theorem changeState_pending (s : State) (st : StationState) :
    (s.changeState st).pending = s.pending := by simp [State.changeState]
@[simp] theorem changeState_now (s : State) (st : StationState) :
    (s.changeState st).now = s.now := by simp [State.changeState]
@[simp] theorem changeState_area (s : State) (st : StationState) :
    (s.changeState st).window.area = s.window.area := by simp [State.changeState]
@[simp] theorem answer_area (s : State) (code : Byte) (r : Result) (value : Word) :
    (s.answer code r value).window.area = s.window.area := rfl
@[simp] theorem collide_area (s : State) : (s.collide).window.area = s.window.area := rfl
@[simp] theorem setPending_area (s : State) (k : NoteKind) (l : List Pending) :
    (s.setPending k l).window.area = s.window.area := rfl
@[simp] theorem joinList_area (s : State) (c : Claim) : (s.joinList c).window.area = s.window.area := rfl
@[simp] theorem claimMet_area (s : State) : (s.claimMet).window.area = s.window.area := rfl
@[simp] theorem claimRefused_area (s : State) : (s.claimRefused).window.area = s.window.area := rfl
@[simp] theorem claimFifo_pending (s : State) (c : Claim) :
    (s.claimFifo c).pending = s.pending := by unfold State.claimFifo; split <;> simp
@[simp] theorem claimFifo_now (s : State) (c : Claim) :
    (s.claimFifo c).now = s.now := by unfold State.claimFifo; split <;> simp
@[simp] theorem claimFifo_area (s : State) (c : Claim) :
    (s.claimFifo c).window.area = s.window.area := by unfold State.claimFifo; split <;> simp
@[simp] theorem claimDrop_pending (s : State) (p : Station) :
    (s.claimDrop p).pending = s.pending := by unfold State.claimDrop; split <;> simp
@[simp] theorem claimDrop_now (s : State) (p : Station) :
    (s.claimDrop p).now = s.now := by unfold State.claimDrop; split <;> simp
@[simp] theorem claimDrop_area (s : State) (p : Station) :
    (s.claimDrop p).window.area = s.window.area := by unfold State.claimDrop; split <;> simp
@[simp] theorem claimRoll_pending (s : State) :
    (s.claimRoll).pending = s.pending := by unfold State.claimRoll; split <;> simp
@[simp] theorem claimRoll_now (s : State) : (s.claimRoll).now = s.now := by unfold State.claimRoll; split <;> simp
@[simp] theorem claimRoll_area (s : State) :
    (s.claimRoll).window.area = s.window.area := by unfold State.claimRoll; split <;> simp
@[simp] theorem lostGrantBy_pending (s : State) (c : Claim) :
    (s.lostGrantBy c).pending = s.pending := by unfold State.lostGrantBy; split <;> simp
@[simp] theorem lostGrantBy_now (s : State) (c : Claim) :
    (s.lostGrantBy c).now = s.now := by unfold State.lostGrantBy; split <;> simp
@[simp] theorem lostGrantBy_area (s : State) (c : Claim) :
    (s.lostGrantBy c).window.area = s.window.area := by unfold State.lostGrantBy; split <;> simp
@[simp] theorem withdrawn_pending (s : State) (n : Pending) (byReset : Bool) :
    (s.withdrawn n byReset).pending = s.pending := by unfold State.withdrawn; split <;> simp
@[simp] theorem withdrawn_now (s : State) (n : Pending) (byReset : Bool) :
    (s.withdrawn n byReset).now = s.now := by unfold State.withdrawn; split <;> simp
@[simp] theorem withdrawn_area (s : State) (n : Pending) (byReset : Bool) :
    (s.withdrawn n byReset).window.area = s.window.area := by unfold State.withdrawn; split <;> simp
@[simp] theorem claimOpening_pending (s : State) (k : Nat) :
    (s.claimOpening k).pending = s.pending := by unfold State.claimOpening; (repeat' split) <;> simp
@[simp] theorem claimOpening_now (s : State) (k : Nat) :
    (s.claimOpening k).now = s.now := by unfold State.claimOpening; (repeat' split) <;> simp
@[simp] theorem claimOpening_area (s : State) (k : Nat) :
    (s.claimOpening k).window.area = s.window.area := by unfold State.claimOpening; (repeat' split) <;> simp
@[simp] theorem claimRoster_pending (s : State) (c : Claim) :
    (s.claimRoster c).pending = s.pending := by unfold State.claimRoster; (repeat' split) <;> simp
@[simp] theorem claimRoster_now (s : State) (c : Claim) :
    (s.claimRoster c).now = s.now := by unfold State.claimRoster; (repeat' split) <;> simp
@[simp] theorem claimRoster_area (s : State) (c : Claim) :
    (s.claimRoster c).window.area = s.window.area := by unfold State.claimRoster; (repeat' split) <;> simp
@[simp] theorem withdrawFrom_pending (s : State) (k : NoteKind) (doom : Doom) (hit : Pending → Bool) :
    (s.withdrawFrom k doom hit).pending = s.pending := by
  unfold State.withdrawFrom; try dsimp only
  repeat' split
  all_goals try simp
  all_goals try (refine (foldl_pending ?_ _ _).trans ?_ <;> (repeat' (first | intro _ | split)) <;> simp)
@[simp] theorem withdrawFrom_now (s : State) (k : NoteKind) (doom : Doom) (hit : Pending → Bool) :
    (s.withdrawFrom k doom hit).now = s.now := by
  unfold State.withdrawFrom; try dsimp only
  repeat' split
  all_goals try simp
  all_goals try (refine (foldl_now ?_ _ _).trans ?_ <;> (repeat' (first | intro _ | split)) <;> simp)
@[simp] theorem withdrawFrom_area (s : State) (k : NoteKind) (doom : Doom) (hit : Pending → Bool) :
    (s.withdrawFrom k doom hit).window.area = s.window.area := by
  unfold State.withdrawFrom; try dsimp only
  repeat' split
  all_goals try simp
  all_goals try (refine (foldl_area ?_ _ _).trans ?_ <;> (repeat' (first | intro _ | split)) <;> simp)
@[simp] theorem withdrawAll_pending (s : State) (doom : Doom) (keepDone : Bool) :
    (s.withdrawAll doom keepDone).pending = s.pending := by
  unfold State.withdrawAll; try dsimp only
  repeat' split
  all_goals try simp
  all_goals try (refine (foldl_pending ?_ _ _).trans ?_ <;> (repeat' (first | intro _ | split)) <;> simp)
@[simp] theorem withdrawAll_now (s : State) (doom : Doom) (keepDone : Bool) :
    (s.withdrawAll doom keepDone).now = s.now := by
  unfold State.withdrawAll; try dsimp only
  repeat' split
  all_goals try simp
  all_goals try (refine (foldl_now ?_ _ _).trans ?_ <;> (repeat' (first | intro _ | split)) <;> simp)
@[simp] theorem withdrawAll_area (s : State) (doom : Doom) (keepDone : Bool) :
    (s.withdrawAll doom keepDone).window.area = s.window.area := by
  unfold State.withdrawAll; try dsimp only
  repeat' split
  all_goals try simp
  all_goals try (refine (foldl_area ?_ _ _).trans ?_ <;> (repeat' (first | intro _ | split)) <;> simp)
@[simp] theorem keepLeaveClaimed_pending (s : State) :
    (s.keepLeaveClaimed).pending = s.pending := by unfold State.keepLeaveClaimed; split <;> simp
@[simp] theorem keepLeaveClaimed_now (s : State) :
    (s.keepLeaveClaimed).now = s.now := by unfold State.keepLeaveClaimed; split <;> simp
@[simp] theorem keepLeaveClaimed_area (s : State) :
    (s.keepLeaveClaimed).window.area = s.window.area := by unfold State.keepLeaveClaimed; split <;> simp
@[simp] theorem tick_area (s : State) (t : Moment) : (s.tick t).window.area = s.window.area := rfl
@[simp] theorem setTap_area (s : State) (t : Tap) (x : TapState) : (s.setTap t x).window.area = s.window.area := rfl
@[simp] theorem slotTaken_area (s : State) : (s.slotTaken).window.area = s.window.area := rfl
@[simp] theorem setSlot_area (s : State) (i : Fin 8) (x : Slot) : (s.setSlot i x).window.area = s.window.area := rfl
@[simp] theorem modifyLeg_pending (s : State) (i : Fin 8) (j : Fin 2) (f : Leg → Leg) :
    (s.modifyLeg i j f).pending = s.pending := by unfold State.modifyLeg; split <;> simp
@[simp] theorem modifyLeg_now (s : State) (i : Fin 8) (j : Fin 2) (f : Leg → Leg) :
    (s.modifyLeg i j f).now = s.now := by unfold State.modifyLeg; split <;> simp
@[simp] theorem modifyLeg_area (s : State) (i : Fin 8) (j : Fin 2) (f : Leg → Leg) :
    (s.modifyLeg i j f).window.area = s.window.area := by unfold State.modifyLeg; split <;> simp
@[simp] theorem modifyPart_pending (s : State) (i : Fin 8) (j : Fin 2) (f : OwnPart → OwnPart) :
    (s.modifyPart i j f).pending = s.pending := by simp [State.modifyPart]
@[simp] theorem modifyPart_now (s : State) (i : Fin 8) (j : Fin 2) (f : OwnPart → OwnPart) :
    (s.modifyPart i j f).now = s.now := by simp [State.modifyPart]
@[simp] theorem modifyPart_area (s : State) (i : Fin 8) (j : Fin 2) (f : OwnPart → OwnPart) :
    (s.modifyPart i j f).window.area = s.window.area := by simp [State.modifyPart]
@[simp] theorem dropFlush_pending (s : State) (i : Fin 8) (j : Fin 2) : (s.dropFlush i j).pending = s.pending := rfl
@[simp] theorem dropFlush_now (s : State) (i : Fin 8) (j : Fin 2) : (s.dropFlush i j).now = s.now := rfl
@[simp] theorem dropFlush_area (s : State) (i : Fin 8) (j : Fin 2) :
    (s.dropFlush i j).window.area = s.window.area := rfl
@[simp] theorem claimDone_pending (s : State) (i : Fin 8) (j : Fin 2) (delivered : Bool) :
    (s.claimDone i j delivered).pending = s.pending := by unfold State.claimDone; split <;> simp
@[simp] theorem claimDone_now (s : State) (i : Fin 8) (j : Fin 2) (delivered : Bool) :
    (s.claimDone i j delivered).now = s.now := by unfold State.claimDone; split <;> simp
@[simp] theorem claimDone_area (s : State) (i : Fin 8) (j : Fin 2) (delivered : Bool) :
    (s.claimDone i j delivered).window.area = s.window.area := by unfold State.claimDone; split <;> simp
@[simp] theorem markVoid_pending (s : State) (i : Fin 8) (j : Fin 2) :
    (s.markVoid i j).pending = s.pending := by simp [State.markVoid]
@[simp] theorem markVoid_now (s : State) (i : Fin 8) (j : Fin 2) :
    (s.markVoid i j).now = s.now := by simp [State.markVoid]
@[simp] theorem markVoid_area (s : State) (i : Fin 8) (j : Fin 2) :
    (s.markVoid i j).window.area = s.window.area := by simp [State.markVoid]
@[simp] theorem voidPart_pending (s : State) (i : Fin 8) (j : Fin 2) :
    (s.voidPart i j).pending = s.pending := by simp [State.voidPart]
@[simp] theorem voidPart_now (s : State) (i : Fin 8) (j : Fin 2) :
    (s.voidPart i j).now = s.now := by simp [State.voidPart]
@[simp] theorem voidPart_area (s : State) (i : Fin 8) (j : Fin 2) :
    (s.voidPart i j).window.area = s.window.area := by simp [State.voidPart]
@[simp] theorem reportPart_pending (s : State) (i : Fin 8) (j : Fin 2) :
    (s.reportPart i j).pending = s.pending := by simp [State.reportPart]
@[simp] theorem reportPart_now (s : State) (i : Fin 8) (j : Fin 2) :
    (s.reportPart i j).now = s.now := by simp [State.reportPart]
@[simp] theorem reportPart_area (s : State) (i : Fin 8) (j : Fin 2) :
    (s.reportPart i j).window.area = s.window.area := by simp [State.reportPart]
@[simp] theorem startLegTimers_pending (s : State) :
    (s.startLegTimers).pending = s.pending := by
  unfold State.startLegTimers; try dsimp only
  repeat' split
  all_goals try simp
  all_goals try (refine (foldl_pending ?_ _ _).trans ?_ <;> (repeat' (first | intro _ | split)) <;> simp)
@[simp] theorem startLegTimers_now (s : State) :
    (s.startLegTimers).now = s.now := by
  unfold State.startLegTimers; try dsimp only
  repeat' split
  all_goals try simp
  all_goals try (refine (foldl_now ?_ _ _).trans ?_ <;> (repeat' (first | intro _ | split)) <;> simp)
@[simp] theorem startLegTimers_area (s : State) :
    (s.startLegTimers).window.area = s.window.area := by
  unfold State.startLegTimers; try dsimp only
  repeat' split
  all_goals try simp
  all_goals try (refine (foldl_area ?_ _ _).trans ?_ <;> (repeat' (first | intro _ | split)) <;> simp)
@[simp] theorem dropTurn_pending (s : State) :
    (s.dropTurn).pending = s.pending := by unfold State.dropTurn; split <;> simp
@[simp] theorem dropTurn_now (s : State) : (s.dropTurn).now = s.now := by unfold State.dropTurn; split <;> simp
@[simp] theorem dropTurn_area (s : State) :
    (s.dropTurn).window.area = s.window.area := by unfold State.dropTurn; split <;> simp
@[simp] theorem beginRecord_pending (s : State) :
    (s.beginRecord).pending = s.pending := by unfold State.beginRecord; split <;> simp
@[simp] theorem beginRecord_now (s : State) :
    (s.beginRecord).now = s.now := by unfold State.beginRecord; split <;> simp
@[simp] theorem beginRecord_area (s : State) :
    (s.beginRecord).window.area = s.window.area := by unfold State.beginRecord; split <;> simp
@[simp] theorem offerRecord_pending (s : State) (r : FrameRecord) :
    (s.offerRecord r).pending = s.pending := by unfold State.offerRecord; (repeat' split) <;> simp
@[simp] theorem offerRecord_now (s : State) (r : FrameRecord) :
    (s.offerRecord r).now = s.now := by unfold State.offerRecord; (repeat' split) <;> simp
@[simp] theorem offerRecord_area (s : State) (r : FrameRecord) :
    (s.offerRecord r).window.area = s.window.area := by unfold State.offerRecord; (repeat' split) <;> simp
@[simp] theorem retireLeg_pending (s : State) (i : Fin 8) (j : Fin 2) :
    (s.retireLeg i j).pending = s.pending := by
  unfold State.retireLeg; try dsimp only
  (repeat' split) <;> simp
@[simp] theorem retireLeg_now (s : State) (i : Fin 8) (j : Fin 2) :
    (s.retireLeg i j).now = s.now := by
  unfold State.retireLeg; try dsimp only
  (repeat' split) <;> simp
@[simp] theorem retireLeg_area (s : State) (i : Fin 8) (j : Fin 2) :
    (s.retireLeg i j).window.area = s.window.area := by
  unfold State.retireLeg; try dsimp only
  (repeat' split) <;> simp
@[simp] theorem postLeg_pending (s : State) (i : Fin 8) (j : Fin 2) (poster : Option Station) :
    (s.postLeg i j poster).pending = s.pending := by unfold State.postLeg; (repeat' split) <;> simp
@[simp] theorem postLeg_now (s : State) (i : Fin 8) (j : Fin 2) (poster : Option Station) :
    (s.postLeg i j poster).now = s.now := by unfold State.postLeg; (repeat' split) <;> simp
@[simp] theorem postLeg_area (s : State) (i : Fin 8) (j : Fin 2) (poster : Option Station) :
    (s.postLeg i j poster).window.area = s.window.area := by unfold State.postLeg; (repeat' split) <;> simp
@[simp] theorem testLeg_pending (s : State) (i : Fin 8) (j : Fin 2) (poster : Option Station) (byRemoval : Bool) :
    (s.testLeg i j poster byRemoval).pending = s.pending := by unfold State.testLeg; (repeat' split) <;> simp
@[simp] theorem testLeg_now (s : State) (i : Fin 8) (j : Fin 2) (poster : Option Station) (byRemoval : Bool) :
    (s.testLeg i j poster byRemoval).now = s.now := by unfold State.testLeg; (repeat' split) <;> simp
@[simp] theorem testLeg_area (s : State) (i : Fin 8) (j : Fin 2) (poster : Option Station) (byRemoval : Bool) :
    (s.testLeg i j poster byRemoval).window.area = s.window.area := by unfold State.testLeg; (repeat' split) <;> simp
@[simp] theorem removeFromLegs_pending (s : State) (p : Station) (poster : Option Station) :
    (s.removeFromLegs p poster).pending = s.pending := by
  unfold State.removeFromLegs; try dsimp only
  refine (foldl_pending ?_ _ _).trans (by simp)
  intros; (repeat' split) <;> simp
@[simp] theorem removeFromLegs_now (s : State) (p : Station) (poster : Option Station) :
    (s.removeFromLegs p poster).now = s.now := by
  unfold State.removeFromLegs; try dsimp only
  refine (foldl_now ?_ _ _).trans (by simp)
  intros; (repeat' split) <;> simp
@[simp] theorem removeFromLegs_area (s : State) (p : Station) (poster : Option Station) :
    (s.removeFromLegs p poster).window.area = s.window.area := by
  unfold State.removeFromLegs; try dsimp only
  refine (foldl_area ?_ _ _).trans (by simp)
  intros; (repeat' split) <;> simp
@[simp] theorem dropHeadRecord_pending (s : State) :
    (s.dropHeadRecord).pending = s.pending := by simp [State.dropHeadRecord]
@[simp] theorem dropHeadRecord_now (s : State) : (s.dropHeadRecord).now = s.now := by simp [State.dropHeadRecord]
@[simp] theorem dropHeadRecord_area (s : State) :
    (s.dropHeadRecord).window.area = s.window.area := by simp [State.dropHeadRecord]
@[simp] theorem emptyRecords_pending (s : State) : (s.emptyRecords).pending = s.pending := rfl
@[simp] theorem emptyRecords_now (s : State) : (s.emptyRecords).now = s.now := rfl
@[simp] theorem emptyRecords_area (s : State) : (s.emptyRecords).window.area = s.window.area := rfl
@[simp] theorem applyDone_pending (s : State) (sender : Station) (frame : BitVec 16) (stream : Fin 2) (delivered : Bool) (gapRows : BitVec 17) :
    (s.applyDone sender frame stream delivered gapRows).pending = s.pending := by
  unfold State.applyDone; try dsimp only
  (repeat' split) <;> simp
@[simp] theorem applyDone_now (s : State) (sender : Station) (frame : BitVec 16) (stream : Fin 2) (delivered : Bool) (gapRows : BitVec 17) :
    (s.applyDone sender frame stream delivered gapRows).now = s.now := by
  unfold State.applyDone; try dsimp only
  (repeat' split) <;> simp
@[simp] theorem applyDone_area (s : State) (sender : Station) (frame : BitVec 16) (stream : Fin 2) (delivered : Bool) (gapRows : BitVec 17) :
    (s.applyDone sender frame stream delivered gapRows).window.area = s.window.area := by
  unfold State.applyDone; try dsimp only
  (repeat' split) <;> simp
@[simp] theorem setLines_area (s : State) (t : Tap) (lines : List Line) :
    (s.setLines t lines).window.area = s.window.area := rfl
@[simp] theorem setWaiting_area (s : State) (t : Tap) (b : Bool) :
    (s.setWaiting t b).window.area = s.window.area := rfl
@[simp] theorem judgeWait_pending (s : State) (t : Tap) :
    (s.judgeWait t).pending = s.pending := by unfold State.judgeWait; (repeat' split) <;> simp
@[simp] theorem discardHeads_pending (t : Tap) (l : List Line) (s : State) :
    (State.discardHeads t l s).pending = s.pending := by
  induction l generalizing s with
  | nil => rfl
  | cons a l ih => unfold State.discardHeads; split <;> simp [ih]

@[simp] theorem judgeWait_now (s : State) (t : Tap) :
    (s.judgeWait t).now = s.now := by unfold State.judgeWait; (repeat' split) <;> simp
@[simp] theorem discardHeads_now (t : Tap) (l : List Line) (s : State) :
    (State.discardHeads t l s).now = s.now := by
  induction l generalizing s with
  | nil => rfl
  | cons a l ih => unfold State.discardHeads; split <;> simp [ih]

@[simp] theorem judgeWait_area (s : State) (t : Tap) :
    (s.judgeWait t).window.area = s.window.area := by unfold State.judgeWait; (repeat' split) <;> simp
@[simp] theorem discardHeads_area (t : Tap) (l : List Line) (s : State) :
    (State.discardHeads t l s).window.area = s.window.area := by
  induction l generalizing s with
  | nil => rfl
  | cons a l ih => unfold State.discardHeads; split <;> simp [ih]

@[simp] theorem tapDone_pending (s : State) (t : Tap) (k : Nat) :
    (s.tapDone t k).pending = s.pending := by
  unfold State.tapDone; try dsimp only
  refine (foldl_pending ?_ _ _).trans (by simp)
  intros; (repeat' split) <;> simp
@[simp] theorem tapDone_now (s : State) (t : Tap) (k : Nat) :
    (s.tapDone t k).now = s.now := by
  unfold State.tapDone; try dsimp only
  refine (foldl_now ?_ _ _).trans (by simp)
  intros; (repeat' split) <;> simp
@[simp] theorem tapDone_area (s : State) (t : Tap) (k : Nat) :
    (s.tapDone t k).window.area = s.window.area := by
  unfold State.tapDone; try dsimp only
  refine (foldl_area ?_ _ _).trans (by simp)
  intros; (repeat' split) <;> simp
@[simp] theorem finishMarked_pending (s : State) (t : Tap) :
    (s.finishMarked t).pending = s.pending := by
  unfold State.finishMarked; try dsimp only
  refine (foldl_pending ?_ _ _).trans (by simp)
  intros; (repeat' split) <;> simp
@[simp] theorem finishMarked_now (s : State) (t : Tap) :
    (s.finishMarked t).now = s.now := by
  unfold State.finishMarked; try dsimp only
  refine (foldl_now ?_ _ _).trans (by simp)
  intros; (repeat' split) <;> simp
@[simp] theorem finishMarked_area (s : State) (t : Tap) :
    (s.finishMarked t).window.area = s.window.area := by
  unfold State.finishMarked; try dsimp only
  refine (foldl_area ?_ _ _).trans (by simp)
  intros; (repeat' split) <;> simp
@[simp] theorem startFlushes_pending (s : State) :
    (s.startFlushes).pending = s.pending := by
  unfold State.startFlushes; try dsimp only
  refine (foldl_pending ?_ _ _).trans (by simp)
  intros; (repeat' split) <;> simp
@[simp] theorem startFlushes_now (s : State) :
    (s.startFlushes).now = s.now := by
  unfold State.startFlushes; try dsimp only
  refine (foldl_now ?_ _ _).trans (by simp)
  intros; (repeat' split) <;> simp
@[simp] theorem startFlushes_area (s : State) :
    (s.startFlushes).window.area = s.window.area := by
  unfold State.startFlushes; try dsimp only
  refine (foldl_area ?_ _ _).trans (by simp)
  intros; (repeat' split) <;> simp
@[simp] theorem endCheck_pending (s : State) (t : Tap) :
    (s.endCheck t).pending = s.pending := by unfold State.endCheck; split <;> simp
@[simp] theorem endCheck_now (s : State) (t : Tap) :
    (s.endCheck t).now = s.now := by unfold State.endCheck; split <;> simp
@[simp] theorem endCheck_area (s : State) (t : Tap) :
    (s.endCheck t).window.area = s.window.area := by unfold State.endCheck; split <;> simp
@[simp] theorem endChecks_pending (s : State) : (s.endChecks).pending = s.pending := by simp [State.endChecks]
@[simp] theorem endChecks_now (s : State) : (s.endChecks).now = s.now := by simp [State.endChecks]
@[simp] theorem endChecks_area (s : State) : (s.endChecks).window.area = s.window.area := by simp [State.endChecks]
@[simp] theorem settleTap_pending (s : State) (t : Tap) :
    (s.settleTap t).pending = s.pending := by
  unfold State.settleTap; try dsimp only
  (repeat' split) <;> simp
@[simp] theorem settleTap_now (s : State) (t : Tap) :
    (s.settleTap t).now = s.now := by
  unfold State.settleTap; try dsimp only
  (repeat' split) <;> simp
@[simp] theorem settleTap_area (s : State) (t : Tap) :
    (s.settleTap t).window.area = s.window.area := by
  unfold State.settleTap; try dsimp only
  (repeat' split) <;> simp
@[simp] theorem settle_pending (s : State) : (s.settle).pending = s.pending := by simp [State.settle]
@[simp] theorem settle_now (s : State) : (s.settle).now = s.now := by simp [State.settle]
@[simp] theorem settle_area (s : State) : (s.settle).window.area = s.window.area := by simp [State.settle]
@[simp] theorem setTurn_area (s : State) (tu : Option Turn) : (s.setTurn tu).window.area = s.window.area := rfl
@[simp] theorem setHandled_area (s : State) (t : Tap) (n : Nat) :
    (s.setHandled t n).window.area = s.window.area := rfl
@[simp] theorem rowFilled_pending (s : State) (t : Tap) (r : Nat) :
    (s.rowFilled t r).pending = s.pending := by unfold State.rowFilled; split <;> simp
@[simp] theorem rowFilled_now (s : State) (t : Tap) (r : Nat) :
    (s.rowFilled t r).now = s.now := by unfold State.rowFilled; split <;> simp
@[simp] theorem rowFilled_area (s : State) (t : Tap) (r : Nat) :
    (s.rowFilled t r).window.area = s.window.area := by unfold State.rowFilled; split <;> simp
@[simp] theorem startTurn_pending (s : State) (t : Tap) :
    (s.startTurn t).pending = s.pending := by
  unfold State.startTurn; try dsimp only
  repeat' split
  all_goals try simp
  all_goals try (refine (foldl_pending ?_ _ _).trans ?_ <;> (repeat' (first | intro _ | split)) <;> simp)
@[simp] theorem startTurn_now (s : State) (t : Tap) :
    (s.startTurn t).now = s.now := by
  unfold State.startTurn; try dsimp only
  repeat' split
  all_goals try simp
  all_goals try (refine (foldl_now ?_ _ _).trans ?_ <;> (repeat' (first | intro _ | split)) <;> simp)
@[simp] theorem startTurn_area (s : State) (t : Tap) :
    (s.startTurn t).window.area = s.window.area := by
  unfold State.startTurn; try dsimp only
  repeat' split
  all_goals try simp
  all_goals try (refine (foldl_area ?_ _ _).trans ?_ <;> (repeat' (first | intro _ | split)) <;> simp)
@[simp] theorem endTurn_pending (s : State) (tu : Turn) :
    (s.endTurn tu).pending = s.pending := by unfold State.endTurn; split <;> simp
@[simp] theorem endTurn_now (s : State) (tu : Turn) :
    (s.endTurn tu).now = s.now := by unfold State.endTurn; split <;> simp
@[simp] theorem endTurn_area (s : State) (tu : Turn) :
    (s.endTurn tu).window.area = s.window.area := by unfold State.endTurn; split <;> simp
@[simp] theorem storeRow_pending (s : State) (t : Tap) (l : Line) :
    (s.storeRow t l).pending = s.pending := by unfold State.storeRow; split <;> simp
@[simp] theorem storeRow_now (s : State) (t : Tap) (l : Line) :
    (s.storeRow t l).now = s.now := by unfold State.storeRow; split <;> simp
@[simp] theorem storeRow_area (s : State) (t : Tap) (l : Line) :
    (s.storeRow t l).window.area = s.window.area := by unfold State.storeRow; split <;> simp
@[simp] theorem lineWritten_pending (s : State) (t : Tap) (l : Line) (i : Fin 8) (j : Fin 2) :
    (s.lineWritten t l i j).pending = s.pending := by simp [State.lineWritten]
@[simp] theorem lineWritten_now (s : State) (t : Tap) (l : Line) (i : Fin 8) (j : Fin 2) :
    (s.lineWritten t l i j).now = s.now := by simp [State.lineWritten]
@[simp] theorem lineWritten_area (s : State) (t : Tap) (l : Line) (i : Fin 8) (j : Fin 2) :
    (s.lineWritten t l i j).window.area = s.window.area := by simp [State.lineWritten]
@[simp] theorem issueFlush_area (s : State) : (s.issueFlush).window.area = s.window.area := rfl
@[simp] theorem issueMessage_area (s : State) (address : Nat) (data : Word) :
    (s.issueMessage address data).window.area = s.window.area := rfl
@[simp] theorem issueRecordClass_pending (s : State) (r : PortRequest) :
    (s.issueRecordClass r).pending = s.pending := by unfold State.issueRecordClass; (repeat' split) <;> simp
@[simp] theorem issueRecordClass_now (s : State) (r : PortRequest) :
    (s.issueRecordClass r).now = s.now := by unfold State.issueRecordClass; (repeat' split) <;> simp
@[simp] theorem issueRecordClass_area (s : State) (r : PortRequest) :
    (s.issueRecordClass r).window.area = s.window.area := by unfold State.issueRecordClass; (repeat' split) <;> simp
@[simp] theorem cutTurn_pending (s : State) (i : Fin 8) (j : Fin 2) :
    (s.cutTurn i j).pending = s.pending := by
  unfold State.cutTurn; try dsimp only
  (repeat' split) <;> simp
@[simp] theorem cutTurn_now (s : State) (i : Fin 8) (j : Fin 2) :
    (s.cutTurn i j).now = s.now := by
  unfold State.cutTurn; try dsimp only
  (repeat' split) <;> simp
@[simp] theorem cutTurn_area (s : State) (i : Fin 8) (j : Fin 2) :
    (s.cutTurn i j).window.area = s.window.area := by
  unfold State.cutTurn; try dsimp only
  (repeat' split) <;> simp
@[simp] theorem voidParts_pending (s : State) :
    (s.voidParts).pending = s.pending := by
  unfold State.voidParts; try dsimp only
  refine (foldl_pending ?_ _ _).trans (by simp)
  intros; (repeat' split) <;> simp
@[simp] theorem voidParts_now (s : State) :
    (s.voidParts).now = s.now := by
  unfold State.voidParts; try dsimp only
  refine (foldl_now ?_ _ _).trans (by simp)
  intros; (repeat' split) <;> simp
@[simp] theorem voidParts_area (s : State) :
    (s.voidParts).window.area = s.window.area := by
  unfold State.voidParts; try dsimp only
  refine (foldl_area ?_ _ _).trans (by simp)
  intros; (repeat' split) <;> simp
@[simp] theorem setOutputState_area (s : State) (j : Fin 4) (o : Output) :
    (s.setOutputState j o).window.area = s.window.area := rfl
@[simp] theorem advanceOutputs_area (s : State) : (s.advanceOutputs).window.area = s.window.area := rfl
@[simp] theorem takePulse_pending (s : State) (j : Fin 4) (x : Nat) :
    (s.takePulse j x).pending = s.pending := by
  unfold State.takePulse; try dsimp only
  (repeat' split) <;> simp
@[simp] theorem takePulse_now (s : State) (j : Fin 4) (x : Nat) :
    (s.takePulse j x).now = s.now := by
  unfold State.takePulse; try dsimp only
  (repeat' split) <;> simp
@[simp] theorem takePulse_area (s : State) (j : Fin 4) (x : Nat) :
    (s.takePulse j x).window.area = s.window.area := by
  unfold State.takePulse; try dsimp only
  (repeat' split) <;> simp
@[simp] theorem takeFollow_pending (s : State) (j : Fin 4) (x : Nat) (v : Bool) :
    (s.takeFollow j x v).pending = s.pending := by
  unfold State.takeFollow; try dsimp only
  (repeat' split) <;> simp
@[simp] theorem takeFollow_now (s : State) (j : Fin 4) (x : Nat) (v : Bool) :
    (s.takeFollow j x v).now = s.now := by
  unfold State.takeFollow; try dsimp only
  (repeat' split) <;> simp
@[simp] theorem takeFollow_area (s : State) (j : Fin 4) (x : Nat) (v : Bool) :
    (s.takeFollow j x v).window.area = s.window.area := by
  unfold State.takeFollow; try dsimp only
  (repeat' split) <;> simp
@[simp] theorem takeSignal_pending (s : State) (j : Fin 4) (id : BitVec 4) (level : Bool) (x : Nat) :
    (s.takeSignal j id level x).pending = s.pending := by unfold State.takeSignal; (repeat' split) <;> simp
@[simp] theorem takeSignal_now (s : State) (j : Fin 4) (id : BitVec 4) (level : Bool) (x : Nat) :
    (s.takeSignal j id level x).now = s.now := by unfold State.takeSignal; (repeat' split) <;> simp
@[simp] theorem takeSignal_area (s : State) (j : Fin 4) (id : BitVec 4) (level : Bool) (x : Nat) :
    (s.takeSignal j id level x).window.area = s.window.area := by unfold State.takeSignal; (repeat' split) <;> simp
@[simp] theorem setFlag_pending (s : State) (i : Nat) (x : Nat) :
    (s.setFlag i x).pending = s.pending := by
  unfold State.setFlag; try dsimp only
  (repeat' split) <;> simp
@[simp] theorem setFlag_now (s : State) (i : Nat) (x : Nat) :
    (s.setFlag i x).now = s.now := by
  unfold State.setFlag; try dsimp only
  (repeat' split) <;> simp
@[simp] theorem setFlag_area (s : State) (i : Nat) (x : Nat) :
    (s.setFlag i x).window.area = s.window.area := by
  unfold State.setFlag; try dsimp only
  (repeat' split) <;> simp
@[simp] theorem applySignal_pending (s : State) (id : BitVec 4) (level : Bool) (line : Word) :
    (s.applySignal id level line).pending = s.pending := by
  unfold State.applySignal; try dsimp only
  repeat' split
  all_goals try simp
  all_goals try (refine (foldl_pending ?_ _ _).trans ?_ <;> (repeat' (first | intro _ | split)) <;> simp)
@[simp] theorem applySignal_now (s : State) (id : BitVec 4) (level : Bool) (line : Word) :
    (s.applySignal id level line).now = s.now := by
  unfold State.applySignal; try dsimp only
  repeat' split
  all_goals try simp
  all_goals try (refine (foldl_now ?_ _ _).trans ?_ <;> (repeat' (first | intro _ | split)) <;> simp)
@[simp] theorem applySignal_area (s : State) (id : BitVec 4) (level : Bool) (line : Word) :
    (s.applySignal id level line).window.area = s.window.area := by
  unfold State.applySignal; try dsimp only
  repeat' split
  all_goals try simp
  all_goals try (refine (foldl_area ?_ _ _).trans ?_ <;> (repeat' (first | intro _ | split)) <;> simp)
@[simp] theorem claimEdge_pending (s : State) (i : Fin 4) (level : Bool) :
    (s.claimEdge i level).pending = s.pending := by unfold State.claimEdge; split <;> simp
@[simp] theorem claimEdge_now (s : State) (i : Fin 4) (level : Bool) :
    (s.claimEdge i level).now = s.now := by unfold State.claimEdge; split <;> simp
@[simp] theorem claimEdge_area (s : State) (i : Fin 4) (level : Bool) :
    (s.claimEdge i level).window.area = s.window.area := by unfold State.claimEdge; split <;> simp
@[simp] theorem setFiltered_area (s : State) (i : Fin 4) (level : Bool) :
    (s.setFiltered i level).window.area = s.window.area := rfl
@[simp] theorem countDropped_pending (s : State) : (s.countDropped).pending = s.pending := rfl
@[simp] theorem countDropped_now (s : State) : (s.countDropped).now = s.now := rfl
@[simp] theorem countDropped_area (s : State) : (s.countDropped).window.area = s.window.area := rfl
@[simp] theorem unitsToConfigured_pending (s : State) (byReset : Bool) :
    (s.unitsToConfigured byReset).pending = s.pending := by unfold State.unitsToConfigured; split <;> simp
@[simp] theorem unitsToConfigured_now (s : State) (byReset : Bool) :
    (s.unitsToConfigured byReset).now = s.now := by unfold State.unitsToConfigured; split <;> simp
@[simp] theorem unitsToConfigured_area (s : State) (byReset : Bool) :
    (s.unitsToConfigured byReset).window.area = s.window.area := by unfold State.unitsToConfigured; split <;> simp
@[simp] theorem enterUnconfigured_pending (s : State) :
    (s.enterUnconfigured).pending = s.pending := by simp [State.enterUnconfigured]
@[simp] theorem enterUnconfigured_now (s : State) :
    (s.enterUnconfigured).now = s.now := by simp [State.enterUnconfigured]
@[simp] theorem enterUnconfigured_area (s : State) :
    (s.enterUnconfigured).window.area = s.window.area := by simp [State.enterUnconfigured]
@[simp] theorem enterConfigured_pending (s : State) (byReset : Bool) :
    (s.enterConfigured byReset).pending = s.pending := by
  unfold State.enterConfigured; try dsimp only
  (repeat' split) <;> simp
@[simp] theorem enterConfigured_now (s : State) (byReset : Bool) :
    (s.enterConfigured byReset).now = s.now := by
  unfold State.enterConfigured; try dsimp only
  (repeat' split) <;> simp
@[simp] theorem enterConfigured_area (s : State) (byReset : Bool) :
    (s.enterConfigured byReset).window.area = s.window.area := by
  unfold State.enterConfigured; try dsimp only
  (repeat' split) <;> simp
@[simp] theorem enterListening_pending (s : State) :
    (s.enterListening).pending = s.pending := by simp [State.enterListening]
@[simp] theorem enterListening_now (s : State) : (s.enterListening).now = s.now := by simp [State.enterListening]
@[simp] theorem enterListening_area (s : State) :
    (s.enterListening).window.area = s.window.area := by simp [State.enterListening]
@[simp] theorem enterLeaving_pending (s : State) :
    (s.enterLeaving).pending = s.pending := by
  unfold State.enterLeaving; try dsimp only
  (repeat' split) <;> simp
@[simp] theorem enterLeaving_now (s : State) :
    (s.enterLeaving).now = s.now := by
  unfold State.enterLeaving; try dsimp only
  (repeat' split) <;> simp
@[simp] theorem enterLeaving_area (s : State) :
    (s.enterLeaving).window.area = s.window.area := by
  unfold State.enterLeaving; try dsimp only
  (repeat' split) <;> simp
@[simp] theorem stopLegTimers_pending (s : State) :
    (s.stopLegTimers).pending = s.pending := by
  unfold State.stopLegTimers; try dsimp only
  refine (foldl_pending ?_ _ _).trans (by simp)
  intros; (repeat' split) <;> simp
@[simp] theorem stopLegTimers_now (s : State) :
    (s.stopLegTimers).now = s.now := by
  unfold State.stopLegTimers; try dsimp only
  refine (foldl_now ?_ _ _).trans (by simp)
  intros; (repeat' split) <;> simp
@[simp] theorem stopLegTimers_area (s : State) :
    (s.stopLegTimers).window.area = s.window.area := by
  unfold State.stopLegTimers; try dsimp only
  refine (foldl_area ?_ _ _).trans (by simp)
  intros; (repeat' split) <;> simp
@[simp] theorem lapse_pending (s : State) : (s.lapse).pending = s.pending := by simp [State.lapse]
@[simp] theorem lapse_now (s : State) : (s.lapse).now = s.now := by simp [State.lapse]
@[simp] theorem lapse_area (s : State) : (s.lapse).window.area = s.window.area := by simp [State.lapse]
@[simp] theorem lapseFrom_pending (s : State) (from_ : List StationState) :
    (s.lapseFrom from_).pending = s.pending := by unfold State.lapseFrom; split <;> simp
@[simp] theorem lapseFrom_now (s : State) (from_ : List StationState) :
    (s.lapseFrom from_).now = s.now := by unfold State.lapseFrom; split <;> simp
@[simp] theorem lapseFrom_area (s : State) (from_ : List StationState) :
    (s.lapseFrom from_).window.area = s.window.area := by unfold State.lapseFrom; split <;> simp
@[simp] theorem leaveLapsed_pending (s : State) :
    (s.leaveLapsed).pending = s.pending := by
  unfold State.leaveLapsed; try dsimp only
  (repeat' split) <;> simp
@[simp] theorem leaveLapsed_now (s : State) :
    (s.leaveLapsed).now = s.now := by
  unfold State.leaveLapsed; try dsimp only
  (repeat' split) <;> simp
@[simp] theorem leaveLapsed_area (s : State) :
    (s.leaveLapsed).window.area = s.window.area := by
  unfold State.leaveLapsed; try dsimp only
  (repeat' split) <;> simp
@[simp] theorem setChannel_area (s : State) (c : Fin 8) (x : Channel) :
    (s.setChannel c x).window.area = s.window.area := rfl
@[simp] theorem orphanRule_pending (s : State) :
    (s.orphanRule).pending = s.pending := by
  unfold State.orphanRule; try dsimp only
  refine (foldl_pending ?_ _ _).trans (by simp)
  intros; (repeat' split) <;> simp
@[simp] theorem orphanRule_now (s : State) :
    (s.orphanRule).now = s.now := by
  unfold State.orphanRule; try dsimp only
  refine (foldl_now ?_ _ _).trans (by simp)
  intros; (repeat' split) <;> simp
@[simp] theorem orphanRule_area (s : State) :
    (s.orphanRule).window.area = s.window.area := by
  unfold State.orphanRule; try dsimp only
  refine (foldl_area ?_ _ _).trans (by simp)
  intros; (repeat' split) <;> simp
@[simp] theorem soleRule_pending (s : State) :
    (s.soleRule).pending = s.pending := by
  unfold State.soleRule; try dsimp only
  repeat' split
  all_goals try simp
  all_goals try (refine (foldl_pending ?_ _ _).trans ?_ <;> (repeat' (first | intro _ | split)) <;> simp)
@[simp] theorem soleRule_now (s : State) :
    (s.soleRule).now = s.now := by
  unfold State.soleRule; try dsimp only
  repeat' split
  all_goals try simp
  all_goals try (refine (foldl_now ?_ _ _).trans ?_ <;> (repeat' (first | intro _ | split)) <;> simp)
@[simp] theorem soleRule_area (s : State) :
    (s.soleRule).window.area = s.window.area := by
  unfold State.soleRule; try dsimp only
  repeat' split
  all_goals try simp
  all_goals try (refine (foldl_area ?_ _ _).trans ?_ <;> (repeat' (first | intro _ | split)) <;> simp)
@[simp] theorem memberChecks_pending (s : State) :
    (s.memberChecks).pending = s.pending := by unfold State.memberChecks; (repeat' split) <;> simp
@[simp] theorem memberChecks_now (s : State) :
    (s.memberChecks).now = s.now := by unfold State.memberChecks; (repeat' split) <;> simp
@[simp] theorem memberChecks_area (s : State) :
    (s.memberChecks).window.area = s.window.area := by unfold State.memberChecks; (repeat' split) <;> simp
@[simp] theorem dropFromRoster_area (s : State) (p : Station) :
    (s.dropFromRoster p).window.area = s.window.area := rfl
@[simp] theorem removeStation_pending (s : State) (p : Station) (dropSender : Option Station) :
    (s.removeStation p dropSender).pending = s.pending := by unfold State.removeStation; (repeat' split) <;> simp
@[simp] theorem removeStation_now (s : State) (p : Station) (dropSender : Option Station) :
    (s.removeStation p dropSender).now = s.now := by unfold State.removeStation; (repeat' split) <;> simp
@[simp] theorem removeStation_area (s : State) (p : Station) (dropSender : Option Station) :
    (s.removeStation p dropSender).window.area = s.window.area := by unfold State.removeStation; (repeat' split) <;> simp
@[simp] theorem claimAtAdvance_pending (s : State) :
    (s.claimAtAdvance).pending = s.pending := by
  unfold State.claimAtAdvance; try dsimp only
  (repeat' split) <;> simp
@[simp] theorem claimAtAdvance_now (s : State) :
    (s.claimAtAdvance).now = s.now := by
  unfold State.claimAtAdvance; try dsimp only
  (repeat' split) <;> simp
@[simp] theorem claimAtAdvance_area (s : State) :
    (s.claimAtAdvance).window.area = s.window.area := by
  unfold State.claimAtAdvance; try dsimp only
  (repeat' split) <;> simp
@[simp] theorem pruneFlushes_pending (s : State) : (s.pruneFlushes).pending = s.pending := rfl
@[simp] theorem pruneFlushes_now (s : State) : (s.pruneFlushes).now = s.now := rfl
@[simp] theorem pruneFlushes_area (s : State) : (s.pruneFlushes).window.area = s.window.area := rfl
@[simp] theorem found_pending (s : State) : (s.found).pending = s.pending := rfl
@[simp] theorem found_now (s : State) : (s.found).now = s.now := rfl
@[simp] theorem found_area (s : State) : (s.found).window.area = s.window.area := rfl
@[simp] theorem consumeSteer_pending (s : State) (j : Fin 2) (e : Steer) :
    (s.consumeSteer j e).pending = s.pending := by unfold State.consumeSteer; split <;> simp
@[simp] theorem consumeSteer_now (s : State) (j : Fin 2) (e : Steer) :
    (s.consumeSteer j e).now = s.now := by unfold State.consumeSteer; split <;> simp
@[simp] theorem consumeSteer_area (s : State) (j : Fin 2) (e : Steer) :
    (s.consumeSteer j e).window.area = s.window.area := by unfold State.consumeSteer; split <;> simp
@[simp] theorem desync_pending (s : State) : (s.desync).pending = s.pending := by simp [State.desync]
@[simp] theorem desync_now (s : State) : (s.desync).now = s.now := by simp [State.desync]
@[simp] theorem desync_area (s : State) : (s.desync).window.area = s.window.area := by simp [State.desync]
@[simp] theorem applyGrant_pending (s : State) (c : Fin 8) (seq : Byte) (base : Page) :
    (s.applyGrant c seq base).pending = s.pending := by
  unfold State.applyGrant; try dsimp only
  (repeat' split) <;> simp
@[simp] theorem applyGrant_now (s : State) (c : Fin 8) (seq : Byte) (base : Page) :
    (s.applyGrant c seq base).now = s.now := by
  unfold State.applyGrant; try dsimp only
  (repeat' split) <;> simp
@[simp] theorem applyGrant_area (s : State) (c : Fin 8) (seq : Byte) (base : Page) :
    (s.applyGrant c seq base).window.area = s.window.area := by
  unfold State.applyGrant; try dsimp only
  (repeat' split) <;> simp
@[simp] theorem bornVoid_pending (s : State) (i : Fin 8) (j : Fin 2) :
    (s.bornVoid i j).pending = s.pending := by unfold State.bornVoid; (repeat' split) <;> simp
@[simp] theorem bornVoid_now (s : State) (i : Fin 8) (j : Fin 2) :
    (s.bornVoid i j).now = s.now := by unfold State.bornVoid; (repeat' split) <;> simp
@[simp] theorem bornVoid_area (s : State) (i : Fin 8) (j : Fin 2) :
    (s.bornVoid i j).window.area = s.window.area := by unfold State.bornVoid; (repeat' split) <;> simp
@[simp] theorem enterFrame_pending (s : State) (k : Nat) (mask : StationSet) (entries : StreamEntries) :
    (s.enterFrame k mask entries).pending = s.pending := by simp [State.enterFrame]
@[simp] theorem enterFrame_now (s : State) (k : Nat) (mask : StationSet) (entries : StreamEntries) :
    (s.enterFrame k mask entries).now = s.now := by simp [State.enterFrame]
@[simp] theorem enterFrame_area (s : State) (k : Nat) (mask : StationSet) (entries : StreamEntries) :
    (s.enterFrame k mask entries).window.area = s.window.area := by simp [State.enterFrame]
@[simp] theorem raiseH_area (s : State) (k : Nat) : (s.raiseH k).window.area = s.window.area := rfl
@[simp] theorem clearForeign_pending (s : State) (i : Fin 8) :
    (s.clearForeign i).pending = s.pending := by unfold State.clearForeign; split <;> simp
@[simp] theorem clearForeign_now (s : State) (i : Fin 8) :
    (s.clearForeign i).now = s.now := by unfold State.clearForeign; split <;> simp
@[simp] theorem clearForeign_area (s : State) (i : Fin 8) :
    (s.clearForeign i).window.area = s.window.area := by unfold State.clearForeign; split <;> simp
@[simp] theorem applyOpening_pending (s : State) (frame : BitVec 16) (mask : StationSet) (entries : StreamEntries) :
    (s.applyOpening frame mask entries).pending = s.pending := by
  unfold State.applyOpening; try dsimp only
  repeat' split
  all_goals try simp
  all_goals try (refine (foldl_pending ?_ _ _).trans ?_ <;> (repeat' (first | intro _ | split)) <;> simp)
@[simp] theorem applyOpening_now (s : State) (frame : BitVec 16) (mask : StationSet) (entries : StreamEntries) :
    (s.applyOpening frame mask entries).now = s.now := by
  unfold State.applyOpening; try dsimp only
  repeat' split
  all_goals try simp
  all_goals try (refine (foldl_now ?_ _ _).trans ?_ <;> (repeat' (first | intro _ | split)) <;> simp)
@[simp] theorem applyOpening_area (s : State) (frame : BitVec 16) (mask : StationSet) (entries : StreamEntries) :
    (s.applyOpening frame mask entries).window.area = s.window.area := by
  unfold State.applyOpening; try dsimp only
  repeat' split
  all_goals try simp
  all_goals try (refine (foldl_area ?_ _ _).trans ?_ <;> (repeat' (first | intro _ | split)) <;> simp)
@[simp] theorem applyGate_pending (s : State) (isOpen : Bool) (frame : BitVec 16) :
    (s.applyGate isOpen frame).pending = s.pending := by unfold State.applyGate; split <;> simp
@[simp] theorem applyGate_now (s : State) (isOpen : Bool) (frame : BitVec 16) :
    (s.applyGate isOpen frame).now = s.now := by unfold State.applyGate; split <;> simp
@[simp] theorem applyGate_area (s : State) (isOpen : Bool) (frame : BitVec 16) :
    (s.applyGate isOpen frame).window.area = s.window.area := by unfold State.applyGate; split <;> simp
@[simp] theorem learnFrames_pending (s : State) (r : Roll) : (s.learnFrames r).pending = s.pending := rfl
@[simp] theorem learnFrames_now (s : State) (r : Roll) : (s.learnFrames r).now = s.now := rfl
@[simp] theorem learnFrames_area (s : State) (r : Roll) : (s.learnFrames r).window.area = s.window.area := rfl
@[simp] theorem forgetForeign_pending (s : State) (r : Roll) : (s.forgetForeign r).pending = s.pending := rfl
@[simp] theorem forgetForeign_now (s : State) (r : Roll) : (s.forgetForeign r).now = s.now := rfl
@[simp] theorem forgetForeign_area (s : State) (r : Roll) : (s.forgetForeign r).window.area = s.window.area := rfl
@[simp] theorem takeCompleteness_pending (s : State) (r : Roll) :
    (s.takeCompleteness r).pending = s.pending := by
  unfold State.takeCompleteness; try dsimp only
  repeat' split
  all_goals try simp
  all_goals try (refine (foldl_pending ?_ _ _).trans ?_ <;> (repeat' (first | intro _ | split)) <;> simp)
@[simp] theorem takeCompleteness_now (s : State) (r : Roll) :
    (s.takeCompleteness r).now = s.now := by
  unfold State.takeCompleteness; try dsimp only
  repeat' split
  all_goals try simp
  all_goals try (refine (foldl_now ?_ _ _).trans ?_ <;> (repeat' (first | intro _ | split)) <;> simp)
@[simp] theorem takeCompleteness_area (s : State) (r : Roll) :
    (s.takeCompleteness r).window.area = s.window.area := by
  unfold State.takeCompleteness; try dsimp only
  repeat' split
  all_goals try simp
  all_goals try (refine (foldl_area ?_ _ _).trans ?_ <;> (repeat' (first | intro _ | split)) <;> simp)
@[simp] theorem takeLive_pending (s : State) (t : Tap) (r : Trigger) :
    (s.takeLive t r).pending = s.pending := by
  unfold State.takeLive; try dsimp only
  (repeat' split) <;> simp
@[simp] theorem takeLive_now (s : State) (t : Tap) (r : Trigger) :
    (s.takeLive t r).now = s.now := by
  unfold State.takeLive; try dsimp only
  (repeat' split) <;> simp
@[simp] theorem takeLive_area (s : State) (t : Tap) (r : Trigger) :
    (s.takeLive t r).window.area = s.window.area := by
  unfold State.takeLive; try dsimp only
  (repeat' split) <;> simp
@[simp] theorem takePattern_pending (s : State) (t : Tap) (r : Trigger) :
    (s.takePattern t r).pending = s.pending := by unfold State.takePattern; split <;> simp
@[simp] theorem takePattern_now (s : State) (t : Tap) (r : Trigger) :
    (s.takePattern t r).now = s.now := by unfold State.takePattern; split <;> simp
@[simp] theorem takePattern_area (s : State) (t : Tap) (r : Trigger) :
    (s.takePattern t r).window.area = s.window.area := by unfold State.takePattern; split <;> simp
@[simp] theorem handRecord_pending (s : State) (t : Tap) (r : Trigger) :
    (s.handRecord t r).pending = s.pending := by unfold State.handRecord; split <;> simp
@[simp] theorem handRecord_now (s : State) (t : Tap) (r : Trigger) :
    (s.handRecord t r).now = s.now := by unfold State.handRecord; split <;> simp
@[simp] theorem handRecord_area (s : State) (t : Tap) (r : Trigger) :
    (s.handRecord t r).window.area = s.window.area := by unfold State.handRecord; split <;> simp
@[simp] theorem handRecords_pending (s : State) (r : Trigger) :
    (s.handRecords r).pending = s.pending := by unfold State.handRecords; split <;> simp
@[simp] theorem handRecords_now (s : State) (r : Trigger) :
    (s.handRecords r).now = s.now := by unfold State.handRecords; split <;> simp
@[simp] theorem handRecords_area (s : State) (r : Trigger) :
    (s.handRecords r).window.area = s.window.area := by unfold State.handRecords; split <;> simp
@[simp] theorem beginPacket_pending (s : State) (t : Tap) :
    (s.beginPacket t).pending = s.pending := by unfold State.beginPacket; split <;> simp
@[simp] theorem beginPacket_now (s : State) (t : Tap) :
    (s.beginPacket t).now = s.now := by unfold State.beginPacket; split <;> simp
@[simp] theorem beginPacket_area (s : State) (t : Tap) :
    (s.beginPacket t).window.area = s.window.area := by unfold State.beginPacket; split <;> simp
@[simp] theorem badPacket_pending (s : State) (t : Tap) (bytes : List Byte) :
    (s.badPacket t bytes).pending = s.pending := rfl
@[simp] theorem badPacket_now (s : State) (t : Tap) (bytes : List Byte) : (s.badPacket t bytes).now = s.now := rfl
@[simp] theorem badPacket_area (s : State) (t : Tap) (bytes : List Byte) :
    (s.badPacket t bytes).window.area = s.window.area := rfl
@[simp] theorem overrun_pending (s : State) (t : Tap) : (s.overrun t).pending = s.pending := by simp [State.overrun]
@[simp] theorem overrun_now (s : State) (t : Tap) : (s.overrun t).now = s.now := by simp [State.overrun]
@[simp] theorem overrun_area (s : State) (t : Tap) :
    (s.overrun t).window.area = s.window.area := by simp [State.overrun]
@[simp] theorem setPort_area (s : State) (t : Tap) (p : LinePort) : (s.setPort t p).window.area = s.window.area := rfl
@[simp] theorem reconcile_pending (s : State) (t : Tap) (slot : Fin 256) (c : Byte) (pixels : List Byte) :
    (s.reconcile t slot c pixels).pending = s.pending := by
  unfold State.reconcile; try dsimp only
  (repeat' split) <;> simp
@[simp] theorem reconcile_now (s : State) (t : Tap) (slot : Fin 256) (c : Byte) (pixels : List Byte) :
    (s.reconcile t slot c pixels).now = s.now := by
  unfold State.reconcile; try dsimp only
  (repeat' split) <;> simp
@[simp] theorem reconcile_area (s : State) (t : Tap) (slot : Fin 256) (c : Byte) (pixels : List Byte) :
    (s.reconcile t slot c pixels).window.area = s.window.area := by
  unfold State.reconcile; try dsimp only
  (repeat' split) <;> simp
@[simp] theorem arrive_pending (s : State) (t : Tap) (slot : Fin 256) (bytes : List Byte) :
    (s.arrive t slot bytes).pending = s.pending := by unfold State.arrive; (repeat' split) <;> simp
@[simp] theorem arrive_now (s : State) (t : Tap) (slot : Fin 256) (bytes : List Byte) :
    (s.arrive t slot bytes).now = s.now := by unfold State.arrive; (repeat' split) <;> simp
@[simp] theorem arrive_area (s : State) (t : Tap) (slot : Fin 256) (bytes : List Byte) :
    (s.arrive t slot bytes).window.area = s.window.area := by unfold State.arrive; (repeat' split) <;> simp
@[simp] theorem afterTap_pending (s : State) : (s.afterTap).pending = s.pending := by simp [State.afterTap]
@[simp] theorem afterTap_now (s : State) : (s.afterTap).now = s.now := by simp [State.afterTap]
@[simp] theorem afterTap_area (s : State) : (s.afterTap).window.area = s.window.area := by simp [State.afterTap]
@[simp] theorem presentAdvance_pending (s : State) :
    (s.presentAdvance).pending = s.pending := by simp [State.presentAdvance]
@[simp] theorem presentAdvance_now (s : State) : (s.presentAdvance).now = s.now := by simp [State.presentAdvance]
@[simp] theorem presentAdvance_area (s : State) :
    (s.presentAdvance).window.area = s.window.area := by simp [State.presentAdvance]
@[simp] theorem fireStrobes_area (s : State) (phase : Nat) : (s.fireStrobes phase).window.area = s.window.area := rfl
@[simp] theorem issueLine_pending (s : State) (n : Nat) :
    (s.issueLine n).pending = s.pending := by simp [State.issueLine]
@[simp] theorem issueLine_now (s : State) (n : Nat) : (s.issueLine n).now = s.now := by simp [State.issueLine]
@[simp] theorem issueLine_area (s : State) (n : Nat) :
    (s.issueLine n).window.area = s.window.area := by simp [State.issueLine]
@[simp] theorem takeDue_pending (s : State) (n : Nat) :
    (s.takeDue n).pending = s.pending := by unfold State.takeDue; (repeat' split) <;> simp
@[simp] theorem takeDue_now (s : State) (n : Nat) :
    (s.takeDue n).now = s.now := by unfold State.takeDue; (repeat' split) <;> simp
@[simp] theorem takeDue_area (s : State) (n : Nat) :
    (s.takeDue n).window.area = s.window.area := by unfold State.takeDue; (repeat' split) <;> simp
@[simp] theorem lineDue_pending (s : State) : (s.lineDue).pending = s.pending := by simp [State.lineDue]
@[simp] theorem lineDue_now (s : State) : (s.lineDue).now = s.now := by simp [State.lineDue]
@[simp] theorem lineDue_area (s : State) : (s.lineDue).window.area = s.window.area := by simp [State.lineDue]
@[simp] theorem countUp_pending (s : State) :
    (s.countUp).pending = s.pending := by
  unfold State.countUp; try dsimp only
  (repeat' split) <;> simp
@[simp] theorem countUp_now (s : State) :
    (s.countUp).now = s.now := by
  unfold State.countUp; try dsimp only
  (repeat' split) <;> simp
@[simp] theorem countUp_area (s : State) :
    (s.countUp).window.area = s.window.area := by
  unfold State.countUp; try dsimp only
  (repeat' split) <;> simp
@[simp] theorem encoderError_pending (s : State) :
    (s.encoderError).pending = s.pending := by simp [State.encoderError]
@[simp] theorem encoderError_now (s : State) : (s.encoderError).now = s.now := by simp [State.encoderError]
@[simp] theorem encoderError_area (s : State) :
    (s.encoderError).window.area = s.window.area := by simp [State.encoderError]
@[simp] theorem align_pending (s : State) (offset : Word) :
    (s.align offset).pending = s.pending := by simp [State.align]
@[simp] theorem align_now (s : State) (offset : Word) : (s.align offset).now = s.now := by simp [State.align]
@[simp] theorem align_area (s : State) (offset : Word) :
    (s.align offset).window.area = s.window.area := by simp [State.align]
@[simp] theorem enterIssuing_pending (s : State) : (s.enterIssuing).pending = s.pending := rfl
@[simp] theorem enterIssuing_now (s : State) : (s.enterIssuing).now = s.now := rfl
@[simp] theorem enterIssuing_area (s : State) : (s.enterIssuing).window.area = s.window.area := rfl
@[simp] theorem beginNote_pending (s : State) (role : WireRole) (reserved : Bool) (stretch : Option Moment) :
    (s.beginNote role reserved stretch).pending = s.pending := rfl
@[simp] theorem beginNote_now (s : State) (role : WireRole) (reserved : Bool) (stretch : Option Moment) :
    (s.beginNote role reserved stretch).now = s.now := rfl
@[simp] theorem beginNote_area (s : State) (role : WireRole) (reserved : Bool) (stretch : Option Moment) :
    (s.beginNote role reserved stretch).window.area = s.window.area := rfl
@[simp] theorem setWire_area (s : State) (w : Option Wire) : (s.setWire w).window.area = s.window.area := rfl
@[simp] theorem exhaust_pending (s : State) (c : Claim) :
    (s.exhaust c).pending = s.pending := by
  unfold State.exhaust; try dsimp only
  (repeat' split) <;> simp
@[simp] theorem exhaust_now (s : State) (c : Claim) :
    (s.exhaust c).now = s.now := by
  unfold State.exhaust; try dsimp only
  (repeat' split) <;> simp
@[simp] theorem exhaust_area (s : State) (c : Claim) :
    (s.exhaust c).window.area = s.window.area := by
  unfold State.exhaust; try dsimp only
  (repeat' split) <;> simp
@[simp] theorem joinHeld_pending (s : State) :
    (s.joinHeld).pending = s.pending := by unfold State.joinHeld; split <;> simp
@[simp] theorem joinHeld_now (s : State) : (s.joinHeld).now = s.now := by unfold State.joinHeld; split <;> simp
@[simp] theorem joinHeld_area (s : State) :
    (s.joinHeld).window.area = s.window.area := by unfold State.joinHeld; split <;> simp
@[simp] theorem joinWithdrawn_pending (s : State) (c : Claim) :
    (s.joinWithdrawn c).pending = s.pending := by unfold State.joinWithdrawn; split <;> simp
@[simp] theorem joinWithdrawn_now (s : State) (c : Claim) :
    (s.joinWithdrawn c).now = s.now := by unfold State.joinWithdrawn; split <;> simp
@[simp] theorem joinWithdrawn_area (s : State) (c : Claim) :
    (s.joinWithdrawn c).window.area = s.window.area := by unfold State.joinWithdrawn; split <;> simp
@[simp] theorem endAttempt_pending (s : State) (k : NoteKind) (a : Attempt) :
    (s.endAttempt k a).pending = s.pending := by
  unfold State.endAttempt; try dsimp only
  (repeat' split) <;> simp
@[simp] theorem endAttempt_now (s : State) (k : NoteKind) (a : Attempt) :
    (s.endAttempt k a).now = s.now := by
  unfold State.endAttempt; try dsimp only
  (repeat' split) <;> simp
@[simp] theorem endAttempt_area (s : State) (k : NoteKind) (a : Attempt) :
    (s.endAttempt k a).window.area = s.window.area := by
  unfold State.endAttempt; try dsimp only
  (repeat' split) <;> simp
@[simp] theorem giveVeto_pending (s : State) :
    (s.giveVeto).pending = s.pending := by
  unfold State.giveVeto; try dsimp only
  (repeat' split) <;> simp
@[simp] theorem giveVeto_now (s : State) :
    (s.giveVeto).now = s.now := by
  unfold State.giveVeto; try dsimp only
  (repeat' split) <;> simp
@[simp] theorem giveVeto_area (s : State) :
    (s.giveVeto).window.area = s.window.area := by
  unfold State.giveVeto; try dsimp only
  (repeat' split) <;> simp
@[simp] theorem enterQueue_area (s : State) (r : Received) : (s.enterQueue r).window.area = s.window.area := rfl
@[simp] theorem duplicate_pending (s : State) : (s.duplicate).pending = s.pending := by simp [State.duplicate]
@[simp] theorem duplicate_now (s : State) : (s.duplicate).now = s.now := by simp [State.duplicate]
@[simp] theorem duplicate_area (s : State) : (s.duplicate).window.area = s.window.area := by simp [State.duplicate]
@[simp] theorem endStanding_pending (s : State) (st : Standing) (ofCarried : Attempt) (ofLate : Attempt) :
    (s.endStanding st ofCarried ofLate).pending = s.pending := by unfold State.endStanding; split <;> simp
@[simp] theorem endStanding_now (s : State) (st : Standing) (ofCarried : Attempt) (ofLate : Attempt) :
    (s.endStanding st ofCarried ofLate).now = s.now := by unfold State.endStanding; split <;> simp
@[simp] theorem endStanding_area (s : State) (st : Standing) (ofCarried : Attempt) (ofLate : Attempt) :
    (s.endStanding st ofCarried ofLate).window.area = s.window.area := by unfold State.endStanding; split <;> simp
@[simp] theorem sampleNote_pending (s : State) (w : Wire) (cells : List Bool) (accepted : Bool) :
    (s.sampleNote w cells accepted).pending = s.pending := by
  unfold State.sampleNote; try dsimp only
  (repeat' split) <;> simp
@[simp] theorem sampleNote_now (s : State) (w : Wire) (cells : List Bool) (accepted : Bool) :
    (s.sampleNote w cells accepted).now = s.now := by
  unfold State.sampleNote; try dsimp only
  (repeat' split) <;> simp
@[simp] theorem sampleNote_area (s : State) (w : Wire) (cells : List Bool) (accepted : Bool) :
    (s.sampleNote w cells accepted).window.area = s.window.area := by
  unfold State.sampleNote; try dsimp only
  (repeat' split) <;> simp
@[simp] theorem abandon_pending (s : State) (w : Wire) (cells : List Bool) :
    (s.abandon w cells).pending = s.pending := by unfold State.abandon; split <;> simp
@[simp] theorem abandon_now (s : State) (w : Wire) (cells : List Bool) :
    (s.abandon w cells).now = s.now := by unfold State.abandon; split <;> simp
@[simp] theorem abandon_area (s : State) (w : Wire) (cells : List Bool) :
    (s.abandon w cells).window.area = s.window.area := by unfold State.abandon; split <;> simp
@[simp] theorem stallSender_pending (s : State) (w : Wire) (cells : List Bool) :
    (s.stallSender w cells).pending = s.pending := by unfold State.stallSender; split <;> simp
@[simp] theorem stallSender_now (s : State) (w : Wire) (cells : List Bool) :
    (s.stallSender w cells).now = s.now := by unfold State.stallSender; split <;> simp
@[simp] theorem stallSender_area (s : State) (w : Wire) (cells : List Bool) :
    (s.stallSender w cells).window.area = s.window.area := by unfold State.stallSender; split <;> simp
@[simp] theorem declareStall_pending (s : State) :
    (s.declareStall).pending = s.pending := by simp [State.declareStall]
@[simp] theorem declareStall_now (s : State) : (s.declareStall).now = s.now := by simp [State.declareStall]
@[simp] theorem declareStall_area (s : State) :
    (s.declareStall).window.area = s.window.area := by simp [State.declareStall]
@[simp] theorem resumeTrunk_pending (s : State) : (s.resumeTrunk).pending = s.pending := rfl
@[simp] theorem resumeTrunk_now (s : State) : (s.resumeTrunk).now = s.now := rfl
@[simp] theorem resumeTrunk_area (s : State) : (s.resumeTrunk).window.area = s.window.area := rfl
@[simp] theorem takeHead_area (s : State) (rest : List Received) :
    (s.takeHead rest).window.area = s.window.area := rfl
@[simp] theorem withdrawJoin_pending (s : State) :
    (s.withdrawJoin).pending = s.pending := by unfold State.withdrawJoin; split <;> simp
@[simp] theorem withdrawJoin_now (s : State) :
    (s.withdrawJoin).now = s.now := by unfold State.withdrawJoin; split <;> simp
@[simp] theorem withdrawJoin_area (s : State) :
    (s.withdrawJoin).window.area = s.window.area := by unfold State.withdrawJoin; split <;> simp
@[simp] theorem withdrawTold_pending (s : State) (r : Received) :
    (s.withdrawTold r).pending = s.pending := by unfold State.withdrawTold; (repeat' split) <;> simp
@[simp] theorem withdrawTold_now (s : State) (r : Received) :
    (s.withdrawTold r).now = s.now := by unfold State.withdrawTold; (repeat' split) <;> simp
@[simp] theorem withdrawTold_area (s : State) (r : Received) :
    (s.withdrawTold r).window.area = s.window.area := by unfold State.withdrawTold; (repeat' split) <;> simp
@[simp] theorem hear_pending (s : State) (p : Station) :
    (s.hear p).pending = s.pending := by unfold State.hear; split <;> simp
@[simp] theorem hear_now (s : State) (p : Station) : (s.hear p).now = s.now := by unfold State.hear; split <;> simp
@[simp] theorem hear_area (s : State) (p : Station) :
    (s.hear p).window.area = s.window.area := by unfold State.hear; split <;> simp
@[simp] theorem recordRoll_pending (s : State) (p : Station) (r : Roll) :
    (s.recordRoll p r).pending = s.pending := by unfold State.recordRoll; split <;> simp
@[simp] theorem recordRoll_now (s : State) (p : Station) (r : Roll) :
    (s.recordRoll p r).now = s.now := by unfold State.recordRoll; split <;> simp
@[simp] theorem recordRoll_area (s : State) (p : Station) (r : Roll) :
    (s.recordRoll p r).window.area = s.window.area := by unfold State.recordRoll; split <;> simp
@[simp] theorem keepRosterPeers_pending (s : State) : (s.keepRosterPeers).pending = s.pending := rfl
@[simp] theorem keepRosterPeers_now (s : State) : (s.keepRosterPeers).now = s.now := rfl
@[simp] theorem keepRosterPeers_area (s : State) : (s.keepRosterPeers).window.area = s.window.area := rfl
@[simp] theorem listenRoll_pending (s : State) (p : Station) (r : Roll) (latch : Latch) :
    (s.listenRoll p r latch).pending = s.pending := by unfold State.listenRoll; split <;> simp
@[simp] theorem listenRoll_now (s : State) (p : Station) (r : Roll) (latch : Latch) :
    (s.listenRoll p r latch).now = s.now := by unfold State.listenRoll; split <;> simp
@[simp] theorem listenRoll_area (s : State) (p : Station) (r : Roll) (latch : Latch) :
    (s.listenRoll p r latch).window.area = s.window.area := by unfold State.listenRoll; split <;> simp
@[simp] theorem setRollTimer_pending (s : State) (p : Station) :
    (s.setRollTimer p).pending = s.pending := by unfold State.setRollTimer; (repeat' split) <;> simp
@[simp] theorem setRollTimer_now (s : State) (p : Station) :
    (s.setRollTimer p).now = s.now := by unfold State.setRollTimer; (repeat' split) <;> simp
@[simp] theorem setRollTimer_area (s : State) (p : Station) :
    (s.setRollTimer p).window.area = s.window.area := by unfold State.setRollTimer; (repeat' split) <;> simp
@[simp] theorem skewVote_pending (s : State) (p : Station) (r : Roll) (latch : Latch) :
    (s.skewVote p r latch).pending = s.pending := by
  unfold State.skewVote; try dsimp only
  (repeat' split) <;> simp
@[simp] theorem skewVote_now (s : State) (p : Station) (r : Roll) (latch : Latch) :
    (s.skewVote p r latch).now = s.now := by
  unfold State.skewVote; try dsimp only
  (repeat' split) <;> simp
@[simp] theorem skewVote_area (s : State) (p : Station) (r : Roll) (latch : Latch) :
    (s.skewVote p r latch).window.area = s.window.area := by
  unfold State.skewVote; try dsimp only
  (repeat' split) <;> simp
@[simp] theorem memberRoll_pending (s : State) (p : Station) (r : Roll) (latch : Latch) :
    (s.memberRoll p r latch).pending = s.pending := by unfold State.memberRoll; (repeat' split) <;> simp
@[simp] theorem memberRoll_now (s : State) (p : Station) (r : Roll) (latch : Latch) :
    (s.memberRoll p r latch).now = s.now := by unfold State.memberRoll; (repeat' split) <;> simp
@[simp] theorem memberRoll_area (s : State) (p : Station) (r : Roll) (latch : Latch) :
    (s.memberRoll p r latch).window.area = s.window.area := by unfold State.memberRoll; (repeat' split) <;> simp
@[simp] theorem restartListen_pending (s : State) :
    (s.restartListen).pending = s.pending := by unfold State.restartListen; split <;> simp
@[simp] theorem restartListen_now (s : State) :
    (s.restartListen).now = s.now := by unfold State.restartListen; split <;> simp
@[simp] theorem restartListen_area (s : State) :
    (s.restartListen).window.area = s.window.area := by unfold State.restartListen; split <;> simp
@[simp] theorem startPeers_pending (s : State) : (s.startPeers).pending = s.pending := rfl
@[simp] theorem startPeers_now (s : State) : (s.startPeers).now = s.now := rfl
@[simp] theorem startPeers_area (s : State) : (s.startPeers).window.area = s.window.area := rfl
@[simp] theorem enterMember_pending (s : State) (founding : Bool) :
    (s.enterMember founding).pending = s.pending := by unfold State.enterMember; split <;> simp
@[simp] theorem enterMember_now (s : State) (founding : Bool) :
    (s.enterMember founding).now = s.now := by unfold State.enterMember; split <;> simp
@[simp] theorem enterMember_area (s : State) (founding : Bool) :
    (s.enterMember founding).window.area = s.window.area := by unfold State.enterMember; split <;> simp
@[simp] theorem addToRoster_pending (s : State) (j : Station) :
    (s.addToRoster j).pending = s.pending := by unfold State.addToRoster; split <;> simp
@[simp] theorem addToRoster_now (s : State) (j : Station) :
    (s.addToRoster j).now = s.now := by unfold State.addToRoster; split <;> simp
@[simp] theorem addToRoster_area (s : State) (j : Station) :
    (s.addToRoster j).window.area = s.window.area := by unfold State.addToRoster; split <;> simp
@[simp] theorem enrol_pending (s : State) (j : Station) :
    (s.enrol j).pending = s.pending := by unfold State.enrol; split <;> simp
@[simp] theorem enrol_now (s : State) (j : Station) : (s.enrol j).now = s.now := by unfold State.enrol; split <;> simp
@[simp] theorem enrol_area (s : State) (j : Station) :
    (s.enrol j).window.area = s.window.area := by unfold State.enrol; split <;> simp
@[simp] theorem ownJoin_pending (s : State) (digest : BitVec 16) (founding : Bool) :
    (s.ownJoin digest founding).pending = s.pending := by unfold State.ownJoin; (repeat' split) <;> simp
@[simp] theorem ownJoin_now (s : State) (digest : BitVec 16) (founding : Bool) :
    (s.ownJoin digest founding).now = s.now := by unfold State.ownJoin; (repeat' split) <;> simp
@[simp] theorem ownJoin_area (s : State) (digest : BitVec 16) (founding : Bool) :
    (s.ownJoin digest founding).window.area = s.window.area := by unfold State.ownJoin; (repeat' split) <;> simp
@[simp] theorem leavingJoin_pending (s : State) (digest : BitVec 16) (founding : Bool) :
    (s.leavingJoin digest founding).pending = s.pending := by unfold State.leavingJoin; (repeat' split) <;> simp
@[simp] theorem leavingJoin_now (s : State) (digest : BitVec 16) (founding : Bool) :
    (s.leavingJoin digest founding).now = s.now := by unfold State.leavingJoin; (repeat' split) <;> simp
@[simp] theorem leavingJoin_area (s : State) (digest : BitVec 16) (founding : Bool) :
    (s.leavingJoin digest founding).window.area = s.window.area := by unfold State.leavingJoin; (repeat' split) <;> simp
@[simp] theorem peerJoin_pending (s : State) (j : Station) (digest : BitVec 16) (founding : Bool) :
    (s.peerJoin j digest founding).pending = s.pending := by unfold State.peerJoin; (repeat' split) <;> simp
@[simp] theorem peerJoin_now (s : State) (j : Station) (digest : BitVec 16) (founding : Bool) :
    (s.peerJoin j digest founding).now = s.now := by unfold State.peerJoin; (repeat' split) <;> simp
@[simp] theorem peerJoin_area (s : State) (j : Station) (digest : BitVec 16) (founding : Bool) :
    (s.peerJoin j digest founding).window.area = s.window.area := by unfold State.peerJoin; (repeat' split) <;> simp
@[simp] theorem applyJoin_pending (s : State) (j : Station) (digest : BitVec 16) (founding : Bool) :
    (s.applyJoin j digest founding).pending = s.pending := by unfold State.applyJoin; (repeat' split) <;> simp
@[simp] theorem applyJoin_now (s : State) (j : Station) (digest : BitVec 16) (founding : Bool) :
    (s.applyJoin j digest founding).now = s.now := by unfold State.applyJoin; (repeat' split) <;> simp
@[simp] theorem applyJoin_area (s : State) (j : Station) (digest : BitVec 16) (founding : Bool) :
    (s.applyJoin j digest founding).window.area = s.window.area := by unfold State.applyJoin; (repeat' split) <;> simp
@[simp] theorem removeIfIn_pending (s : State) (p : Station) (dropSender : Option Station) :
    (s.removeIfIn p dropSender).pending = s.pending := by unfold State.removeIfIn; split <;> simp
@[simp] theorem removeIfIn_now (s : State) (p : Station) (dropSender : Option Station) :
    (s.removeIfIn p dropSender).now = s.now := by unfold State.removeIfIn; split <;> simp
@[simp] theorem removeIfIn_area (s : State) (p : Station) (dropSender : Option Station) :
    (s.removeIfIn p dropSender).window.area = s.window.area := by unfold State.removeIfIn; split <;> simp
@[simp] theorem applyDrop_pending (s : State) (sender p : Station) :
    (s.applyDrop sender p).pending = s.pending := by unfold State.applyDrop; (repeat' split) <;> simp
@[simp] theorem applyDrop_now (s : State) (sender p : Station) :
    (s.applyDrop sender p).now = s.now := by unfold State.applyDrop; (repeat' split) <;> simp
@[simp] theorem applyDrop_area (s : State) (sender p : Station) :
    (s.applyDrop sender p).window.area = s.window.area := by unfold State.applyDrop; (repeat' split) <;> simp
@[simp] theorem applyLeave_pending (s : State) (sender : Station) :
    (s.applyLeave sender).pending = s.pending := by unfold State.applyLeave; (repeat' split) <;> simp
@[simp] theorem applyLeave_now (s : State) (sender : Station) :
    (s.applyLeave sender).now = s.now := by unfold State.applyLeave; (repeat' split) <;> simp
@[simp] theorem applyLeave_area (s : State) (sender : Station) :
    (s.applyLeave sender).window.area = s.window.area := by unfold State.applyLeave; (repeat' split) <;> simp
@[simp] theorem applyNote_pending (s : State) (r : Received) :
    (s.applyNote r).pending = s.pending := by unfold State.applyNote; (repeat' split) <;> simp
@[simp] theorem applyNote_now (s : State) (r : Received) :
    (s.applyNote r).now = s.now := by unfold State.applyNote; (repeat' split) <;> simp
@[simp] theorem applyNote_area (s : State) (r : Received) :
    (s.applyNote r).window.area = s.window.area := by unfold State.applyNote; (repeat' split) <;> simp
@[simp] theorem ignoreNote_pending (s : State) : (s.ignoreNote).pending = s.pending := rfl
@[simp] theorem ignoreNote_now (s : State) : (s.ignoreNote).now = s.now := rfl
@[simp] theorem ignoreNote_area (s : State) : (s.ignoreNote).window.area = s.window.area := rfl
@[simp] theorem processHead_pending (s : State) (r : Received) (rest : List Received) :
    (s.processHead r rest).pending = s.pending := by
  unfold State.processHead; try dsimp only
  (repeat' split) <;> simp
@[simp] theorem processHead_now (s : State) (r : Received) (rest : List Received) :
    (s.processHead r rest).now = s.now := by
  unfold State.processHead; try dsimp only
  (repeat' split) <;> simp
@[simp] theorem processHead_area (s : State) (r : Received) (rest : List Received) :
    (s.processHead r rest).window.area = s.window.area := by
  unfold State.processHead; try dsimp only
  (repeat' split) <;> simp
@[simp] theorem process_pending (s : State) (wanted : Note → Bool) :
    (s.process wanted).pending = s.pending := by unfold State.process; (repeat' split) <;> simp
@[simp] theorem process_now (s : State) (wanted : Note → Bool) :
    (s.process wanted).now = s.now := by unfold State.process; (repeat' split) <;> simp
@[simp] theorem process_area (s : State) (wanted : Note → Bool) :
    (s.process wanted).window.area = s.window.area := by unfold State.process; (repeat' split) <;> simp
@[simp] theorem acceptConfig_pending (s : State) (straps : Station) (samples : Vector Bool 4) :
    (s.acceptConfig straps samples).pending = s.pending := by simp [State.acceptConfig]
@[simp] theorem acceptConfig_now (s : State) (straps : Station) (samples : Vector Bool 4) :
    (s.acceptConfig straps samples).now = s.now := by simp [State.acceptConfig]
@[simp] theorem acceptConfig_area (s : State) (straps : Station) (samples : Vector Bool 4) :
    (s.acceptConfig straps samples).window.area = s.window.area := by simp [State.acceptConfig]
@[simp] theorem upset_pending (s : State) (upsets : List Host.Cell) : (s.upset upsets).pending = s.pending := rfl
@[simp] theorem upset_now (s : State) (upsets : List Host.Cell) : (s.upset upsets).now = s.now := rfl
@[simp] theorem corrupt_pending (s : State) :
    (s.corrupt).pending = s.pending := by unfold State.corrupt; split <;> simp
@[simp] theorem corrupt_now (s : State) : (s.corrupt).now = s.now := by unfold State.corrupt; split <;> simp
@[simp] theorem corrupt_area (s : State) :
    (s.corrupt).window.area = s.window.area := by unfold State.corrupt; split <;> simp
@[simp] theorem postGrant_pending (s : State) (c : Fin 8) (base : Nat) :
    (s.postGrant c base).pending = s.pending := by
  unfold State.postGrant; try dsimp only
  (repeat' split) <;> simp
@[simp] theorem postGrant_now (s : State) (c : Fin 8) (base : Nat) :
    (s.postGrant c base).now = s.now := by
  unfold State.postGrant; try dsimp only
  (repeat' split) <;> simp
@[simp] theorem postGrant_area (s : State) (c : Fin 8) (base : Nat) :
    (s.postGrant c base).window.area = s.window.area := by
  unfold State.postGrant; try dsimp only
  (repeat' split) <;> simp
@[simp] theorem gateCommand_pending (s : State) (code : Byte) (isOpen : Bool) :
    (s.gateCommand code isOpen).pending = s.pending := by unfold State.gateCommand; (repeat' split) <;> simp
@[simp] theorem gateCommand_now (s : State) (code : Byte) (isOpen : Bool) :
    (s.gateCommand code isOpen).now = s.now := by unfold State.gateCommand; (repeat' split) <;> simp
@[simp] theorem gateCommand_area (s : State) (code : Byte) (isOpen : Bool) :
    (s.gateCommand code isOpen).window.area = s.window.area := by unfold State.gateCommand; (repeat' split) <;> simp
@[simp] theorem setFaultLine_area (s : State) (level : Bool) :
    (s.setFaultLine level).window.area = s.window.area := rfl
@[simp] theorem resetWindow_pending (s : State) : (s.resetWindow).pending = s.pending := by simp [State.resetWindow]
@[simp] theorem resetWindow_now (s : State) : (s.resetWindow).now = s.now := by simp [State.resetWindow]
@[simp] theorem resetWindow_area (s : State) :
    (s.resetWindow).window.area = s.window.area := by simp [State.resetWindow]
@[simp] theorem resetMember_pending (s : State) :
    (s.resetMember).pending = s.pending := by
  unfold State.resetMember; try dsimp only
  repeat' split
  all_goals try simp
  all_goals try (refine (foldl_pending ?_ _ _).trans ?_ <;> (repeat' (first | intro _ | split)) <;> simp)
@[simp] theorem resetMember_now (s : State) :
    (s.resetMember).now = s.now := by
  unfold State.resetMember; try dsimp only
  repeat' split
  all_goals try simp
  all_goals try (refine (foldl_now ?_ _ _).trans ?_ <;> (repeat' (first | intro _ | split)) <;> simp)
@[simp] theorem resetMember_area (s : State) :
    (s.resetMember).window.area = s.window.area := by
  unfold State.resetMember; try dsimp only
  repeat' split
  all_goals try simp
  all_goals try (refine (foldl_area ?_ _ _).trans ?_ <;> (repeat' (first | intro _ | split)) <;> simp)

end Sys2Proof.Machine
end

