-- ==== Sys2Proof/Laws/FrameMembership.lean ====
section
/-! SUPPORT. The membership unit, the transmit queue and the record queue through every operation that leaves them alone. -/

namespace Sys2Proof.Machine

set_option linter.unusedTactic false
set_option linter.unreachableTactic false
set_option linter.unnecessarySeqFocus false

theorem foldl_mem {α : Type} {f : State → α → State} (h : ∀ s a, (f s a).mem = s.mem) (l : List α)
    (s : State) : (l.foldl f s).mem = s.mem := by
  induction l generalizing s with
  | nil => rfl
  | cons a l ih => exact (ih _).trans (h _ _)

theorem foldl_tx {α : Type} {f : State → α → State} (h : ∀ s a, (f s a).tx = s.tx) (l : List α)
    (s : State) : (l.foldl f s).tx = s.tx := by
  induction l generalizing s with
  | nil => rfl
  | cons a l ih => exact (ih _).trans (h _ _)

theorem foldl_records {α : Type} {f : State → α → State} (h : ∀ s a, (f s a).records = s.records) (l : List α)
    (s : State) : (l.foldl f s).records = s.records := by
  induction l generalizing s with
  | nil => rfl
  | cons a l ih => exact (ih _).trans (h _ _)

@[simp] theorem notice_mem (s : State) :
    (s.notice).mem = s.mem := by
  unfold State.notice; try dsimp only
  repeat' split
  all_goals try simp
  all_goals try (refine (foldl_mem ?_ _ _).trans ?_ <;> (repeat' (first | intro _ | split)) <;> simp)
@[simp] theorem notice_tx (s : State) :
    (s.notice).tx = s.tx := by
  unfold State.notice; try dsimp only
  repeat' split
  all_goals try simp
  all_goals try (refine (foldl_tx ?_ _ _).trans ?_ <;> (repeat' (first | intro _ | split)) <;> simp)
@[simp] theorem notice_records (s : State) :
    (s.notice).records = s.records := by
  unfold State.notice; try dsimp only
  repeat' split
  all_goals try simp
  all_goals try (refine (foldl_records ?_ _ _).trans ?_ <;> (repeat' (first | intro _ | split)) <;> simp)
@[simp] theorem event_mem (s : State) (k : EventKind) :
    (s.event k).mem = s.mem := by
  unfold State.event; try dsimp only
  repeat' split
  all_goals try simp
  all_goals try (refine (foldl_mem ?_ _ _).trans ?_ <;> (repeat' (first | intro _ | split)) <;> simp)
@[simp] theorem event_tx (s : State) (k : EventKind) :
    (s.event k).tx = s.tx := by
  unfold State.event; try dsimp only
  repeat' split
  all_goals try simp
  all_goals try (refine (foldl_tx ?_ _ _).trans ?_ <;> (repeat' (first | intro _ | split)) <;> simp)
@[simp] theorem event_records (s : State) (k : EventKind) :
    (s.event k).records = s.records := by
  unfold State.event; try dsimp only
  repeat' split
  all_goals try simp
  all_goals try (refine (foldl_records ?_ _ _).trans ?_ <;> (repeat' (first | intro _ | split)) <;> simp)
@[simp] theorem eventNoticed_mem (s : State) (k : EventKind) (enabled : Bool) :
    (s.eventNoticed k enabled).mem = s.mem := by
  unfold State.eventNoticed; try dsimp only
  repeat' split
  all_goals try simp
  all_goals try (refine (foldl_mem ?_ _ _).trans ?_ <;> (repeat' (first | intro _ | split)) <;> simp)
@[simp] theorem eventNoticed_tx (s : State) (k : EventKind) (enabled : Bool) :
    (s.eventNoticed k enabled).tx = s.tx := by
  unfold State.eventNoticed; try dsimp only
  repeat' split
  all_goals try simp
  all_goals try (refine (foldl_tx ?_ _ _).trans ?_ <;> (repeat' (first | intro _ | split)) <;> simp)
@[simp] theorem eventNoticed_records (s : State) (k : EventKind) (enabled : Bool) :
    (s.eventNoticed k enabled).records = s.records := by
  unfold State.eventNoticed; try dsimp only
  repeat' split
  all_goals try simp
  all_goals try (refine (foldl_records ?_ _ _).trans ?_ <;> (repeat' (first | intro _ | split)) <;> simp)
@[simp] theorem raise_mem (s : State) (k : FaultKind) :
    (s.raise k).mem = s.mem := by
  unfold State.raise; try dsimp only
  repeat' split
  all_goals try simp
  all_goals try (refine (foldl_mem ?_ _ _).trans ?_ <;> (repeat' (first | intro _ | split)) <;> simp)
@[simp] theorem raise_tx (s : State) (k : FaultKind) :
    (s.raise k).tx = s.tx := by
  unfold State.raise; try dsimp only
  repeat' split
  all_goals try simp
  all_goals try (refine (foldl_tx ?_ _ _).trans ?_ <;> (repeat' (first | intro _ | split)) <;> simp)
@[simp] theorem raise_records (s : State) (k : FaultKind) :
    (s.raise k).records = s.records := by
  unfold State.raise; try dsimp only
  repeat' split
  all_goals try simp
  all_goals try (refine (foldl_records ?_ _ _).trans ?_ <;> (repeat' (first | intro _ | split)) <;> simp)
@[simp] theorem changeState_tx (s : State) (st : StationState) :
    (s.changeState st).tx = s.tx := by
  unfold State.changeState; try dsimp only
  repeat' split
  all_goals try simp
  all_goals try (refine (foldl_tx ?_ _ _).trans ?_ <;> (repeat' (first | intro _ | split)) <;> simp)
@[simp] theorem changeState_records (s : State) (st : StationState) :
    (s.changeState st).records = s.records := by
  unfold State.changeState; try dsimp only
  repeat' split
  all_goals try simp
  all_goals try (refine (foldl_records ?_ _ _).trans ?_ <;> (repeat' (first | intro _ | split)) <;> simp)
@[simp] theorem claimFifo_mem (s : State) (c : Claim) :
    (s.claimFifo c).mem = s.mem := by
  unfold State.claimFifo; try dsimp only
  repeat' split
  all_goals try simp
  all_goals try (refine (foldl_mem ?_ _ _).trans ?_ <;> (repeat' (first | intro _ | split)) <;> simp)
@[simp] theorem claimFifo_records (s : State) (c : Claim) :
    (s.claimFifo c).records = s.records := by
  unfold State.claimFifo; try dsimp only
  repeat' split
  all_goals try simp
  all_goals try (refine (foldl_records ?_ _ _).trans ?_ <;> (repeat' (first | intro _ | split)) <;> simp)
@[simp] theorem claimDrop_mem (s : State) (p : Station) :
    (s.claimDrop p).mem = s.mem := by
  unfold State.claimDrop; try dsimp only
  repeat' split
  all_goals try simp
  all_goals try (refine (foldl_mem ?_ _ _).trans ?_ <;> (repeat' (first | intro _ | split)) <;> simp)
@[simp] theorem claimDrop_records (s : State) (p : Station) :
    (s.claimDrop p).records = s.records := by
  unfold State.claimDrop; try dsimp only
  repeat' split
  all_goals try simp
  all_goals try (refine (foldl_records ?_ _ _).trans ?_ <;> (repeat' (first | intro _ | split)) <;> simp)
@[simp] theorem claimRoll_mem (s : State) :
    (s.claimRoll).mem = s.mem := by
  unfold State.claimRoll; try dsimp only
  repeat' split
  all_goals try simp
  all_goals try (refine (foldl_mem ?_ _ _).trans ?_ <;> (repeat' (first | intro _ | split)) <;> simp)
@[simp] theorem claimRoll_records (s : State) :
    (s.claimRoll).records = s.records := by
  unfold State.claimRoll; try dsimp only
  repeat' split
  all_goals try simp
  all_goals try (refine (foldl_records ?_ _ _).trans ?_ <;> (repeat' (first | intro _ | split)) <;> simp)
@[simp] theorem lostGrantBy_mem (s : State) (c : Claim) :
    (s.lostGrantBy c).mem = s.mem := by
  unfold State.lostGrantBy; try dsimp only
  repeat' split
  all_goals try simp
  all_goals try (refine (foldl_mem ?_ _ _).trans ?_ <;> (repeat' (first | intro _ | split)) <;> simp)
@[simp] theorem lostGrantBy_tx (s : State) (c : Claim) :
    (s.lostGrantBy c).tx = s.tx := by
  unfold State.lostGrantBy; try dsimp only
  repeat' split
  all_goals try simp
  all_goals try (refine (foldl_tx ?_ _ _).trans ?_ <;> (repeat' (first | intro _ | split)) <;> simp)
@[simp] theorem lostGrantBy_records (s : State) (c : Claim) :
    (s.lostGrantBy c).records = s.records := by
  unfold State.lostGrantBy; try dsimp only
  repeat' split
  all_goals try simp
  all_goals try (refine (foldl_records ?_ _ _).trans ?_ <;> (repeat' (first | intro _ | split)) <;> simp)
@[simp] theorem withdrawn_mem (s : State) (n : Pending) (byReset : Bool) :
    (s.withdrawn n byReset).mem = s.mem := by
  unfold State.withdrawn; try dsimp only
  repeat' split
  all_goals try simp
  all_goals try (refine (foldl_mem ?_ _ _).trans ?_ <;> (repeat' (first | intro _ | split)) <;> simp)
@[simp] theorem withdrawn_tx (s : State) (n : Pending) (byReset : Bool) :
    (s.withdrawn n byReset).tx = s.tx := by
  unfold State.withdrawn; try dsimp only
  repeat' split
  all_goals try simp
  all_goals try (refine (foldl_tx ?_ _ _).trans ?_ <;> (repeat' (first | intro _ | split)) <;> simp)
@[simp] theorem withdrawn_records (s : State) (n : Pending) (byReset : Bool) :
    (s.withdrawn n byReset).records = s.records := by
  unfold State.withdrawn; try dsimp only
  repeat' split
  all_goals try simp
  all_goals try (refine (foldl_records ?_ _ _).trans ?_ <;> (repeat' (first | intro _ | split)) <;> simp)
@[simp] theorem claimOpening_mem (s : State) (k : Nat) :
    (s.claimOpening k).mem = s.mem := by
  unfold State.claimOpening; try dsimp only
  repeat' split
  all_goals try simp
  all_goals try (refine (foldl_mem ?_ _ _).trans ?_ <;> (repeat' (first | intro _ | split)) <;> simp)
@[simp] theorem claimOpening_records (s : State) (k : Nat) :
    (s.claimOpening k).records = s.records := by
  unfold State.claimOpening; try dsimp only
  repeat' split
  all_goals try simp
  all_goals try (refine (foldl_records ?_ _ _).trans ?_ <;> (repeat' (first | intro _ | split)) <;> simp)
@[simp] theorem claimRoster_mem (s : State) (c : Claim) :
    (s.claimRoster c).mem = s.mem := by
  unfold State.claimRoster; try dsimp only
  repeat' split
  all_goals try simp
  all_goals try (refine (foldl_mem ?_ _ _).trans ?_ <;> (repeat' (first | intro _ | split)) <;> simp)
@[simp] theorem claimRoster_records (s : State) (c : Claim) :
    (s.claimRoster c).records = s.records := by
  unfold State.claimRoster; try dsimp only
  repeat' split
  all_goals try simp
  all_goals try (refine (foldl_records ?_ _ _).trans ?_ <;> (repeat' (first | intro _ | split)) <;> simp)
@[simp] theorem withdrawFrom_mem (s : State) (k : NoteKind) (doom : Doom) (hit : Pending → Bool) :
    (s.withdrawFrom k doom hit).mem = s.mem := by
  unfold State.withdrawFrom; try dsimp only
  repeat' split
  all_goals try simp
  all_goals try (refine (foldl_mem ?_ _ _).trans ?_ <;> (repeat' (first | intro _ | split)) <;> simp)
@[simp] theorem withdrawFrom_records (s : State) (k : NoteKind) (doom : Doom) (hit : Pending → Bool) :
    (s.withdrawFrom k doom hit).records = s.records := by
  unfold State.withdrawFrom; try dsimp only
  repeat' split
  all_goals try simp
  all_goals try (refine (foldl_records ?_ _ _).trans ?_ <;> (repeat' (first | intro _ | split)) <;> simp)
@[simp] theorem withdrawAll_mem (s : State) (doom : Doom) (keepDone : Bool) :
    (s.withdrawAll doom keepDone).mem = s.mem := by
  unfold State.withdrawAll; try dsimp only
  repeat' split
  all_goals try simp
  all_goals try (refine (foldl_mem ?_ _ _).trans ?_ <;> (repeat' (first | intro _ | split)) <;> simp)
@[simp] theorem withdrawAll_records (s : State) (doom : Doom) (keepDone : Bool) :
    (s.withdrawAll doom keepDone).records = s.records := by
  unfold State.withdrawAll; try dsimp only
  repeat' split
  all_goals try simp
  all_goals try (refine (foldl_records ?_ _ _).trans ?_ <;> (repeat' (first | intro _ | split)) <;> simp)
@[simp] theorem keepLeaveClaimed_mem (s : State) :
    (s.keepLeaveClaimed).mem = s.mem := by
  unfold State.keepLeaveClaimed; try dsimp only
  repeat' split
  all_goals try simp
  all_goals try (refine (foldl_mem ?_ _ _).trans ?_ <;> (repeat' (first | intro _ | split)) <;> simp)
@[simp] theorem keepLeaveClaimed_records (s : State) :
    (s.keepLeaveClaimed).records = s.records := by
  unfold State.keepLeaveClaimed; try dsimp only
  repeat' split
  all_goals try simp
  all_goals try (refine (foldl_records ?_ _ _).trans ?_ <;> (repeat' (first | intro _ | split)) <;> simp)
@[simp] theorem modifyLeg_mem (s : State) (i : Fin 8) (j : Fin 2) (f : Leg → Leg) :
    (s.modifyLeg i j f).mem = s.mem := by
  unfold State.modifyLeg; try dsimp only
  repeat' split
  all_goals try simp
  all_goals try (refine (foldl_mem ?_ _ _).trans ?_ <;> (repeat' (first | intro _ | split)) <;> simp)
@[simp] theorem modifyLeg_tx (s : State) (i : Fin 8) (j : Fin 2) (f : Leg → Leg) :
    (s.modifyLeg i j f).tx = s.tx := by
  unfold State.modifyLeg; try dsimp only
  repeat' split
  all_goals try simp
  all_goals try (refine (foldl_tx ?_ _ _).trans ?_ <;> (repeat' (first | intro _ | split)) <;> simp)
@[simp] theorem modifyLeg_records (s : State) (i : Fin 8) (j : Fin 2) (f : Leg → Leg) :
    (s.modifyLeg i j f).records = s.records := by
  unfold State.modifyLeg; try dsimp only
  repeat' split
  all_goals try simp
  all_goals try (refine (foldl_records ?_ _ _).trans ?_ <;> (repeat' (first | intro _ | split)) <;> simp)
@[simp] theorem modifyPart_mem (s : State) (i : Fin 8) (j : Fin 2) (f : OwnPart → OwnPart) :
    (s.modifyPart i j f).mem = s.mem := by
  unfold State.modifyPart; try dsimp only
  repeat' split
  all_goals try simp
  all_goals try (refine (foldl_mem ?_ _ _).trans ?_ <;> (repeat' (first | intro _ | split)) <;> simp)
@[simp] theorem modifyPart_tx (s : State) (i : Fin 8) (j : Fin 2) (f : OwnPart → OwnPart) :
    (s.modifyPart i j f).tx = s.tx := by
  unfold State.modifyPart; try dsimp only
  repeat' split
  all_goals try simp
  all_goals try (refine (foldl_tx ?_ _ _).trans ?_ <;> (repeat' (first | intro _ | split)) <;> simp)
@[simp] theorem modifyPart_records (s : State) (i : Fin 8) (j : Fin 2) (f : OwnPart → OwnPart) :
    (s.modifyPart i j f).records = s.records := by
  unfold State.modifyPart; try dsimp only
  repeat' split
  all_goals try simp
  all_goals try (refine (foldl_records ?_ _ _).trans ?_ <;> (repeat' (first | intro _ | split)) <;> simp)
@[simp] theorem dropFlush_mem (s : State) (i : Fin 8) (j : Fin 2) :
    (s.dropFlush i j).mem = s.mem := by
  unfold State.dropFlush; try dsimp only
  repeat' split
  all_goals try simp
  all_goals try (refine (foldl_mem ?_ _ _).trans ?_ <;> (repeat' (first | intro _ | split)) <;> simp)
@[simp] theorem dropFlush_tx (s : State) (i : Fin 8) (j : Fin 2) :
    (s.dropFlush i j).tx = s.tx := by
  unfold State.dropFlush; try dsimp only
  repeat' split
  all_goals try simp
  all_goals try (refine (foldl_tx ?_ _ _).trans ?_ <;> (repeat' (first | intro _ | split)) <;> simp)
@[simp] theorem dropFlush_records (s : State) (i : Fin 8) (j : Fin 2) :
    (s.dropFlush i j).records = s.records := by
  unfold State.dropFlush; try dsimp only
  repeat' split
  all_goals try simp
  all_goals try (refine (foldl_records ?_ _ _).trans ?_ <;> (repeat' (first | intro _ | split)) <;> simp)
@[simp] theorem claimDone_mem (s : State) (i : Fin 8) (j : Fin 2) (delivered : Bool) :
    (s.claimDone i j delivered).mem = s.mem := by
  unfold State.claimDone; try dsimp only
  repeat' split
  all_goals try simp
  all_goals try (refine (foldl_mem ?_ _ _).trans ?_ <;> (repeat' (first | intro _ | split)) <;> simp)
@[simp] theorem claimDone_records (s : State) (i : Fin 8) (j : Fin 2) (delivered : Bool) :
    (s.claimDone i j delivered).records = s.records := by
  unfold State.claimDone; try dsimp only
  repeat' split
  all_goals try simp
  all_goals try (refine (foldl_records ?_ _ _).trans ?_ <;> (repeat' (first | intro _ | split)) <;> simp)
@[simp] theorem markVoid_mem (s : State) (i : Fin 8) (j : Fin 2) :
    (s.markVoid i j).mem = s.mem := by
  unfold State.markVoid; try dsimp only
  repeat' split
  all_goals try simp
  all_goals try (refine (foldl_mem ?_ _ _).trans ?_ <;> (repeat' (first | intro _ | split)) <;> simp)
@[simp] theorem markVoid_tx (s : State) (i : Fin 8) (j : Fin 2) :
    (s.markVoid i j).tx = s.tx := by
  unfold State.markVoid; try dsimp only
  repeat' split
  all_goals try simp
  all_goals try (refine (foldl_tx ?_ _ _).trans ?_ <;> (repeat' (first | intro _ | split)) <;> simp)
@[simp] theorem markVoid_records (s : State) (i : Fin 8) (j : Fin 2) :
    (s.markVoid i j).records = s.records := by
  unfold State.markVoid; try dsimp only
  repeat' split
  all_goals try simp
  all_goals try (refine (foldl_records ?_ _ _).trans ?_ <;> (repeat' (first | intro _ | split)) <;> simp)
@[simp] theorem voidPart_mem (s : State) (i : Fin 8) (j : Fin 2) :
    (s.voidPart i j).mem = s.mem := by
  unfold State.voidPart; try dsimp only
  repeat' split
  all_goals try simp
  all_goals try (refine (foldl_mem ?_ _ _).trans ?_ <;> (repeat' (first | intro _ | split)) <;> simp)
@[simp] theorem voidPart_records (s : State) (i : Fin 8) (j : Fin 2) :
    (s.voidPart i j).records = s.records := by
  unfold State.voidPart; try dsimp only
  repeat' split
  all_goals try simp
  all_goals try (refine (foldl_records ?_ _ _).trans ?_ <;> (repeat' (first | intro _ | split)) <;> simp)
@[simp] theorem reportPart_mem (s : State) (i : Fin 8) (j : Fin 2) :
    (s.reportPart i j).mem = s.mem := by
  unfold State.reportPart; try dsimp only
  repeat' split
  all_goals try simp
  all_goals try (refine (foldl_mem ?_ _ _).trans ?_ <;> (repeat' (first | intro _ | split)) <;> simp)
@[simp] theorem reportPart_records (s : State) (i : Fin 8) (j : Fin 2) :
    (s.reportPart i j).records = s.records := by
  unfold State.reportPart; try dsimp only
  repeat' split
  all_goals try simp
  all_goals try (refine (foldl_records ?_ _ _).trans ?_ <;> (repeat' (first | intro _ | split)) <;> simp)
@[simp] theorem startLegTimers_mem (s : State) :
    (s.startLegTimers).mem = s.mem := by
  unfold State.startLegTimers; try dsimp only
  repeat' split
  all_goals try simp
  all_goals try (refine (foldl_mem ?_ _ _).trans ?_ <;> (repeat' (first | intro _ | split)) <;> simp)
@[simp] theorem startLegTimers_tx (s : State) :
    (s.startLegTimers).tx = s.tx := by
  unfold State.startLegTimers; try dsimp only
  repeat' split
  all_goals try simp
  all_goals try (refine (foldl_tx ?_ _ _).trans ?_ <;> (repeat' (first | intro _ | split)) <;> simp)
@[simp] theorem startLegTimers_records (s : State) :
    (s.startLegTimers).records = s.records := by
  unfold State.startLegTimers; try dsimp only
  repeat' split
  all_goals try simp
  all_goals try (refine (foldl_records ?_ _ _).trans ?_ <;> (repeat' (first | intro _ | split)) <;> simp)
@[simp] theorem dropTurn_mem (s : State) :
    (s.dropTurn).mem = s.mem := by
  unfold State.dropTurn; try dsimp only
  repeat' split
  all_goals try simp
  all_goals try (refine (foldl_mem ?_ _ _).trans ?_ <;> (repeat' (first | intro _ | split)) <;> simp)
@[simp] theorem dropTurn_tx (s : State) :
    (s.dropTurn).tx = s.tx := by
  unfold State.dropTurn; try dsimp only
  repeat' split
  all_goals try simp
  all_goals try (refine (foldl_tx ?_ _ _).trans ?_ <;> (repeat' (first | intro _ | split)) <;> simp)
@[simp] theorem dropTurn_records (s : State) :
    (s.dropTurn).records = s.records := by
  unfold State.dropTurn; try dsimp only
  repeat' split
  all_goals try simp
  all_goals try (refine (foldl_records ?_ _ _).trans ?_ <;> (repeat' (first | intro _ | split)) <;> simp)
@[simp] theorem beginRecord_mem (s : State) :
    (s.beginRecord).mem = s.mem := by
  unfold State.beginRecord; try dsimp only
  repeat' split
  all_goals try simp
  all_goals try (refine (foldl_mem ?_ _ _).trans ?_ <;> (repeat' (first | intro _ | split)) <;> simp)
@[simp] theorem beginRecord_tx (s : State) :
    (s.beginRecord).tx = s.tx := by
  unfold State.beginRecord; try dsimp only
  repeat' split
  all_goals try simp
  all_goals try (refine (foldl_tx ?_ _ _).trans ?_ <;> (repeat' (first | intro _ | split)) <;> simp)
@[simp] theorem offerRecord_mem (s : State) (r : FrameRecord) :
    (s.offerRecord r).mem = s.mem := by
  unfold State.offerRecord; try dsimp only
  repeat' split
  all_goals try simp
  all_goals try (refine (foldl_mem ?_ _ _).trans ?_ <;> (repeat' (first | intro _ | split)) <;> simp)
@[simp] theorem offerRecord_tx (s : State) (r : FrameRecord) :
    (s.offerRecord r).tx = s.tx := by
  unfold State.offerRecord; try dsimp only
  repeat' split
  all_goals try simp
  all_goals try (refine (foldl_tx ?_ _ _).trans ?_ <;> (repeat' (first | intro _ | split)) <;> simp)
@[simp] theorem retireLeg_mem (s : State) (i : Fin 8) (j : Fin 2) :
    (s.retireLeg i j).mem = s.mem := by
  unfold State.retireLeg; try dsimp only
  repeat' split
  all_goals try simp
  all_goals try (refine (foldl_mem ?_ _ _).trans ?_ <;> (repeat' (first | intro _ | split)) <;> simp)
@[simp] theorem retireLeg_tx (s : State) (i : Fin 8) (j : Fin 2) :
    (s.retireLeg i j).tx = s.tx := by
  unfold State.retireLeg; try dsimp only
  repeat' split
  all_goals try simp
  all_goals try (refine (foldl_tx ?_ _ _).trans ?_ <;> (repeat' (first | intro _ | split)) <;> simp)
@[simp] theorem retireLeg_records (s : State) (i : Fin 8) (j : Fin 2) :
    (s.retireLeg i j).records = s.records := by
  unfold State.retireLeg; try dsimp only
  repeat' split
  all_goals try simp
  all_goals try (refine (foldl_records ?_ _ _).trans ?_ <;> (repeat' (first | intro _ | split)) <;> simp)
@[simp] theorem postLeg_mem (s : State) (i : Fin 8) (j : Fin 2) (poster : Option Station) :
    (s.postLeg i j poster).mem = s.mem := by
  unfold State.postLeg; try dsimp only
  repeat' split
  all_goals try simp
  all_goals try (refine (foldl_mem ?_ _ _).trans ?_ <;> (repeat' (first | intro _ | split)) <;> simp)
@[simp] theorem postLeg_tx (s : State) (i : Fin 8) (j : Fin 2) (poster : Option Station) :
    (s.postLeg i j poster).tx = s.tx := by
  unfold State.postLeg; try dsimp only
  repeat' split
  all_goals try simp
  all_goals try (refine (foldl_tx ?_ _ _).trans ?_ <;> (repeat' (first | intro _ | split)) <;> simp)
@[simp] theorem testLeg_mem (s : State) (i : Fin 8) (j : Fin 2) (poster : Option Station) (byRemoval : Bool) :
    (s.testLeg i j poster byRemoval).mem = s.mem := by
  unfold State.testLeg; try dsimp only
  repeat' split
  all_goals try simp
  all_goals try (refine (foldl_mem ?_ _ _).trans ?_ <;> (repeat' (first | intro _ | split)) <;> simp)
@[simp] theorem testLeg_tx (s : State) (i : Fin 8) (j : Fin 2) (poster : Option Station) (byRemoval : Bool) :
    (s.testLeg i j poster byRemoval).tx = s.tx := by
  unfold State.testLeg; try dsimp only
  repeat' split
  all_goals try simp
  all_goals try (refine (foldl_tx ?_ _ _).trans ?_ <;> (repeat' (first | intro _ | split)) <;> simp)
@[simp] theorem removeFromLegs_mem (s : State) (p : Station) (poster : Option Station) :
    (s.removeFromLegs p poster).mem = s.mem := by
  unfold State.removeFromLegs; try dsimp only
  repeat' split
  all_goals try simp
  all_goals try (refine (foldl_mem ?_ _ _).trans ?_ <;> (repeat' (first | intro _ | split)) <;> simp)
@[simp] theorem removeFromLegs_tx (s : State) (p : Station) (poster : Option Station) :
    (s.removeFromLegs p poster).tx = s.tx := by
  unfold State.removeFromLegs; try dsimp only
  repeat' split
  all_goals try simp
  all_goals try (refine (foldl_tx ?_ _ _).trans ?_ <;> (repeat' (first | intro _ | split)) <;> simp)
@[simp] theorem dropHeadRecord_mem (s : State) :
    (s.dropHeadRecord).mem = s.mem := by
  unfold State.dropHeadRecord; try dsimp only
  repeat' split
  all_goals try simp
  all_goals try (refine (foldl_mem ?_ _ _).trans ?_ <;> (repeat' (first | intro _ | split)) <;> simp)
@[simp] theorem dropHeadRecord_tx (s : State) :
    (s.dropHeadRecord).tx = s.tx := by
  unfold State.dropHeadRecord; try dsimp only
  repeat' split
  all_goals try simp
  all_goals try (refine (foldl_tx ?_ _ _).trans ?_ <;> (repeat' (first | intro _ | split)) <;> simp)
@[simp] theorem emptyRecords_mem (s : State) :
    (s.emptyRecords).mem = s.mem := by
  unfold State.emptyRecords; try dsimp only
  repeat' split
  all_goals try simp
  all_goals try (refine (foldl_mem ?_ _ _).trans ?_ <;> (repeat' (first | intro _ | split)) <;> simp)
@[simp] theorem emptyRecords_tx (s : State) :
    (s.emptyRecords).tx = s.tx := by
  unfold State.emptyRecords; try dsimp only
  repeat' split
  all_goals try simp
  all_goals try (refine (foldl_tx ?_ _ _).trans ?_ <;> (repeat' (first | intro _ | split)) <;> simp)
@[simp] theorem applyDone_mem (s : State) (sender : Station) (frame : BitVec 16) (stream : Fin 2) (delivered : Bool) (gapRows : BitVec 17) :
    (s.applyDone sender frame stream delivered gapRows).mem = s.mem := by
  unfold State.applyDone; try dsimp only
  repeat' split
  all_goals try simp
  all_goals try (refine (foldl_mem ?_ _ _).trans ?_ <;> (repeat' (first | intro _ | split)) <;> simp)
@[simp] theorem applyDone_tx (s : State) (sender : Station) (frame : BitVec 16) (stream : Fin 2) (delivered : Bool) (gapRows : BitVec 17) :
    (s.applyDone sender frame stream delivered gapRows).tx = s.tx := by
  unfold State.applyDone; try dsimp only
  repeat' split
  all_goals try simp
  all_goals try (refine (foldl_tx ?_ _ _).trans ?_ <;> (repeat' (first | intro _ | split)) <;> simp)
@[simp] theorem judgeWait_mem (s : State) (t : Tap) :
    (s.judgeWait t).mem = s.mem := by
  unfold State.judgeWait; try dsimp only
  repeat' split
  all_goals try simp
  all_goals try (refine (foldl_mem ?_ _ _).trans ?_ <;> (repeat' (first | intro _ | split)) <;> simp)
@[simp] theorem discardHeads_mem (t : Tap) (l : List Line) (s : State) :
    (State.discardHeads t l s).mem = s.mem := by
  induction l generalizing s with
  | nil => rfl
  | cons a l ih => unfold State.discardHeads; split <;> simp [ih]

@[simp] theorem judgeWait_tx (s : State) (t : Tap) :
    (s.judgeWait t).tx = s.tx := by
  unfold State.judgeWait; try dsimp only
  repeat' split
  all_goals try simp
  all_goals try (refine (foldl_tx ?_ _ _).trans ?_ <;> (repeat' (first | intro _ | split)) <;> simp)
@[simp] theorem discardHeads_tx (t : Tap) (l : List Line) (s : State) :
    (State.discardHeads t l s).tx = s.tx := by
  induction l generalizing s with
  | nil => rfl
  | cons a l ih => unfold State.discardHeads; split <;> simp [ih]

@[simp] theorem judgeWait_records (s : State) (t : Tap) :
    (s.judgeWait t).records = s.records := by
  unfold State.judgeWait; try dsimp only
  repeat' split
  all_goals try simp
  all_goals try (refine (foldl_records ?_ _ _).trans ?_ <;> (repeat' (first | intro _ | split)) <;> simp)
@[simp] theorem discardHeads_records (t : Tap) (l : List Line) (s : State) :
    (State.discardHeads t l s).records = s.records := by
  induction l generalizing s with
  | nil => rfl
  | cons a l ih => unfold State.discardHeads; split <;> simp [ih]

@[simp] theorem tapDone_mem (s : State) (t : Tap) (k : Nat) :
    (s.tapDone t k).mem = s.mem := by
  unfold State.tapDone; try dsimp only
  repeat' split
  all_goals try simp
  all_goals try (refine (foldl_mem ?_ _ _).trans ?_ <;> (repeat' (first | intro _ | split)) <;> simp)
@[simp] theorem tapDone_tx (s : State) (t : Tap) (k : Nat) :
    (s.tapDone t k).tx = s.tx := by
  unfold State.tapDone; try dsimp only
  repeat' split
  all_goals try simp
  all_goals try (refine (foldl_tx ?_ _ _).trans ?_ <;> (repeat' (first | intro _ | split)) <;> simp)
@[simp] theorem tapDone_records (s : State) (t : Tap) (k : Nat) :
    (s.tapDone t k).records = s.records := by
  unfold State.tapDone; try dsimp only
  repeat' split
  all_goals try simp
  all_goals try (refine (foldl_records ?_ _ _).trans ?_ <;> (repeat' (first | intro _ | split)) <;> simp)
@[simp] theorem finishMarked_mem (s : State) (t : Tap) :
    (s.finishMarked t).mem = s.mem := by
  unfold State.finishMarked; try dsimp only
  repeat' split
  all_goals try simp
  all_goals try (refine (foldl_mem ?_ _ _).trans ?_ <;> (repeat' (first | intro _ | split)) <;> simp)
@[simp] theorem finishMarked_tx (s : State) (t : Tap) :
    (s.finishMarked t).tx = s.tx := by
  unfold State.finishMarked; try dsimp only
  repeat' split
  all_goals try simp
  all_goals try (refine (foldl_tx ?_ _ _).trans ?_ <;> (repeat' (first | intro _ | split)) <;> simp)
@[simp] theorem finishMarked_records (s : State) (t : Tap) :
    (s.finishMarked t).records = s.records := by
  unfold State.finishMarked; try dsimp only
  repeat' split
  all_goals try simp
  all_goals try (refine (foldl_records ?_ _ _).trans ?_ <;> (repeat' (first | intro _ | split)) <;> simp)
@[simp] theorem startFlushes_mem (s : State) :
    (s.startFlushes).mem = s.mem := by
  unfold State.startFlushes; try dsimp only
  repeat' split
  all_goals try simp
  all_goals try (refine (foldl_mem ?_ _ _).trans ?_ <;> (repeat' (first | intro _ | split)) <;> simp)
@[simp] theorem startFlushes_tx (s : State) :
    (s.startFlushes).tx = s.tx := by
  unfold State.startFlushes; try dsimp only
  repeat' split
  all_goals try simp
  all_goals try (refine (foldl_tx ?_ _ _).trans ?_ <;> (repeat' (first | intro _ | split)) <;> simp)
@[simp] theorem startFlushes_records (s : State) :
    (s.startFlushes).records = s.records := by
  unfold State.startFlushes; try dsimp only
  repeat' split
  all_goals try simp
  all_goals try (refine (foldl_records ?_ _ _).trans ?_ <;> (repeat' (first | intro _ | split)) <;> simp)
@[simp] theorem endCheck_mem (s : State) (t : Tap) :
    (s.endCheck t).mem = s.mem := by
  unfold State.endCheck; try dsimp only
  repeat' split
  all_goals try simp
  all_goals try (refine (foldl_mem ?_ _ _).trans ?_ <;> (repeat' (first | intro _ | split)) <;> simp)
@[simp] theorem endCheck_tx (s : State) (t : Tap) :
    (s.endCheck t).tx = s.tx := by
  unfold State.endCheck; try dsimp only
  repeat' split
  all_goals try simp
  all_goals try (refine (foldl_tx ?_ _ _).trans ?_ <;> (repeat' (first | intro _ | split)) <;> simp)
@[simp] theorem endCheck_records (s : State) (t : Tap) :
    (s.endCheck t).records = s.records := by
  unfold State.endCheck; try dsimp only
  repeat' split
  all_goals try simp
  all_goals try (refine (foldl_records ?_ _ _).trans ?_ <;> (repeat' (first | intro _ | split)) <;> simp)
@[simp] theorem endChecks_mem (s : State) :
    (s.endChecks).mem = s.mem := by
  unfold State.endChecks; try dsimp only
  repeat' split
  all_goals try simp
  all_goals try (refine (foldl_mem ?_ _ _).trans ?_ <;> (repeat' (first | intro _ | split)) <;> simp)
@[simp] theorem endChecks_tx (s : State) :
    (s.endChecks).tx = s.tx := by
  unfold State.endChecks; try dsimp only
  repeat' split
  all_goals try simp
  all_goals try (refine (foldl_tx ?_ _ _).trans ?_ <;> (repeat' (first | intro _ | split)) <;> simp)
@[simp] theorem endChecks_records (s : State) :
    (s.endChecks).records = s.records := by
  unfold State.endChecks; try dsimp only
  repeat' split
  all_goals try simp
  all_goals try (refine (foldl_records ?_ _ _).trans ?_ <;> (repeat' (first | intro _ | split)) <;> simp)
@[simp] theorem settleTap_mem (s : State) (t : Tap) :
    (s.settleTap t).mem = s.mem := by
  unfold State.settleTap; try dsimp only
  repeat' split
  all_goals try simp
  all_goals try (refine (foldl_mem ?_ _ _).trans ?_ <;> (repeat' (first | intro _ | split)) <;> simp)
@[simp] theorem settleTap_tx (s : State) (t : Tap) :
    (s.settleTap t).tx = s.tx := by
  unfold State.settleTap; try dsimp only
  repeat' split
  all_goals try simp
  all_goals try (refine (foldl_tx ?_ _ _).trans ?_ <;> (repeat' (first | intro _ | split)) <;> simp)
@[simp] theorem settleTap_records (s : State) (t : Tap) :
    (s.settleTap t).records = s.records := by
  unfold State.settleTap; try dsimp only
  repeat' split
  all_goals try simp
  all_goals try (refine (foldl_records ?_ _ _).trans ?_ <;> (repeat' (first | intro _ | split)) <;> simp)
@[simp] theorem settle_mem (s : State) :
    (s.settle).mem = s.mem := by
  unfold State.settle; try dsimp only
  repeat' split
  all_goals try simp
  all_goals try (refine (foldl_mem ?_ _ _).trans ?_ <;> (repeat' (first | intro _ | split)) <;> simp)
@[simp] theorem settle_tx (s : State) :
    (s.settle).tx = s.tx := by
  unfold State.settle; try dsimp only
  repeat' split
  all_goals try simp
  all_goals try (refine (foldl_tx ?_ _ _).trans ?_ <;> (repeat' (first | intro _ | split)) <;> simp)
@[simp] theorem settle_records (s : State) :
    (s.settle).records = s.records := by
  unfold State.settle; try dsimp only
  repeat' split
  all_goals try simp
  all_goals try (refine (foldl_records ?_ _ _).trans ?_ <;> (repeat' (first | intro _ | split)) <;> simp)
@[simp] theorem rowFilled_mem (s : State) (t : Tap) (r : Nat) :
    (s.rowFilled t r).mem = s.mem := by
  unfold State.rowFilled; try dsimp only
  repeat' split
  all_goals try simp
  all_goals try (refine (foldl_mem ?_ _ _).trans ?_ <;> (repeat' (first | intro _ | split)) <;> simp)
@[simp] theorem rowFilled_tx (s : State) (t : Tap) (r : Nat) :
    (s.rowFilled t r).tx = s.tx := by
  unfold State.rowFilled; try dsimp only
  repeat' split
  all_goals try simp
  all_goals try (refine (foldl_tx ?_ _ _).trans ?_ <;> (repeat' (first | intro _ | split)) <;> simp)
@[simp] theorem rowFilled_records (s : State) (t : Tap) (r : Nat) :
    (s.rowFilled t r).records = s.records := by
  unfold State.rowFilled; try dsimp only
  repeat' split
  all_goals try simp
  all_goals try (refine (foldl_records ?_ _ _).trans ?_ <;> (repeat' (first | intro _ | split)) <;> simp)
@[simp] theorem startTurn_mem (s : State) (t : Tap) :
    (s.startTurn t).mem = s.mem := by
  unfold State.startTurn; try dsimp only
  repeat' split
  all_goals try simp
  all_goals try (refine (foldl_mem ?_ _ _).trans ?_ <;> (repeat' (first | intro _ | split)) <;> simp)
@[simp] theorem startTurn_tx (s : State) (t : Tap) :
    (s.startTurn t).tx = s.tx := by
  unfold State.startTurn; try dsimp only
  repeat' split
  all_goals try simp
  all_goals try (refine (foldl_tx ?_ _ _).trans ?_ <;> (repeat' (first | intro _ | split)) <;> simp)
@[simp] theorem startTurn_records (s : State) (t : Tap) :
    (s.startTurn t).records = s.records := by
  unfold State.startTurn; try dsimp only
  repeat' split
  all_goals try simp
  all_goals try (refine (foldl_records ?_ _ _).trans ?_ <;> (repeat' (first | intro _ | split)) <;> simp)
@[simp] theorem endTurn_mem (s : State) (tu : Turn) :
    (s.endTurn tu).mem = s.mem := by
  unfold State.endTurn; try dsimp only
  repeat' split
  all_goals try simp
  all_goals try (refine (foldl_mem ?_ _ _).trans ?_ <;> (repeat' (first | intro _ | split)) <;> simp)
@[simp] theorem endTurn_tx (s : State) (tu : Turn) :
    (s.endTurn tu).tx = s.tx := by
  unfold State.endTurn; try dsimp only
  repeat' split
  all_goals try simp
  all_goals try (refine (foldl_tx ?_ _ _).trans ?_ <;> (repeat' (first | intro _ | split)) <;> simp)
@[simp] theorem endTurn_records (s : State) (tu : Turn) :
    (s.endTurn tu).records = s.records := by
  unfold State.endTurn; try dsimp only
  repeat' split
  all_goals try simp
  all_goals try (refine (foldl_records ?_ _ _).trans ?_ <;> (repeat' (first | intro _ | split)) <;> simp)
@[simp] theorem storeRow_mem (s : State) (t : Tap) (l : Line) :
    (s.storeRow t l).mem = s.mem := by
  unfold State.storeRow; try dsimp only
  repeat' split
  all_goals try simp
  all_goals try (refine (foldl_mem ?_ _ _).trans ?_ <;> (repeat' (first | intro _ | split)) <;> simp)
@[simp] theorem storeRow_tx (s : State) (t : Tap) (l : Line) :
    (s.storeRow t l).tx = s.tx := by
  unfold State.storeRow; try dsimp only
  repeat' split
  all_goals try simp
  all_goals try (refine (foldl_tx ?_ _ _).trans ?_ <;> (repeat' (first | intro _ | split)) <;> simp)
@[simp] theorem storeRow_records (s : State) (t : Tap) (l : Line) :
    (s.storeRow t l).records = s.records := by
  unfold State.storeRow; try dsimp only
  repeat' split
  all_goals try simp
  all_goals try (refine (foldl_records ?_ _ _).trans ?_ <;> (repeat' (first | intro _ | split)) <;> simp)
@[simp] theorem lineWritten_mem (s : State) (t : Tap) (l : Line) (i : Fin 8) (j : Fin 2) :
    (s.lineWritten t l i j).mem = s.mem := by
  unfold State.lineWritten; try dsimp only
  repeat' split
  all_goals try simp
  all_goals try (refine (foldl_mem ?_ _ _).trans ?_ <;> (repeat' (first | intro _ | split)) <;> simp)
@[simp] theorem lineWritten_tx (s : State) (t : Tap) (l : Line) (i : Fin 8) (j : Fin 2) :
    (s.lineWritten t l i j).tx = s.tx := by
  unfold State.lineWritten; try dsimp only
  repeat' split
  all_goals try simp
  all_goals try (refine (foldl_tx ?_ _ _).trans ?_ <;> (repeat' (first | intro _ | split)) <;> simp)
@[simp] theorem lineWritten_records (s : State) (t : Tap) (l : Line) (i : Fin 8) (j : Fin 2) :
    (s.lineWritten t l i j).records = s.records := by
  unfold State.lineWritten; try dsimp only
  repeat' split
  all_goals try simp
  all_goals try (refine (foldl_records ?_ _ _).trans ?_ <;> (repeat' (first | intro _ | split)) <;> simp)
@[simp] theorem issueRecordClass_mem (s : State) (r : PortRequest) :
    (s.issueRecordClass r).mem = s.mem := by
  unfold State.issueRecordClass; try dsimp only
  repeat' split
  all_goals try simp
  all_goals try (refine (foldl_mem ?_ _ _).trans ?_ <;> (repeat' (first | intro _ | split)) <;> simp)
@[simp] theorem issueRecordClass_tx (s : State) (r : PortRequest) :
    (s.issueRecordClass r).tx = s.tx := by
  unfold State.issueRecordClass; try dsimp only
  repeat' split
  all_goals try simp
  all_goals try (refine (foldl_tx ?_ _ _).trans ?_ <;> (repeat' (first | intro _ | split)) <;> simp)
@[simp] theorem cutTurn_mem (s : State) (i : Fin 8) (j : Fin 2) :
    (s.cutTurn i j).mem = s.mem := by
  unfold State.cutTurn; try dsimp only
  repeat' split
  all_goals try simp
  all_goals try (refine (foldl_mem ?_ _ _).trans ?_ <;> (repeat' (first | intro _ | split)) <;> simp)
@[simp] theorem cutTurn_tx (s : State) (i : Fin 8) (j : Fin 2) :
    (s.cutTurn i j).tx = s.tx := by
  unfold State.cutTurn; try dsimp only
  repeat' split
  all_goals try simp
  all_goals try (refine (foldl_tx ?_ _ _).trans ?_ <;> (repeat' (first | intro _ | split)) <;> simp)
@[simp] theorem cutTurn_records (s : State) (i : Fin 8) (j : Fin 2) :
    (s.cutTurn i j).records = s.records := by
  unfold State.cutTurn; try dsimp only
  repeat' split
  all_goals try simp
  all_goals try (refine (foldl_records ?_ _ _).trans ?_ <;> (repeat' (first | intro _ | split)) <;> simp)
@[simp] theorem voidParts_mem (s : State) :
    (s.voidParts).mem = s.mem := by
  unfold State.voidParts; try dsimp only
  repeat' split
  all_goals try simp
  all_goals try (refine (foldl_mem ?_ _ _).trans ?_ <;> (repeat' (first | intro _ | split)) <;> simp)
@[simp] theorem voidParts_records (s : State) :
    (s.voidParts).records = s.records := by
  unfold State.voidParts; try dsimp only
  repeat' split
  all_goals try simp
  all_goals try (refine (foldl_records ?_ _ _).trans ?_ <;> (repeat' (first | intro _ | split)) <;> simp)
@[simp] theorem takePulse_mem (s : State) (j : Fin 4) (x : Nat) :
    (s.takePulse j x).mem = s.mem := by
  unfold State.takePulse; try dsimp only
  repeat' split
  all_goals try simp
  all_goals try (refine (foldl_mem ?_ _ _).trans ?_ <;> (repeat' (first | intro _ | split)) <;> simp)
@[simp] theorem takePulse_tx (s : State) (j : Fin 4) (x : Nat) :
    (s.takePulse j x).tx = s.tx := by
  unfold State.takePulse; try dsimp only
  repeat' split
  all_goals try simp
  all_goals try (refine (foldl_tx ?_ _ _).trans ?_ <;> (repeat' (first | intro _ | split)) <;> simp)
@[simp] theorem takePulse_records (s : State) (j : Fin 4) (x : Nat) :
    (s.takePulse j x).records = s.records := by
  unfold State.takePulse; try dsimp only
  repeat' split
  all_goals try simp
  all_goals try (refine (foldl_records ?_ _ _).trans ?_ <;> (repeat' (first | intro _ | split)) <;> simp)
@[simp] theorem takeFollow_mem (s : State) (j : Fin 4) (x : Nat) (v : Bool) :
    (s.takeFollow j x v).mem = s.mem := by
  unfold State.takeFollow; try dsimp only
  repeat' split
  all_goals try simp
  all_goals try (refine (foldl_mem ?_ _ _).trans ?_ <;> (repeat' (first | intro _ | split)) <;> simp)
@[simp] theorem takeFollow_tx (s : State) (j : Fin 4) (x : Nat) (v : Bool) :
    (s.takeFollow j x v).tx = s.tx := by
  unfold State.takeFollow; try dsimp only
  repeat' split
  all_goals try simp
  all_goals try (refine (foldl_tx ?_ _ _).trans ?_ <;> (repeat' (first | intro _ | split)) <;> simp)
@[simp] theorem takeFollow_records (s : State) (j : Fin 4) (x : Nat) (v : Bool) :
    (s.takeFollow j x v).records = s.records := by
  unfold State.takeFollow; try dsimp only
  repeat' split
  all_goals try simp
  all_goals try (refine (foldl_records ?_ _ _).trans ?_ <;> (repeat' (first | intro _ | split)) <;> simp)
@[simp] theorem takeSignal_mem (s : State) (j : Fin 4) (id : BitVec 4) (level : Bool) (x : Nat) :
    (s.takeSignal j id level x).mem = s.mem := by
  unfold State.takeSignal; try dsimp only
  repeat' split
  all_goals try simp
  all_goals try (refine (foldl_mem ?_ _ _).trans ?_ <;> (repeat' (first | intro _ | split)) <;> simp)
@[simp] theorem takeSignal_tx (s : State) (j : Fin 4) (id : BitVec 4) (level : Bool) (x : Nat) :
    (s.takeSignal j id level x).tx = s.tx := by
  unfold State.takeSignal; try dsimp only
  repeat' split
  all_goals try simp
  all_goals try (refine (foldl_tx ?_ _ _).trans ?_ <;> (repeat' (first | intro _ | split)) <;> simp)
@[simp] theorem takeSignal_records (s : State) (j : Fin 4) (id : BitVec 4) (level : Bool) (x : Nat) :
    (s.takeSignal j id level x).records = s.records := by
  unfold State.takeSignal; try dsimp only
  repeat' split
  all_goals try simp
  all_goals try (refine (foldl_records ?_ _ _).trans ?_ <;> (repeat' (first | intro _ | split)) <;> simp)
@[simp] theorem setFlag_mem (s : State) (i : Nat) (x : Nat) :
    (s.setFlag i x).mem = s.mem := by
  unfold State.setFlag; try dsimp only
  repeat' split
  all_goals try simp
  all_goals try (refine (foldl_mem ?_ _ _).trans ?_ <;> (repeat' (first | intro _ | split)) <;> simp)
@[simp] theorem setFlag_tx (s : State) (i : Nat) (x : Nat) :
    (s.setFlag i x).tx = s.tx := by
  unfold State.setFlag; try dsimp only
  repeat' split
  all_goals try simp
  all_goals try (refine (foldl_tx ?_ _ _).trans ?_ <;> (repeat' (first | intro _ | split)) <;> simp)
@[simp] theorem setFlag_records (s : State) (i : Nat) (x : Nat) :
    (s.setFlag i x).records = s.records := by
  unfold State.setFlag; try dsimp only
  repeat' split
  all_goals try simp
  all_goals try (refine (foldl_records ?_ _ _).trans ?_ <;> (repeat' (first | intro _ | split)) <;> simp)
@[simp] theorem applySignal_mem (s : State) (id : BitVec 4) (level : Bool) (line : Word) :
    (s.applySignal id level line).mem = s.mem := by
  unfold State.applySignal; try dsimp only
  repeat' split
  all_goals try simp
  all_goals try (refine (foldl_mem ?_ _ _).trans ?_ <;> (repeat' (first | intro _ | split)) <;> simp)
@[simp] theorem applySignal_tx (s : State) (id : BitVec 4) (level : Bool) (line : Word) :
    (s.applySignal id level line).tx = s.tx := by
  unfold State.applySignal; try dsimp only
  repeat' split
  all_goals try simp
  all_goals try (refine (foldl_tx ?_ _ _).trans ?_ <;> (repeat' (first | intro _ | split)) <;> simp)
@[simp] theorem applySignal_records (s : State) (id : BitVec 4) (level : Bool) (line : Word) :
    (s.applySignal id level line).records = s.records := by
  unfold State.applySignal; try dsimp only
  repeat' split
  all_goals try simp
  all_goals try (refine (foldl_records ?_ _ _).trans ?_ <;> (repeat' (first | intro _ | split)) <;> simp)
@[simp] theorem claimEdge_mem (s : State) (i : Fin 4) (level : Bool) :
    (s.claimEdge i level).mem = s.mem := by
  unfold State.claimEdge; try dsimp only
  repeat' split
  all_goals try simp
  all_goals try (refine (foldl_mem ?_ _ _).trans ?_ <;> (repeat' (first | intro _ | split)) <;> simp)
@[simp] theorem claimEdge_records (s : State) (i : Fin 4) (level : Bool) :
    (s.claimEdge i level).records = s.records := by
  unfold State.claimEdge; try dsimp only
  repeat' split
  all_goals try simp
  all_goals try (refine (foldl_records ?_ _ _).trans ?_ <;> (repeat' (first | intro _ | split)) <;> simp)
@[simp] theorem claimAtAdvance_mem (s : State) :
    (s.claimAtAdvance).mem = s.mem := by
  unfold State.claimAtAdvance; try dsimp only
  repeat' split
  all_goals try simp
  all_goals try (refine (foldl_mem ?_ _ _).trans ?_ <;> (repeat' (first | intro _ | split)) <;> simp)
@[simp] theorem claimAtAdvance_records (s : State) :
    (s.claimAtAdvance).records = s.records := by
  unfold State.claimAtAdvance; try dsimp only
  repeat' split
  all_goals try simp
  all_goals try (refine (foldl_records ?_ _ _).trans ?_ <;> (repeat' (first | intro _ | split)) <;> simp)
@[simp] theorem pruneFlushes_mem (s : State) :
    (s.pruneFlushes).mem = s.mem := by
  unfold State.pruneFlushes; try dsimp only
  repeat' split
  all_goals try simp
  all_goals try (refine (foldl_mem ?_ _ _).trans ?_ <;> (repeat' (first | intro _ | split)) <;> simp)
@[simp] theorem pruneFlushes_tx (s : State) :
    (s.pruneFlushes).tx = s.tx := by
  unfold State.pruneFlushes; try dsimp only
  repeat' split
  all_goals try simp
  all_goals try (refine (foldl_tx ?_ _ _).trans ?_ <;> (repeat' (first | intro _ | split)) <;> simp)
@[simp] theorem pruneFlushes_records (s : State) :
    (s.pruneFlushes).records = s.records := by
  unfold State.pruneFlushes; try dsimp only
  repeat' split
  all_goals try simp
  all_goals try (refine (foldl_records ?_ _ _).trans ?_ <;> (repeat' (first | intro _ | split)) <;> simp)
@[simp] theorem found_mem (s : State) :
    (s.found).mem = s.mem := by
  unfold State.found; try dsimp only
  repeat' split
  all_goals try simp
  all_goals try (refine (foldl_mem ?_ _ _).trans ?_ <;> (repeat' (first | intro _ | split)) <;> simp)
@[simp] theorem found_tx (s : State) :
    (s.found).tx = s.tx := by
  unfold State.found; try dsimp only
  repeat' split
  all_goals try simp
  all_goals try (refine (foldl_tx ?_ _ _).trans ?_ <;> (repeat' (first | intro _ | split)) <;> simp)
@[simp] theorem found_records (s : State) :
    (s.found).records = s.records := by
  unfold State.found; try dsimp only
  repeat' split
  all_goals try simp
  all_goals try (refine (foldl_records ?_ _ _).trans ?_ <;> (repeat' (first | intro _ | split)) <;> simp)
@[simp] theorem consumeSteer_mem (s : State) (j : Fin 2) (e : Steer) :
    (s.consumeSteer j e).mem = s.mem := by
  unfold State.consumeSteer; try dsimp only
  repeat' split
  all_goals try simp
  all_goals try (refine (foldl_mem ?_ _ _).trans ?_ <;> (repeat' (first | intro _ | split)) <;> simp)
@[simp] theorem consumeSteer_tx (s : State) (j : Fin 2) (e : Steer) :
    (s.consumeSteer j e).tx = s.tx := by
  unfold State.consumeSteer; try dsimp only
  repeat' split
  all_goals try simp
  all_goals try (refine (foldl_tx ?_ _ _).trans ?_ <;> (repeat' (first | intro _ | split)) <;> simp)
@[simp] theorem consumeSteer_records (s : State) (j : Fin 2) (e : Steer) :
    (s.consumeSteer j e).records = s.records := by
  unfold State.consumeSteer; try dsimp only
  repeat' split
  all_goals try simp
  all_goals try (refine (foldl_records ?_ _ _).trans ?_ <;> (repeat' (first | intro _ | split)) <;> simp)
@[simp] theorem bornVoid_mem (s : State) (i : Fin 8) (j : Fin 2) :
    (s.bornVoid i j).mem = s.mem := by
  unfold State.bornVoid; try dsimp only
  repeat' split
  all_goals try simp
  all_goals try (refine (foldl_mem ?_ _ _).trans ?_ <;> (repeat' (first | intro _ | split)) <;> simp)
@[simp] theorem bornVoid_records (s : State) (i : Fin 8) (j : Fin 2) :
    (s.bornVoid i j).records = s.records := by
  unfold State.bornVoid; try dsimp only
  repeat' split
  all_goals try simp
  all_goals try (refine (foldl_records ?_ _ _).trans ?_ <;> (repeat' (first | intro _ | split)) <;> simp)
@[simp] theorem enterFrame_mem (s : State) (k : Nat) (mask : StationSet) (entries : StreamEntries) :
    (s.enterFrame k mask entries).mem = s.mem := by
  unfold State.enterFrame; try dsimp only
  repeat' split
  all_goals try simp
  all_goals try (refine (foldl_mem ?_ _ _).trans ?_ <;> (repeat' (first | intro _ | split)) <;> simp)
@[simp] theorem enterFrame_records (s : State) (k : Nat) (mask : StationSet) (entries : StreamEntries) :
    (s.enterFrame k mask entries).records = s.records := by
  unfold State.enterFrame; try dsimp only
  repeat' split
  all_goals try simp
  all_goals try (refine (foldl_records ?_ _ _).trans ?_ <;> (repeat' (first | intro _ | split)) <;> simp)
@[simp] theorem clearForeign_mem (s : State) (i : Fin 8) :
    (s.clearForeign i).mem = s.mem := by
  unfold State.clearForeign; try dsimp only
  repeat' split
  all_goals try simp
  all_goals try (refine (foldl_mem ?_ _ _).trans ?_ <;> (repeat' (first | intro _ | split)) <;> simp)
@[simp] theorem clearForeign_tx (s : State) (i : Fin 8) :
    (s.clearForeign i).tx = s.tx := by
  unfold State.clearForeign; try dsimp only
  repeat' split
  all_goals try simp
  all_goals try (refine (foldl_tx ?_ _ _).trans ?_ <;> (repeat' (first | intro _ | split)) <;> simp)
@[simp] theorem clearForeign_records (s : State) (i : Fin 8) :
    (s.clearForeign i).records = s.records := by
  unfold State.clearForeign; try dsimp only
  repeat' split
  all_goals try simp
  all_goals try (refine (foldl_records ?_ _ _).trans ?_ <;> (repeat' (first | intro _ | split)) <;> simp)
@[simp] theorem applyGate_mem (s : State) (isOpen : Bool) (frame : BitVec 16) :
    (s.applyGate isOpen frame).mem = s.mem := by
  unfold State.applyGate; try dsimp only
  repeat' split
  all_goals try simp
  all_goals try (refine (foldl_mem ?_ _ _).trans ?_ <;> (repeat' (first | intro _ | split)) <;> simp)
@[simp] theorem applyGate_tx (s : State) (isOpen : Bool) (frame : BitVec 16) :
    (s.applyGate isOpen frame).tx = s.tx := by
  unfold State.applyGate; try dsimp only
  repeat' split
  all_goals try simp
  all_goals try (refine (foldl_tx ?_ _ _).trans ?_ <;> (repeat' (first | intro _ | split)) <;> simp)
@[simp] theorem applyGate_records (s : State) (isOpen : Bool) (frame : BitVec 16) :
    (s.applyGate isOpen frame).records = s.records := by
  unfold State.applyGate; try dsimp only
  repeat' split
  all_goals try simp
  all_goals try (refine (foldl_records ?_ _ _).trans ?_ <;> (repeat' (first | intro _ | split)) <;> simp)
@[simp] theorem learnFrames_mem (s : State) (r : Roll) :
    (s.learnFrames r).mem = s.mem := by
  unfold State.learnFrames; try dsimp only
  repeat' split
  all_goals try simp
  all_goals try (refine (foldl_mem ?_ _ _).trans ?_ <;> (repeat' (first | intro _ | split)) <;> simp)
@[simp] theorem learnFrames_tx (s : State) (r : Roll) :
    (s.learnFrames r).tx = s.tx := by
  unfold State.learnFrames; try dsimp only
  repeat' split
  all_goals try simp
  all_goals try (refine (foldl_tx ?_ _ _).trans ?_ <;> (repeat' (first | intro _ | split)) <;> simp)
@[simp] theorem learnFrames_records (s : State) (r : Roll) :
    (s.learnFrames r).records = s.records := by
  unfold State.learnFrames; try dsimp only
  repeat' split
  all_goals try simp
  all_goals try (refine (foldl_records ?_ _ _).trans ?_ <;> (repeat' (first | intro _ | split)) <;> simp)
@[simp] theorem forgetForeign_mem (s : State) (r : Roll) :
    (s.forgetForeign r).mem = s.mem := by
  unfold State.forgetForeign; try dsimp only
  repeat' split
  all_goals try simp
  all_goals try (refine (foldl_mem ?_ _ _).trans ?_ <;> (repeat' (first | intro _ | split)) <;> simp)
@[simp] theorem forgetForeign_tx (s : State) (r : Roll) :
    (s.forgetForeign r).tx = s.tx := by
  unfold State.forgetForeign; try dsimp only
  repeat' split
  all_goals try simp
  all_goals try (refine (foldl_tx ?_ _ _).trans ?_ <;> (repeat' (first | intro _ | split)) <;> simp)
@[simp] theorem forgetForeign_records (s : State) (r : Roll) :
    (s.forgetForeign r).records = s.records := by
  unfold State.forgetForeign; try dsimp only
  repeat' split
  all_goals try simp
  all_goals try (refine (foldl_records ?_ _ _).trans ?_ <;> (repeat' (first | intro _ | split)) <;> simp)
@[simp] theorem takeCompleteness_mem (s : State) (r : Roll) :
    (s.takeCompleteness r).mem = s.mem := by
  unfold State.takeCompleteness; try dsimp only
  repeat' split
  all_goals try simp
  all_goals try (refine (foldl_mem ?_ _ _).trans ?_ <;> (repeat' (first | intro _ | split)) <;> simp)
@[simp] theorem takeCompleteness_tx (s : State) (r : Roll) :
    (s.takeCompleteness r).tx = s.tx := by
  unfold State.takeCompleteness; try dsimp only
  repeat' split
  all_goals try simp
  all_goals try (refine (foldl_tx ?_ _ _).trans ?_ <;> (repeat' (first | intro _ | split)) <;> simp)
@[simp] theorem takeCompleteness_records (s : State) (r : Roll) :
    (s.takeCompleteness r).records = s.records := by
  unfold State.takeCompleteness; try dsimp only
  repeat' split
  all_goals try simp
  all_goals try (refine (foldl_records ?_ _ _).trans ?_ <;> (repeat' (first | intro _ | split)) <;> simp)
@[simp] theorem takeLive_mem (s : State) (t : Tap) (r : Trigger) :
    (s.takeLive t r).mem = s.mem := by
  unfold State.takeLive; try dsimp only
  repeat' split
  all_goals try simp
  all_goals try (refine (foldl_mem ?_ _ _).trans ?_ <;> (repeat' (first | intro _ | split)) <;> simp)
@[simp] theorem takeLive_tx (s : State) (t : Tap) (r : Trigger) :
    (s.takeLive t r).tx = s.tx := by
  unfold State.takeLive; try dsimp only
  repeat' split
  all_goals try simp
  all_goals try (refine (foldl_tx ?_ _ _).trans ?_ <;> (repeat' (first | intro _ | split)) <;> simp)
@[simp] theorem takeLive_records (s : State) (t : Tap) (r : Trigger) :
    (s.takeLive t r).records = s.records := by
  unfold State.takeLive; try dsimp only
  repeat' split
  all_goals try simp
  all_goals try (refine (foldl_records ?_ _ _).trans ?_ <;> (repeat' (first | intro _ | split)) <;> simp)
@[simp] theorem takePattern_mem (s : State) (t : Tap) (r : Trigger) :
    (s.takePattern t r).mem = s.mem := by
  unfold State.takePattern; try dsimp only
  repeat' split
  all_goals try simp
  all_goals try (refine (foldl_mem ?_ _ _).trans ?_ <;> (repeat' (first | intro _ | split)) <;> simp)
@[simp] theorem takePattern_tx (s : State) (t : Tap) (r : Trigger) :
    (s.takePattern t r).tx = s.tx := by
  unfold State.takePattern; try dsimp only
  repeat' split
  all_goals try simp
  all_goals try (refine (foldl_tx ?_ _ _).trans ?_ <;> (repeat' (first | intro _ | split)) <;> simp)
@[simp] theorem takePattern_records (s : State) (t : Tap) (r : Trigger) :
    (s.takePattern t r).records = s.records := by
  unfold State.takePattern; try dsimp only
  repeat' split
  all_goals try simp
  all_goals try (refine (foldl_records ?_ _ _).trans ?_ <;> (repeat' (first | intro _ | split)) <;> simp)
@[simp] theorem handRecord_mem (s : State) (t : Tap) (r : Trigger) :
    (s.handRecord t r).mem = s.mem := by
  unfold State.handRecord; try dsimp only
  repeat' split
  all_goals try simp
  all_goals try (refine (foldl_mem ?_ _ _).trans ?_ <;> (repeat' (first | intro _ | split)) <;> simp)
@[simp] theorem handRecord_tx (s : State) (t : Tap) (r : Trigger) :
    (s.handRecord t r).tx = s.tx := by
  unfold State.handRecord; try dsimp only
  repeat' split
  all_goals try simp
  all_goals try (refine (foldl_tx ?_ _ _).trans ?_ <;> (repeat' (first | intro _ | split)) <;> simp)
@[simp] theorem handRecord_records (s : State) (t : Tap) (r : Trigger) :
    (s.handRecord t r).records = s.records := by
  unfold State.handRecord; try dsimp only
  repeat' split
  all_goals try simp
  all_goals try (refine (foldl_records ?_ _ _).trans ?_ <;> (repeat' (first | intro _ | split)) <;> simp)
@[simp] theorem handRecords_mem (s : State) (r : Trigger) :
    (s.handRecords r).mem = s.mem := by
  unfold State.handRecords; try dsimp only
  repeat' split
  all_goals try simp
  all_goals try (refine (foldl_mem ?_ _ _).trans ?_ <;> (repeat' (first | intro _ | split)) <;> simp)
@[simp] theorem handRecords_tx (s : State) (r : Trigger) :
    (s.handRecords r).tx = s.tx := by
  unfold State.handRecords; try dsimp only
  repeat' split
  all_goals try simp
  all_goals try (refine (foldl_tx ?_ _ _).trans ?_ <;> (repeat' (first | intro _ | split)) <;> simp)
@[simp] theorem handRecords_records (s : State) (r : Trigger) :
    (s.handRecords r).records = s.records := by
  unfold State.handRecords; try dsimp only
  repeat' split
  all_goals try simp
  all_goals try (refine (foldl_records ?_ _ _).trans ?_ <;> (repeat' (first | intro _ | split)) <;> simp)
@[simp] theorem beginPacket_mem (s : State) (t : Tap) :
    (s.beginPacket t).mem = s.mem := by
  unfold State.beginPacket; try dsimp only
  repeat' split
  all_goals try simp
  all_goals try (refine (foldl_mem ?_ _ _).trans ?_ <;> (repeat' (first | intro _ | split)) <;> simp)
@[simp] theorem beginPacket_tx (s : State) (t : Tap) :
    (s.beginPacket t).tx = s.tx := by
  unfold State.beginPacket; try dsimp only
  repeat' split
  all_goals try simp
  all_goals try (refine (foldl_tx ?_ _ _).trans ?_ <;> (repeat' (first | intro _ | split)) <;> simp)
@[simp] theorem beginPacket_records (s : State) (t : Tap) :
    (s.beginPacket t).records = s.records := by
  unfold State.beginPacket; try dsimp only
  repeat' split
  all_goals try simp
  all_goals try (refine (foldl_records ?_ _ _).trans ?_ <;> (repeat' (first | intro _ | split)) <;> simp)
@[simp] theorem badPacket_mem (s : State) (t : Tap) (bytes : List Byte) :
    (s.badPacket t bytes).mem = s.mem := by
  unfold State.badPacket; try dsimp only
  repeat' split
  all_goals try simp
  all_goals try (refine (foldl_mem ?_ _ _).trans ?_ <;> (repeat' (first | intro _ | split)) <;> simp)
@[simp] theorem badPacket_tx (s : State) (t : Tap) (bytes : List Byte) :
    (s.badPacket t bytes).tx = s.tx := by
  unfold State.badPacket; try dsimp only
  repeat' split
  all_goals try simp
  all_goals try (refine (foldl_tx ?_ _ _).trans ?_ <;> (repeat' (first | intro _ | split)) <;> simp)
@[simp] theorem badPacket_records (s : State) (t : Tap) (bytes : List Byte) :
    (s.badPacket t bytes).records = s.records := by
  unfold State.badPacket; try dsimp only
  repeat' split
  all_goals try simp
  all_goals try (refine (foldl_records ?_ _ _).trans ?_ <;> (repeat' (first | intro _ | split)) <;> simp)
@[simp] theorem overrun_mem (s : State) (t : Tap) :
    (s.overrun t).mem = s.mem := by
  unfold State.overrun; try dsimp only
  repeat' split
  all_goals try simp
  all_goals try (refine (foldl_mem ?_ _ _).trans ?_ <;> (repeat' (first | intro _ | split)) <;> simp)
@[simp] theorem overrun_tx (s : State) (t : Tap) :
    (s.overrun t).tx = s.tx := by
  unfold State.overrun; try dsimp only
  repeat' split
  all_goals try simp
  all_goals try (refine (foldl_tx ?_ _ _).trans ?_ <;> (repeat' (first | intro _ | split)) <;> simp)
@[simp] theorem overrun_records (s : State) (t : Tap) :
    (s.overrun t).records = s.records := by
  unfold State.overrun; try dsimp only
  repeat' split
  all_goals try simp
  all_goals try (refine (foldl_records ?_ _ _).trans ?_ <;> (repeat' (first | intro _ | split)) <;> simp)
@[simp] theorem reconcile_mem (s : State) (t : Tap) (slot : Fin 256) (c : Byte) (pixels : List Byte) :
    (s.reconcile t slot c pixels).mem = s.mem := by
  unfold State.reconcile; try dsimp only
  repeat' split
  all_goals try simp
  all_goals try (refine (foldl_mem ?_ _ _).trans ?_ <;> (repeat' (first | intro _ | split)) <;> simp)
@[simp] theorem reconcile_tx (s : State) (t : Tap) (slot : Fin 256) (c : Byte) (pixels : List Byte) :
    (s.reconcile t slot c pixels).tx = s.tx := by
  unfold State.reconcile; try dsimp only
  repeat' split
  all_goals try simp
  all_goals try (refine (foldl_tx ?_ _ _).trans ?_ <;> (repeat' (first | intro _ | split)) <;> simp)
@[simp] theorem reconcile_records (s : State) (t : Tap) (slot : Fin 256) (c : Byte) (pixels : List Byte) :
    (s.reconcile t slot c pixels).records = s.records := by
  unfold State.reconcile; try dsimp only
  repeat' split
  all_goals try simp
  all_goals try (refine (foldl_records ?_ _ _).trans ?_ <;> (repeat' (first | intro _ | split)) <;> simp)
@[simp] theorem arrive_mem (s : State) (t : Tap) (slot : Fin 256) (bytes : List Byte) :
    (s.arrive t slot bytes).mem = s.mem := by
  unfold State.arrive; try dsimp only
  repeat' split
  all_goals try simp
  all_goals try (refine (foldl_mem ?_ _ _).trans ?_ <;> (repeat' (first | intro _ | split)) <;> simp)
@[simp] theorem arrive_tx (s : State) (t : Tap) (slot : Fin 256) (bytes : List Byte) :
    (s.arrive t slot bytes).tx = s.tx := by
  unfold State.arrive; try dsimp only
  repeat' split
  all_goals try simp
  all_goals try (refine (foldl_tx ?_ _ _).trans ?_ <;> (repeat' (first | intro _ | split)) <;> simp)
@[simp] theorem arrive_records (s : State) (t : Tap) (slot : Fin 256) (bytes : List Byte) :
    (s.arrive t slot bytes).records = s.records := by
  unfold State.arrive; try dsimp only
  repeat' split
  all_goals try simp
  all_goals try (refine (foldl_records ?_ _ _).trans ?_ <;> (repeat' (first | intro _ | split)) <;> simp)
@[simp] theorem afterTap_mem (s : State) :
    (s.afterTap).mem = s.mem := by
  unfold State.afterTap; try dsimp only
  repeat' split
  all_goals try simp
  all_goals try (refine (foldl_mem ?_ _ _).trans ?_ <;> (repeat' (first | intro _ | split)) <;> simp)
@[simp] theorem afterTap_tx (s : State) :
    (s.afterTap).tx = s.tx := by
  unfold State.afterTap; try dsimp only
  repeat' split
  all_goals try simp
  all_goals try (refine (foldl_tx ?_ _ _).trans ?_ <;> (repeat' (first | intro _ | split)) <;> simp)
@[simp] theorem afterTap_records (s : State) :
    (s.afterTap).records = s.records := by
  unfold State.afterTap; try dsimp only
  repeat' split
  all_goals try simp
  all_goals try (refine (foldl_records ?_ _ _).trans ?_ <;> (repeat' (first | intro _ | split)) <;> simp)

end Sys2Proof.Machine
end

