-- ==== Sys2Proof/Laws/FramePosition.lean ====
section
/-! SUPPORT. The position unit, the trunk port and the signal unit through every operation that leaves them alone. -/

namespace Sys2Proof.Machine

set_option linter.unusedTactic false
set_option linter.unreachableTactic false
set_option linter.unnecessarySeqFocus false

theorem foldl_pos {α : Type} {f : State → α → State} (h : ∀ s a, (f s a).pos = s.pos) (l : List α)
    (s : State) : (l.foldl f s).pos = s.pos := by
  induction l generalizing s with
  | nil => rfl
  | cons a l ih => exact (ih _).trans (h _ _)

theorem foldl_trunk {α : Type} {f : State → α → State} (h : ∀ s a, (f s a).trunk = s.trunk) (l : List α)
    (s : State) : (l.foldl f s).trunk = s.trunk := by
  induction l generalizing s with
  | nil => rfl
  | cons a l ih => exact (ih _).trans (h _ _)

theorem foldl_signals {α : Type} {f : State → α → State} (h : ∀ s a, (f s a).signals = s.signals) (l : List α)
    (s : State) : (l.foldl f s).signals = s.signals := by
  induction l generalizing s with
  | nil => rfl
  | cons a l ih => exact (ih _).trans (h _ _)

@[simp] theorem notice_pos (s : State) :
    (s.notice).pos = s.pos := by
  unfold State.notice; try dsimp only
  repeat' split
  all_goals try simp
  all_goals try (refine (foldl_pos ?_ _ _).trans ?_ <;> (repeat' (first | intro _ | split)) <;> simp)
@[simp] theorem notice_trunk (s : State) :
    (s.notice).trunk = s.trunk := by
  unfold State.notice; try dsimp only
  repeat' split
  all_goals try simp
  all_goals try (refine (foldl_trunk ?_ _ _).trans ?_ <;> (repeat' (first | intro _ | split)) <;> simp)
@[simp] theorem notice_signals (s : State) :
    (s.notice).signals = s.signals := by
  unfold State.notice; try dsimp only
  repeat' split
  all_goals try simp
  all_goals try (refine (foldl_signals ?_ _ _).trans ?_ <;> (repeat' (first | intro _ | split)) <;> simp)
@[simp] theorem event_pos (s : State) (k : EventKind) :
    (s.event k).pos = s.pos := by
  unfold State.event; try dsimp only
  repeat' split
  all_goals try simp
  all_goals try (refine (foldl_pos ?_ _ _).trans ?_ <;> (repeat' (first | intro _ | split)) <;> simp)
@[simp] theorem event_trunk (s : State) (k : EventKind) :
    (s.event k).trunk = s.trunk := by
  unfold State.event; try dsimp only
  repeat' split
  all_goals try simp
  all_goals try (refine (foldl_trunk ?_ _ _).trans ?_ <;> (repeat' (first | intro _ | split)) <;> simp)
@[simp] theorem event_signals (s : State) (k : EventKind) :
    (s.event k).signals = s.signals := by
  unfold State.event; try dsimp only
  repeat' split
  all_goals try simp
  all_goals try (refine (foldl_signals ?_ _ _).trans ?_ <;> (repeat' (first | intro _ | split)) <;> simp)
@[simp] theorem eventNoticed_pos (s : State) (k : EventKind) (enabled : Bool) :
    (s.eventNoticed k enabled).pos = s.pos := by
  unfold State.eventNoticed; try dsimp only
  repeat' split
  all_goals try simp
  all_goals try (refine (foldl_pos ?_ _ _).trans ?_ <;> (repeat' (first | intro _ | split)) <;> simp)
@[simp] theorem eventNoticed_trunk (s : State) (k : EventKind) (enabled : Bool) :
    (s.eventNoticed k enabled).trunk = s.trunk := by
  unfold State.eventNoticed; try dsimp only
  repeat' split
  all_goals try simp
  all_goals try (refine (foldl_trunk ?_ _ _).trans ?_ <;> (repeat' (first | intro _ | split)) <;> simp)
@[simp] theorem eventNoticed_signals (s : State) (k : EventKind) (enabled : Bool) :
    (s.eventNoticed k enabled).signals = s.signals := by
  unfold State.eventNoticed; try dsimp only
  repeat' split
  all_goals try simp
  all_goals try (refine (foldl_signals ?_ _ _).trans ?_ <;> (repeat' (first | intro _ | split)) <;> simp)
@[simp] theorem raise_pos (s : State) (k : FaultKind) :
    (s.raise k).pos = s.pos := by
  unfold State.raise; try dsimp only
  repeat' split
  all_goals try simp
  all_goals try (refine (foldl_pos ?_ _ _).trans ?_ <;> (repeat' (first | intro _ | split)) <;> simp)
@[simp] theorem raise_trunk (s : State) (k : FaultKind) :
    (s.raise k).trunk = s.trunk := by
  unfold State.raise; try dsimp only
  repeat' split
  all_goals try simp
  all_goals try (refine (foldl_trunk ?_ _ _).trans ?_ <;> (repeat' (first | intro _ | split)) <;> simp)
@[simp] theorem raise_signals (s : State) (k : FaultKind) :
    (s.raise k).signals = s.signals := by
  unfold State.raise; try dsimp only
  repeat' split
  all_goals try simp
  all_goals try (refine (foldl_signals ?_ _ _).trans ?_ <;> (repeat' (first | intro _ | split)) <;> simp)
@[simp] theorem changeState_pos (s : State) (st : StationState) :
    (s.changeState st).pos = s.pos := by
  unfold State.changeState; try dsimp only
  repeat' split
  all_goals try simp
  all_goals try (refine (foldl_pos ?_ _ _).trans ?_ <;> (repeat' (first | intro _ | split)) <;> simp)
@[simp] theorem changeState_trunk (s : State) (st : StationState) :
    (s.changeState st).trunk = s.trunk := by
  unfold State.changeState; try dsimp only
  repeat' split
  all_goals try simp
  all_goals try (refine (foldl_trunk ?_ _ _).trans ?_ <;> (repeat' (first | intro _ | split)) <;> simp)
@[simp] theorem changeState_signals (s : State) (st : StationState) :
    (s.changeState st).signals = s.signals := by
  unfold State.changeState; try dsimp only
  repeat' split
  all_goals try simp
  all_goals try (refine (foldl_signals ?_ _ _).trans ?_ <;> (repeat' (first | intro _ | split)) <;> simp)
@[simp] theorem claimFifo_pos (s : State) (c : Claim) :
    (s.claimFifo c).pos = s.pos := by
  unfold State.claimFifo; try dsimp only
  repeat' split
  all_goals try simp
  all_goals try (refine (foldl_pos ?_ _ _).trans ?_ <;> (repeat' (first | intro _ | split)) <;> simp)
@[simp] theorem claimFifo_trunk (s : State) (c : Claim) :
    (s.claimFifo c).trunk = s.trunk := by
  unfold State.claimFifo; try dsimp only
  repeat' split
  all_goals try simp
  all_goals try (refine (foldl_trunk ?_ _ _).trans ?_ <;> (repeat' (first | intro _ | split)) <;> simp)
@[simp] theorem claimFifo_signals (s : State) (c : Claim) :
    (s.claimFifo c).signals = s.signals := by
  unfold State.claimFifo; try dsimp only
  repeat' split
  all_goals try simp
  all_goals try (refine (foldl_signals ?_ _ _).trans ?_ <;> (repeat' (first | intro _ | split)) <;> simp)
@[simp] theorem claimDrop_pos (s : State) (p : Station) :
    (s.claimDrop p).pos = s.pos := by
  unfold State.claimDrop; try dsimp only
  repeat' split
  all_goals try simp
  all_goals try (refine (foldl_pos ?_ _ _).trans ?_ <;> (repeat' (first | intro _ | split)) <;> simp)
@[simp] theorem claimDrop_trunk (s : State) (p : Station) :
    (s.claimDrop p).trunk = s.trunk := by
  unfold State.claimDrop; try dsimp only
  repeat' split
  all_goals try simp
  all_goals try (refine (foldl_trunk ?_ _ _).trans ?_ <;> (repeat' (first | intro _ | split)) <;> simp)
@[simp] theorem claimDrop_signals (s : State) (p : Station) :
    (s.claimDrop p).signals = s.signals := by
  unfold State.claimDrop; try dsimp only
  repeat' split
  all_goals try simp
  all_goals try (refine (foldl_signals ?_ _ _).trans ?_ <;> (repeat' (first | intro _ | split)) <;> simp)
@[simp] theorem claimRoll_pos (s : State) :
    (s.claimRoll).pos = s.pos := by
  unfold State.claimRoll; try dsimp only
  repeat' split
  all_goals try simp
  all_goals try (refine (foldl_pos ?_ _ _).trans ?_ <;> (repeat' (first | intro _ | split)) <;> simp)
@[simp] theorem claimRoll_trunk (s : State) :
    (s.claimRoll).trunk = s.trunk := by
  unfold State.claimRoll; try dsimp only
  repeat' split
  all_goals try simp
  all_goals try (refine (foldl_trunk ?_ _ _).trans ?_ <;> (repeat' (first | intro _ | split)) <;> simp)
@[simp] theorem claimRoll_signals (s : State) :
    (s.claimRoll).signals = s.signals := by
  unfold State.claimRoll; try dsimp only
  repeat' split
  all_goals try simp
  all_goals try (refine (foldl_signals ?_ _ _).trans ?_ <;> (repeat' (first | intro _ | split)) <;> simp)
@[simp] theorem lostGrantBy_pos (s : State) (c : Claim) :
    (s.lostGrantBy c).pos = s.pos := by
  unfold State.lostGrantBy; try dsimp only
  repeat' split
  all_goals try simp
  all_goals try (refine (foldl_pos ?_ _ _).trans ?_ <;> (repeat' (first | intro _ | split)) <;> simp)
@[simp] theorem lostGrantBy_trunk (s : State) (c : Claim) :
    (s.lostGrantBy c).trunk = s.trunk := by
  unfold State.lostGrantBy; try dsimp only
  repeat' split
  all_goals try simp
  all_goals try (refine (foldl_trunk ?_ _ _).trans ?_ <;> (repeat' (first | intro _ | split)) <;> simp)
@[simp] theorem lostGrantBy_signals (s : State) (c : Claim) :
    (s.lostGrantBy c).signals = s.signals := by
  unfold State.lostGrantBy; try dsimp only
  repeat' split
  all_goals try simp
  all_goals try (refine (foldl_signals ?_ _ _).trans ?_ <;> (repeat' (first | intro _ | split)) <;> simp)
@[simp] theorem withdrawn_pos (s : State) (n : Pending) (byReset : Bool) :
    (s.withdrawn n byReset).pos = s.pos := by
  unfold State.withdrawn; try dsimp only
  repeat' split
  all_goals try simp
  all_goals try (refine (foldl_pos ?_ _ _).trans ?_ <;> (repeat' (first | intro _ | split)) <;> simp)
@[simp] theorem withdrawn_trunk (s : State) (n : Pending) (byReset : Bool) :
    (s.withdrawn n byReset).trunk = s.trunk := by
  unfold State.withdrawn; try dsimp only
  repeat' split
  all_goals try simp
  all_goals try (refine (foldl_trunk ?_ _ _).trans ?_ <;> (repeat' (first | intro _ | split)) <;> simp)
@[simp] theorem withdrawn_signals (s : State) (n : Pending) (byReset : Bool) :
    (s.withdrawn n byReset).signals = s.signals := by
  unfold State.withdrawn; try dsimp only
  repeat' split
  all_goals try simp
  all_goals try (refine (foldl_signals ?_ _ _).trans ?_ <;> (repeat' (first | intro _ | split)) <;> simp)
@[simp] theorem claimOpening_pos (s : State) (k : Nat) :
    (s.claimOpening k).pos = s.pos := by
  unfold State.claimOpening; try dsimp only
  repeat' split
  all_goals try simp
  all_goals try (refine (foldl_pos ?_ _ _).trans ?_ <;> (repeat' (first | intro _ | split)) <;> simp)
@[simp] theorem claimOpening_trunk (s : State) (k : Nat) :
    (s.claimOpening k).trunk = s.trunk := by
  unfold State.claimOpening; try dsimp only
  repeat' split
  all_goals try simp
  all_goals try (refine (foldl_trunk ?_ _ _).trans ?_ <;> (repeat' (first | intro _ | split)) <;> simp)
@[simp] theorem claimOpening_signals (s : State) (k : Nat) :
    (s.claimOpening k).signals = s.signals := by
  unfold State.claimOpening; try dsimp only
  repeat' split
  all_goals try simp
  all_goals try (refine (foldl_signals ?_ _ _).trans ?_ <;> (repeat' (first | intro _ | split)) <;> simp)
@[simp] theorem claimRoster_pos (s : State) (c : Claim) :
    (s.claimRoster c).pos = s.pos := by
  unfold State.claimRoster; try dsimp only
  repeat' split
  all_goals try simp
  all_goals try (refine (foldl_pos ?_ _ _).trans ?_ <;> (repeat' (first | intro _ | split)) <;> simp)
@[simp] theorem claimRoster_trunk (s : State) (c : Claim) :
    (s.claimRoster c).trunk = s.trunk := by
  unfold State.claimRoster; try dsimp only
  repeat' split
  all_goals try simp
  all_goals try (refine (foldl_trunk ?_ _ _).trans ?_ <;> (repeat' (first | intro _ | split)) <;> simp)
@[simp] theorem claimRoster_signals (s : State) (c : Claim) :
    (s.claimRoster c).signals = s.signals := by
  unfold State.claimRoster; try dsimp only
  repeat' split
  all_goals try simp
  all_goals try (refine (foldl_signals ?_ _ _).trans ?_ <;> (repeat' (first | intro _ | split)) <;> simp)
@[simp] theorem withdrawFrom_pos (s : State) (k : NoteKind) (doom : Doom) (hit : Pending → Bool) :
    (s.withdrawFrom k doom hit).pos = s.pos := by
  unfold State.withdrawFrom; try dsimp only
  repeat' split
  all_goals try simp
  all_goals try (refine (foldl_pos ?_ _ _).trans ?_ <;> (repeat' (first | intro _ | split)) <;> simp)
@[simp] theorem withdrawFrom_trunk (s : State) (k : NoteKind) (doom : Doom) (hit : Pending → Bool) :
    (s.withdrawFrom k doom hit).trunk = s.trunk := by
  unfold State.withdrawFrom; try dsimp only
  repeat' split
  all_goals try simp
  all_goals try (refine (foldl_trunk ?_ _ _).trans ?_ <;> (repeat' (first | intro _ | split)) <;> simp)
@[simp] theorem withdrawFrom_signals (s : State) (k : NoteKind) (doom : Doom) (hit : Pending → Bool) :
    (s.withdrawFrom k doom hit).signals = s.signals := by
  unfold State.withdrawFrom; try dsimp only
  repeat' split
  all_goals try simp
  all_goals try (refine (foldl_signals ?_ _ _).trans ?_ <;> (repeat' (first | intro _ | split)) <;> simp)
@[simp] theorem withdrawAll_pos (s : State) (doom : Doom) (keepDone : Bool) :
    (s.withdrawAll doom keepDone).pos = s.pos := by
  unfold State.withdrawAll; try dsimp only
  repeat' split
  all_goals try simp
  all_goals try (refine (foldl_pos ?_ _ _).trans ?_ <;> (repeat' (first | intro _ | split)) <;> simp)
@[simp] theorem withdrawAll_trunk (s : State) (doom : Doom) (keepDone : Bool) :
    (s.withdrawAll doom keepDone).trunk = s.trunk := by
  unfold State.withdrawAll; try dsimp only
  repeat' split
  all_goals try simp
  all_goals try (refine (foldl_trunk ?_ _ _).trans ?_ <;> (repeat' (first | intro _ | split)) <;> simp)
@[simp] theorem withdrawAll_signals (s : State) (doom : Doom) (keepDone : Bool) :
    (s.withdrawAll doom keepDone).signals = s.signals := by
  unfold State.withdrawAll; try dsimp only
  repeat' split
  all_goals try simp
  all_goals try (refine (foldl_signals ?_ _ _).trans ?_ <;> (repeat' (first | intro _ | split)) <;> simp)
@[simp] theorem keepLeaveClaimed_pos (s : State) :
    (s.keepLeaveClaimed).pos = s.pos := by
  unfold State.keepLeaveClaimed; try dsimp only
  repeat' split
  all_goals try simp
  all_goals try (refine (foldl_pos ?_ _ _).trans ?_ <;> (repeat' (first | intro _ | split)) <;> simp)
@[simp] theorem keepLeaveClaimed_trunk (s : State) :
    (s.keepLeaveClaimed).trunk = s.trunk := by
  unfold State.keepLeaveClaimed; try dsimp only
  repeat' split
  all_goals try simp
  all_goals try (refine (foldl_trunk ?_ _ _).trans ?_ <;> (repeat' (first | intro _ | split)) <;> simp)
@[simp] theorem keepLeaveClaimed_signals (s : State) :
    (s.keepLeaveClaimed).signals = s.signals := by
  unfold State.keepLeaveClaimed; try dsimp only
  repeat' split
  all_goals try simp
  all_goals try (refine (foldl_signals ?_ _ _).trans ?_ <;> (repeat' (first | intro _ | split)) <;> simp)
@[simp] theorem modifyLeg_pos (s : State) (i : Fin 8) (j : Fin 2) (f : Leg → Leg) :
    (s.modifyLeg i j f).pos = s.pos := by
  unfold State.modifyLeg; try dsimp only
  repeat' split
  all_goals try simp
  all_goals try (refine (foldl_pos ?_ _ _).trans ?_ <;> (repeat' (first | intro _ | split)) <;> simp)
@[simp] theorem modifyLeg_trunk (s : State) (i : Fin 8) (j : Fin 2) (f : Leg → Leg) :
    (s.modifyLeg i j f).trunk = s.trunk := by
  unfold State.modifyLeg; try dsimp only
  repeat' split
  all_goals try simp
  all_goals try (refine (foldl_trunk ?_ _ _).trans ?_ <;> (repeat' (first | intro _ | split)) <;> simp)
@[simp] theorem modifyLeg_signals (s : State) (i : Fin 8) (j : Fin 2) (f : Leg → Leg) :
    (s.modifyLeg i j f).signals = s.signals := by
  unfold State.modifyLeg; try dsimp only
  repeat' split
  all_goals try simp
  all_goals try (refine (foldl_signals ?_ _ _).trans ?_ <;> (repeat' (first | intro _ | split)) <;> simp)
@[simp] theorem modifyPart_pos (s : State) (i : Fin 8) (j : Fin 2) (f : OwnPart → OwnPart) :
    (s.modifyPart i j f).pos = s.pos := by
  unfold State.modifyPart; try dsimp only
  repeat' split
  all_goals try simp
  all_goals try (refine (foldl_pos ?_ _ _).trans ?_ <;> (repeat' (first | intro _ | split)) <;> simp)
@[simp] theorem modifyPart_trunk (s : State) (i : Fin 8) (j : Fin 2) (f : OwnPart → OwnPart) :
    (s.modifyPart i j f).trunk = s.trunk := by
  unfold State.modifyPart; try dsimp only
  repeat' split
  all_goals try simp
  all_goals try (refine (foldl_trunk ?_ _ _).trans ?_ <;> (repeat' (first | intro _ | split)) <;> simp)
@[simp] theorem modifyPart_signals (s : State) (i : Fin 8) (j : Fin 2) (f : OwnPart → OwnPart) :
    (s.modifyPart i j f).signals = s.signals := by
  unfold State.modifyPart; try dsimp only
  repeat' split
  all_goals try simp
  all_goals try (refine (foldl_signals ?_ _ _).trans ?_ <;> (repeat' (first | intro _ | split)) <;> simp)
@[simp] theorem dropFlush_pos (s : State) (i : Fin 8) (j : Fin 2) :
    (s.dropFlush i j).pos = s.pos := by
  unfold State.dropFlush; try dsimp only
  repeat' split
  all_goals try simp
  all_goals try (refine (foldl_pos ?_ _ _).trans ?_ <;> (repeat' (first | intro _ | split)) <;> simp)
@[simp] theorem dropFlush_trunk (s : State) (i : Fin 8) (j : Fin 2) :
    (s.dropFlush i j).trunk = s.trunk := by
  unfold State.dropFlush; try dsimp only
  repeat' split
  all_goals try simp
  all_goals try (refine (foldl_trunk ?_ _ _).trans ?_ <;> (repeat' (first | intro _ | split)) <;> simp)
@[simp] theorem dropFlush_signals (s : State) (i : Fin 8) (j : Fin 2) :
    (s.dropFlush i j).signals = s.signals := by
  unfold State.dropFlush; try dsimp only
  repeat' split
  all_goals try simp
  all_goals try (refine (foldl_signals ?_ _ _).trans ?_ <;> (repeat' (first | intro _ | split)) <;> simp)
@[simp] theorem claimDone_pos (s : State) (i : Fin 8) (j : Fin 2) (delivered : Bool) :
    (s.claimDone i j delivered).pos = s.pos := by
  unfold State.claimDone; try dsimp only
  repeat' split
  all_goals try simp
  all_goals try (refine (foldl_pos ?_ _ _).trans ?_ <;> (repeat' (first | intro _ | split)) <;> simp)
@[simp] theorem claimDone_trunk (s : State) (i : Fin 8) (j : Fin 2) (delivered : Bool) :
    (s.claimDone i j delivered).trunk = s.trunk := by
  unfold State.claimDone; try dsimp only
  repeat' split
  all_goals try simp
  all_goals try (refine (foldl_trunk ?_ _ _).trans ?_ <;> (repeat' (first | intro _ | split)) <;> simp)
@[simp] theorem claimDone_signals (s : State) (i : Fin 8) (j : Fin 2) (delivered : Bool) :
    (s.claimDone i j delivered).signals = s.signals := by
  unfold State.claimDone; try dsimp only
  repeat' split
  all_goals try simp
  all_goals try (refine (foldl_signals ?_ _ _).trans ?_ <;> (repeat' (first | intro _ | split)) <;> simp)
@[simp] theorem markVoid_pos (s : State) (i : Fin 8) (j : Fin 2) :
    (s.markVoid i j).pos = s.pos := by
  unfold State.markVoid; try dsimp only
  repeat' split
  all_goals try simp
  all_goals try (refine (foldl_pos ?_ _ _).trans ?_ <;> (repeat' (first | intro _ | split)) <;> simp)
@[simp] theorem markVoid_trunk (s : State) (i : Fin 8) (j : Fin 2) :
    (s.markVoid i j).trunk = s.trunk := by
  unfold State.markVoid; try dsimp only
  repeat' split
  all_goals try simp
  all_goals try (refine (foldl_trunk ?_ _ _).trans ?_ <;> (repeat' (first | intro _ | split)) <;> simp)
@[simp] theorem markVoid_signals (s : State) (i : Fin 8) (j : Fin 2) :
    (s.markVoid i j).signals = s.signals := by
  unfold State.markVoid; try dsimp only
  repeat' split
  all_goals try simp
  all_goals try (refine (foldl_signals ?_ _ _).trans ?_ <;> (repeat' (first | intro _ | split)) <;> simp)
@[simp] theorem voidPart_pos (s : State) (i : Fin 8) (j : Fin 2) :
    (s.voidPart i j).pos = s.pos := by
  unfold State.voidPart; try dsimp only
  repeat' split
  all_goals try simp
  all_goals try (refine (foldl_pos ?_ _ _).trans ?_ <;> (repeat' (first | intro _ | split)) <;> simp)
@[simp] theorem voidPart_trunk (s : State) (i : Fin 8) (j : Fin 2) :
    (s.voidPart i j).trunk = s.trunk := by
  unfold State.voidPart; try dsimp only
  repeat' split
  all_goals try simp
  all_goals try (refine (foldl_trunk ?_ _ _).trans ?_ <;> (repeat' (first | intro _ | split)) <;> simp)
@[simp] theorem voidPart_signals (s : State) (i : Fin 8) (j : Fin 2) :
    (s.voidPart i j).signals = s.signals := by
  unfold State.voidPart; try dsimp only
  repeat' split
  all_goals try simp
  all_goals try (refine (foldl_signals ?_ _ _).trans ?_ <;> (repeat' (first | intro _ | split)) <;> simp)
@[simp] theorem reportPart_pos (s : State) (i : Fin 8) (j : Fin 2) :
    (s.reportPart i j).pos = s.pos := by
  unfold State.reportPart; try dsimp only
  repeat' split
  all_goals try simp
  all_goals try (refine (foldl_pos ?_ _ _).trans ?_ <;> (repeat' (first | intro _ | split)) <;> simp)
@[simp] theorem reportPart_trunk (s : State) (i : Fin 8) (j : Fin 2) :
    (s.reportPart i j).trunk = s.trunk := by
  unfold State.reportPart; try dsimp only
  repeat' split
  all_goals try simp
  all_goals try (refine (foldl_trunk ?_ _ _).trans ?_ <;> (repeat' (first | intro _ | split)) <;> simp)
@[simp] theorem reportPart_signals (s : State) (i : Fin 8) (j : Fin 2) :
    (s.reportPart i j).signals = s.signals := by
  unfold State.reportPart; try dsimp only
  repeat' split
  all_goals try simp
  all_goals try (refine (foldl_signals ?_ _ _).trans ?_ <;> (repeat' (first | intro _ | split)) <;> simp)
@[simp] theorem startLegTimers_pos (s : State) :
    (s.startLegTimers).pos = s.pos := by
  unfold State.startLegTimers; try dsimp only
  repeat' split
  all_goals try simp
  all_goals try (refine (foldl_pos ?_ _ _).trans ?_ <;> (repeat' (first | intro _ | split)) <;> simp)
@[simp] theorem startLegTimers_trunk (s : State) :
    (s.startLegTimers).trunk = s.trunk := by
  unfold State.startLegTimers; try dsimp only
  repeat' split
  all_goals try simp
  all_goals try (refine (foldl_trunk ?_ _ _).trans ?_ <;> (repeat' (first | intro _ | split)) <;> simp)
@[simp] theorem startLegTimers_signals (s : State) :
    (s.startLegTimers).signals = s.signals := by
  unfold State.startLegTimers; try dsimp only
  repeat' split
  all_goals try simp
  all_goals try (refine (foldl_signals ?_ _ _).trans ?_ <;> (repeat' (first | intro _ | split)) <;> simp)
@[simp] theorem dropTurn_pos (s : State) :
    (s.dropTurn).pos = s.pos := by
  unfold State.dropTurn; try dsimp only
  repeat' split
  all_goals try simp
  all_goals try (refine (foldl_pos ?_ _ _).trans ?_ <;> (repeat' (first | intro _ | split)) <;> simp)
@[simp] theorem dropTurn_trunk (s : State) :
    (s.dropTurn).trunk = s.trunk := by
  unfold State.dropTurn; try dsimp only
  repeat' split
  all_goals try simp
  all_goals try (refine (foldl_trunk ?_ _ _).trans ?_ <;> (repeat' (first | intro _ | split)) <;> simp)
@[simp] theorem dropTurn_signals (s : State) :
    (s.dropTurn).signals = s.signals := by
  unfold State.dropTurn; try dsimp only
  repeat' split
  all_goals try simp
  all_goals try (refine (foldl_signals ?_ _ _).trans ?_ <;> (repeat' (first | intro _ | split)) <;> simp)
@[simp] theorem beginRecord_pos (s : State) :
    (s.beginRecord).pos = s.pos := by
  unfold State.beginRecord; try dsimp only
  repeat' split
  all_goals try simp
  all_goals try (refine (foldl_pos ?_ _ _).trans ?_ <;> (repeat' (first | intro _ | split)) <;> simp)
@[simp] theorem beginRecord_trunk (s : State) :
    (s.beginRecord).trunk = s.trunk := by
  unfold State.beginRecord; try dsimp only
  repeat' split
  all_goals try simp
  all_goals try (refine (foldl_trunk ?_ _ _).trans ?_ <;> (repeat' (first | intro _ | split)) <;> simp)
@[simp] theorem beginRecord_signals (s : State) :
    (s.beginRecord).signals = s.signals := by
  unfold State.beginRecord; try dsimp only
  repeat' split
  all_goals try simp
  all_goals try (refine (foldl_signals ?_ _ _).trans ?_ <;> (repeat' (first | intro _ | split)) <;> simp)
@[simp] theorem offerRecord_pos (s : State) (r : FrameRecord) :
    (s.offerRecord r).pos = s.pos := by
  unfold State.offerRecord; try dsimp only
  repeat' split
  all_goals try simp
  all_goals try (refine (foldl_pos ?_ _ _).trans ?_ <;> (repeat' (first | intro _ | split)) <;> simp)
@[simp] theorem offerRecord_trunk (s : State) (r : FrameRecord) :
    (s.offerRecord r).trunk = s.trunk := by
  unfold State.offerRecord; try dsimp only
  repeat' split
  all_goals try simp
  all_goals try (refine (foldl_trunk ?_ _ _).trans ?_ <;> (repeat' (first | intro _ | split)) <;> simp)
@[simp] theorem offerRecord_signals (s : State) (r : FrameRecord) :
    (s.offerRecord r).signals = s.signals := by
  unfold State.offerRecord; try dsimp only
  repeat' split
  all_goals try simp
  all_goals try (refine (foldl_signals ?_ _ _).trans ?_ <;> (repeat' (first | intro _ | split)) <;> simp)
@[simp] theorem retireLeg_pos (s : State) (i : Fin 8) (j : Fin 2) :
    (s.retireLeg i j).pos = s.pos := by
  unfold State.retireLeg; try dsimp only
  repeat' split
  all_goals try simp
  all_goals try (refine (foldl_pos ?_ _ _).trans ?_ <;> (repeat' (first | intro _ | split)) <;> simp)
@[simp] theorem retireLeg_trunk (s : State) (i : Fin 8) (j : Fin 2) :
    (s.retireLeg i j).trunk = s.trunk := by
  unfold State.retireLeg; try dsimp only
  repeat' split
  all_goals try simp
  all_goals try (refine (foldl_trunk ?_ _ _).trans ?_ <;> (repeat' (first | intro _ | split)) <;> simp)
@[simp] theorem retireLeg_signals (s : State) (i : Fin 8) (j : Fin 2) :
    (s.retireLeg i j).signals = s.signals := by
  unfold State.retireLeg; try dsimp only
  repeat' split
  all_goals try simp
  all_goals try (refine (foldl_signals ?_ _ _).trans ?_ <;> (repeat' (first | intro _ | split)) <;> simp)
@[simp] theorem postLeg_pos (s : State) (i : Fin 8) (j : Fin 2) (poster : Option Station) :
    (s.postLeg i j poster).pos = s.pos := by
  unfold State.postLeg; try dsimp only
  repeat' split
  all_goals try simp
  all_goals try (refine (foldl_pos ?_ _ _).trans ?_ <;> (repeat' (first | intro _ | split)) <;> simp)
@[simp] theorem postLeg_trunk (s : State) (i : Fin 8) (j : Fin 2) (poster : Option Station) :
    (s.postLeg i j poster).trunk = s.trunk := by
  unfold State.postLeg; try dsimp only
  repeat' split
  all_goals try simp
  all_goals try (refine (foldl_trunk ?_ _ _).trans ?_ <;> (repeat' (first | intro _ | split)) <;> simp)
@[simp] theorem postLeg_signals (s : State) (i : Fin 8) (j : Fin 2) (poster : Option Station) :
    (s.postLeg i j poster).signals = s.signals := by
  unfold State.postLeg; try dsimp only
  repeat' split
  all_goals try simp
  all_goals try (refine (foldl_signals ?_ _ _).trans ?_ <;> (repeat' (first | intro _ | split)) <;> simp)
@[simp] theorem testLeg_pos (s : State) (i : Fin 8) (j : Fin 2) (poster : Option Station) (byRemoval : Bool) :
    (s.testLeg i j poster byRemoval).pos = s.pos := by
  unfold State.testLeg; try dsimp only
  repeat' split
  all_goals try simp
  all_goals try (refine (foldl_pos ?_ _ _).trans ?_ <;> (repeat' (first | intro _ | split)) <;> simp)
@[simp] theorem testLeg_trunk (s : State) (i : Fin 8) (j : Fin 2) (poster : Option Station) (byRemoval : Bool) :
    (s.testLeg i j poster byRemoval).trunk = s.trunk := by
  unfold State.testLeg; try dsimp only
  repeat' split
  all_goals try simp
  all_goals try (refine (foldl_trunk ?_ _ _).trans ?_ <;> (repeat' (first | intro _ | split)) <;> simp)
@[simp] theorem testLeg_signals (s : State) (i : Fin 8) (j : Fin 2) (poster : Option Station) (byRemoval : Bool) :
    (s.testLeg i j poster byRemoval).signals = s.signals := by
  unfold State.testLeg; try dsimp only
  repeat' split
  all_goals try simp
  all_goals try (refine (foldl_signals ?_ _ _).trans ?_ <;> (repeat' (first | intro _ | split)) <;> simp)
@[simp] theorem removeFromLegs_pos (s : State) (p : Station) (poster : Option Station) :
    (s.removeFromLegs p poster).pos = s.pos := by
  unfold State.removeFromLegs; try dsimp only
  repeat' split
  all_goals try simp
  all_goals try (refine (foldl_pos ?_ _ _).trans ?_ <;> (repeat' (first | intro _ | split)) <;> simp)
@[simp] theorem removeFromLegs_trunk (s : State) (p : Station) (poster : Option Station) :
    (s.removeFromLegs p poster).trunk = s.trunk := by
  unfold State.removeFromLegs; try dsimp only
  repeat' split
  all_goals try simp
  all_goals try (refine (foldl_trunk ?_ _ _).trans ?_ <;> (repeat' (first | intro _ | split)) <;> simp)
@[simp] theorem removeFromLegs_signals (s : State) (p : Station) (poster : Option Station) :
    (s.removeFromLegs p poster).signals = s.signals := by
  unfold State.removeFromLegs; try dsimp only
  repeat' split
  all_goals try simp
  all_goals try (refine (foldl_signals ?_ _ _).trans ?_ <;> (repeat' (first | intro _ | split)) <;> simp)
@[simp] theorem dropHeadRecord_pos (s : State) :
    (s.dropHeadRecord).pos = s.pos := by
  unfold State.dropHeadRecord; try dsimp only
  repeat' split
  all_goals try simp
  all_goals try (refine (foldl_pos ?_ _ _).trans ?_ <;> (repeat' (first | intro _ | split)) <;> simp)
@[simp] theorem dropHeadRecord_trunk (s : State) :
    (s.dropHeadRecord).trunk = s.trunk := by
  unfold State.dropHeadRecord; try dsimp only
  repeat' split
  all_goals try simp
  all_goals try (refine (foldl_trunk ?_ _ _).trans ?_ <;> (repeat' (first | intro _ | split)) <;> simp)
@[simp] theorem dropHeadRecord_signals (s : State) :
    (s.dropHeadRecord).signals = s.signals := by
  unfold State.dropHeadRecord; try dsimp only
  repeat' split
  all_goals try simp
  all_goals try (refine (foldl_signals ?_ _ _).trans ?_ <;> (repeat' (first | intro _ | split)) <;> simp)
@[simp] theorem emptyRecords_pos (s : State) :
    (s.emptyRecords).pos = s.pos := by
  unfold State.emptyRecords; try dsimp only
  repeat' split
  all_goals try simp
  all_goals try (refine (foldl_pos ?_ _ _).trans ?_ <;> (repeat' (first | intro _ | split)) <;> simp)
@[simp] theorem emptyRecords_trunk (s : State) :
    (s.emptyRecords).trunk = s.trunk := by
  unfold State.emptyRecords; try dsimp only
  repeat' split
  all_goals try simp
  all_goals try (refine (foldl_trunk ?_ _ _).trans ?_ <;> (repeat' (first | intro _ | split)) <;> simp)
@[simp] theorem emptyRecords_signals (s : State) :
    (s.emptyRecords).signals = s.signals := by
  unfold State.emptyRecords; try dsimp only
  repeat' split
  all_goals try simp
  all_goals try (refine (foldl_signals ?_ _ _).trans ?_ <;> (repeat' (first | intro _ | split)) <;> simp)
@[simp] theorem applyDone_pos (s : State) (sender : Station) (frame : BitVec 16) (stream : Fin 2) (delivered : Bool) (gapRows : BitVec 17) :
    (s.applyDone sender frame stream delivered gapRows).pos = s.pos := by
  unfold State.applyDone; try dsimp only
  repeat' split
  all_goals try simp
  all_goals try (refine (foldl_pos ?_ _ _).trans ?_ <;> (repeat' (first | intro _ | split)) <;> simp)
@[simp] theorem applyDone_trunk (s : State) (sender : Station) (frame : BitVec 16) (stream : Fin 2) (delivered : Bool) (gapRows : BitVec 17) :
    (s.applyDone sender frame stream delivered gapRows).trunk = s.trunk := by
  unfold State.applyDone; try dsimp only
  repeat' split
  all_goals try simp
  all_goals try (refine (foldl_trunk ?_ _ _).trans ?_ <;> (repeat' (first | intro _ | split)) <;> simp)
@[simp] theorem applyDone_signals (s : State) (sender : Station) (frame : BitVec 16) (stream : Fin 2) (delivered : Bool) (gapRows : BitVec 17) :
    (s.applyDone sender frame stream delivered gapRows).signals = s.signals := by
  unfold State.applyDone; try dsimp only
  repeat' split
  all_goals try simp
  all_goals try (refine (foldl_signals ?_ _ _).trans ?_ <;> (repeat' (first | intro _ | split)) <;> simp)
@[simp] theorem judgeWait_pos (s : State) (t : Tap) :
    (s.judgeWait t).pos = s.pos := by
  unfold State.judgeWait; try dsimp only
  repeat' split
  all_goals try simp
  all_goals try (refine (foldl_pos ?_ _ _).trans ?_ <;> (repeat' (first | intro _ | split)) <;> simp)
@[simp] theorem discardHeads_pos (t : Tap) (l : List Line) (s : State) :
    (State.discardHeads t l s).pos = s.pos := by
  induction l generalizing s with
  | nil => rfl
  | cons a l ih => unfold State.discardHeads; split <;> simp [ih]

@[simp] theorem judgeWait_trunk (s : State) (t : Tap) :
    (s.judgeWait t).trunk = s.trunk := by
  unfold State.judgeWait; try dsimp only
  repeat' split
  all_goals try simp
  all_goals try (refine (foldl_trunk ?_ _ _).trans ?_ <;> (repeat' (first | intro _ | split)) <;> simp)
@[simp] theorem discardHeads_trunk (t : Tap) (l : List Line) (s : State) :
    (State.discardHeads t l s).trunk = s.trunk := by
  induction l generalizing s with
  | nil => rfl
  | cons a l ih => unfold State.discardHeads; split <;> simp [ih]

@[simp] theorem judgeWait_signals (s : State) (t : Tap) :
    (s.judgeWait t).signals = s.signals := by
  unfold State.judgeWait; try dsimp only
  repeat' split
  all_goals try simp
  all_goals try (refine (foldl_signals ?_ _ _).trans ?_ <;> (repeat' (first | intro _ | split)) <;> simp)
@[simp] theorem discardHeads_signals (t : Tap) (l : List Line) (s : State) :
    (State.discardHeads t l s).signals = s.signals := by
  induction l generalizing s with
  | nil => rfl
  | cons a l ih => unfold State.discardHeads; split <;> simp [ih]

@[simp] theorem tapDone_pos (s : State) (t : Tap) (k : Nat) :
    (s.tapDone t k).pos = s.pos := by
  unfold State.tapDone; try dsimp only
  repeat' split
  all_goals try simp
  all_goals try (refine (foldl_pos ?_ _ _).trans ?_ <;> (repeat' (first | intro _ | split)) <;> simp)
@[simp] theorem tapDone_trunk (s : State) (t : Tap) (k : Nat) :
    (s.tapDone t k).trunk = s.trunk := by
  unfold State.tapDone; try dsimp only
  repeat' split
  all_goals try simp
  all_goals try (refine (foldl_trunk ?_ _ _).trans ?_ <;> (repeat' (first | intro _ | split)) <;> simp)
@[simp] theorem tapDone_signals (s : State) (t : Tap) (k : Nat) :
    (s.tapDone t k).signals = s.signals := by
  unfold State.tapDone; try dsimp only
  repeat' split
  all_goals try simp
  all_goals try (refine (foldl_signals ?_ _ _).trans ?_ <;> (repeat' (first | intro _ | split)) <;> simp)
@[simp] theorem finishMarked_pos (s : State) (t : Tap) :
    (s.finishMarked t).pos = s.pos := by
  unfold State.finishMarked; try dsimp only
  repeat' split
  all_goals try simp
  all_goals try (refine (foldl_pos ?_ _ _).trans ?_ <;> (repeat' (first | intro _ | split)) <;> simp)
@[simp] theorem finishMarked_trunk (s : State) (t : Tap) :
    (s.finishMarked t).trunk = s.trunk := by
  unfold State.finishMarked; try dsimp only
  repeat' split
  all_goals try simp
  all_goals try (refine (foldl_trunk ?_ _ _).trans ?_ <;> (repeat' (first | intro _ | split)) <;> simp)
@[simp] theorem finishMarked_signals (s : State) (t : Tap) :
    (s.finishMarked t).signals = s.signals := by
  unfold State.finishMarked; try dsimp only
  repeat' split
  all_goals try simp
  all_goals try (refine (foldl_signals ?_ _ _).trans ?_ <;> (repeat' (first | intro _ | split)) <;> simp)
@[simp] theorem startFlushes_pos (s : State) :
    (s.startFlushes).pos = s.pos := by
  unfold State.startFlushes; try dsimp only
  repeat' split
  all_goals try simp
  all_goals try (refine (foldl_pos ?_ _ _).trans ?_ <;> (repeat' (first | intro _ | split)) <;> simp)
@[simp] theorem startFlushes_trunk (s : State) :
    (s.startFlushes).trunk = s.trunk := by
  unfold State.startFlushes; try dsimp only
  repeat' split
  all_goals try simp
  all_goals try (refine (foldl_trunk ?_ _ _).trans ?_ <;> (repeat' (first | intro _ | split)) <;> simp)
@[simp] theorem startFlushes_signals (s : State) :
    (s.startFlushes).signals = s.signals := by
  unfold State.startFlushes; try dsimp only
  repeat' split
  all_goals try simp
  all_goals try (refine (foldl_signals ?_ _ _).trans ?_ <;> (repeat' (first | intro _ | split)) <;> simp)
@[simp] theorem endCheck_pos (s : State) (t : Tap) :
    (s.endCheck t).pos = s.pos := by
  unfold State.endCheck; try dsimp only
  repeat' split
  all_goals try simp
  all_goals try (refine (foldl_pos ?_ _ _).trans ?_ <;> (repeat' (first | intro _ | split)) <;> simp)
@[simp] theorem endCheck_trunk (s : State) (t : Tap) :
    (s.endCheck t).trunk = s.trunk := by
  unfold State.endCheck; try dsimp only
  repeat' split
  all_goals try simp
  all_goals try (refine (foldl_trunk ?_ _ _).trans ?_ <;> (repeat' (first | intro _ | split)) <;> simp)
@[simp] theorem endCheck_signals (s : State) (t : Tap) :
    (s.endCheck t).signals = s.signals := by
  unfold State.endCheck; try dsimp only
  repeat' split
  all_goals try simp
  all_goals try (refine (foldl_signals ?_ _ _).trans ?_ <;> (repeat' (first | intro _ | split)) <;> simp)
@[simp] theorem endChecks_pos (s : State) :
    (s.endChecks).pos = s.pos := by
  unfold State.endChecks; try dsimp only
  repeat' split
  all_goals try simp
  all_goals try (refine (foldl_pos ?_ _ _).trans ?_ <;> (repeat' (first | intro _ | split)) <;> simp)
@[simp] theorem endChecks_trunk (s : State) :
    (s.endChecks).trunk = s.trunk := by
  unfold State.endChecks; try dsimp only
  repeat' split
  all_goals try simp
  all_goals try (refine (foldl_trunk ?_ _ _).trans ?_ <;> (repeat' (first | intro _ | split)) <;> simp)
@[simp] theorem endChecks_signals (s : State) :
    (s.endChecks).signals = s.signals := by
  unfold State.endChecks; try dsimp only
  repeat' split
  all_goals try simp
  all_goals try (refine (foldl_signals ?_ _ _).trans ?_ <;> (repeat' (first | intro _ | split)) <;> simp)
@[simp] theorem settleTap_pos (s : State) (t : Tap) :
    (s.settleTap t).pos = s.pos := by
  unfold State.settleTap; try dsimp only
  repeat' split
  all_goals try simp
  all_goals try (refine (foldl_pos ?_ _ _).trans ?_ <;> (repeat' (first | intro _ | split)) <;> simp)
@[simp] theorem settleTap_trunk (s : State) (t : Tap) :
    (s.settleTap t).trunk = s.trunk := by
  unfold State.settleTap; try dsimp only
  repeat' split
  all_goals try simp
  all_goals try (refine (foldl_trunk ?_ _ _).trans ?_ <;> (repeat' (first | intro _ | split)) <;> simp)
@[simp] theorem settleTap_signals (s : State) (t : Tap) :
    (s.settleTap t).signals = s.signals := by
  unfold State.settleTap; try dsimp only
  repeat' split
  all_goals try simp
  all_goals try (refine (foldl_signals ?_ _ _).trans ?_ <;> (repeat' (first | intro _ | split)) <;> simp)
@[simp] theorem settle_pos (s : State) :
    (s.settle).pos = s.pos := by
  unfold State.settle; try dsimp only
  repeat' split
  all_goals try simp
  all_goals try (refine (foldl_pos ?_ _ _).trans ?_ <;> (repeat' (first | intro _ | split)) <;> simp)
@[simp] theorem settle_trunk (s : State) :
    (s.settle).trunk = s.trunk := by
  unfold State.settle; try dsimp only
  repeat' split
  all_goals try simp
  all_goals try (refine (foldl_trunk ?_ _ _).trans ?_ <;> (repeat' (first | intro _ | split)) <;> simp)
@[simp] theorem settle_signals (s : State) :
    (s.settle).signals = s.signals := by
  unfold State.settle; try dsimp only
  repeat' split
  all_goals try simp
  all_goals try (refine (foldl_signals ?_ _ _).trans ?_ <;> (repeat' (first | intro _ | split)) <;> simp)
@[simp] theorem rowFilled_pos (s : State) (t : Tap) (r : Nat) :
    (s.rowFilled t r).pos = s.pos := by
  unfold State.rowFilled; try dsimp only
  repeat' split
  all_goals try simp
  all_goals try (refine (foldl_pos ?_ _ _).trans ?_ <;> (repeat' (first | intro _ | split)) <;> simp)
@[simp] theorem rowFilled_trunk (s : State) (t : Tap) (r : Nat) :
    (s.rowFilled t r).trunk = s.trunk := by
  unfold State.rowFilled; try dsimp only
  repeat' split
  all_goals try simp
  all_goals try (refine (foldl_trunk ?_ _ _).trans ?_ <;> (repeat' (first | intro _ | split)) <;> simp)
@[simp] theorem rowFilled_signals (s : State) (t : Tap) (r : Nat) :
    (s.rowFilled t r).signals = s.signals := by
  unfold State.rowFilled; try dsimp only
  repeat' split
  all_goals try simp
  all_goals try (refine (foldl_signals ?_ _ _).trans ?_ <;> (repeat' (first | intro _ | split)) <;> simp)
@[simp] theorem startTurn_pos (s : State) (t : Tap) :
    (s.startTurn t).pos = s.pos := by
  unfold State.startTurn; try dsimp only
  repeat' split
  all_goals try simp
  all_goals try (refine (foldl_pos ?_ _ _).trans ?_ <;> (repeat' (first | intro _ | split)) <;> simp)
@[simp] theorem startTurn_trunk (s : State) (t : Tap) :
    (s.startTurn t).trunk = s.trunk := by
  unfold State.startTurn; try dsimp only
  repeat' split
  all_goals try simp
  all_goals try (refine (foldl_trunk ?_ _ _).trans ?_ <;> (repeat' (first | intro _ | split)) <;> simp)
@[simp] theorem startTurn_signals (s : State) (t : Tap) :
    (s.startTurn t).signals = s.signals := by
  unfold State.startTurn; try dsimp only
  repeat' split
  all_goals try simp
  all_goals try (refine (foldl_signals ?_ _ _).trans ?_ <;> (repeat' (first | intro _ | split)) <;> simp)
@[simp] theorem endTurn_pos (s : State) (tu : Turn) :
    (s.endTurn tu).pos = s.pos := by
  unfold State.endTurn; try dsimp only
  repeat' split
  all_goals try simp
  all_goals try (refine (foldl_pos ?_ _ _).trans ?_ <;> (repeat' (first | intro _ | split)) <;> simp)
@[simp] theorem endTurn_trunk (s : State) (tu : Turn) :
    (s.endTurn tu).trunk = s.trunk := by
  unfold State.endTurn; try dsimp only
  repeat' split
  all_goals try simp
  all_goals try (refine (foldl_trunk ?_ _ _).trans ?_ <;> (repeat' (first | intro _ | split)) <;> simp)
@[simp] theorem endTurn_signals (s : State) (tu : Turn) :
    (s.endTurn tu).signals = s.signals := by
  unfold State.endTurn; try dsimp only
  repeat' split
  all_goals try simp
  all_goals try (refine (foldl_signals ?_ _ _).trans ?_ <;> (repeat' (first | intro _ | split)) <;> simp)
@[simp] theorem storeRow_pos (s : State) (t : Tap) (l : Line) :
    (s.storeRow t l).pos = s.pos := by
  unfold State.storeRow; try dsimp only
  repeat' split
  all_goals try simp
  all_goals try (refine (foldl_pos ?_ _ _).trans ?_ <;> (repeat' (first | intro _ | split)) <;> simp)
@[simp] theorem storeRow_trunk (s : State) (t : Tap) (l : Line) :
    (s.storeRow t l).trunk = s.trunk := by
  unfold State.storeRow; try dsimp only
  repeat' split
  all_goals try simp
  all_goals try (refine (foldl_trunk ?_ _ _).trans ?_ <;> (repeat' (first | intro _ | split)) <;> simp)
@[simp] theorem storeRow_signals (s : State) (t : Tap) (l : Line) :
    (s.storeRow t l).signals = s.signals := by
  unfold State.storeRow; try dsimp only
  repeat' split
  all_goals try simp
  all_goals try (refine (foldl_signals ?_ _ _).trans ?_ <;> (repeat' (first | intro _ | split)) <;> simp)
@[simp] theorem lineWritten_pos (s : State) (t : Tap) (l : Line) (i : Fin 8) (j : Fin 2) :
    (s.lineWritten t l i j).pos = s.pos := by
  unfold State.lineWritten; try dsimp only
  repeat' split
  all_goals try simp
  all_goals try (refine (foldl_pos ?_ _ _).trans ?_ <;> (repeat' (first | intro _ | split)) <;> simp)
@[simp] theorem lineWritten_trunk (s : State) (t : Tap) (l : Line) (i : Fin 8) (j : Fin 2) :
    (s.lineWritten t l i j).trunk = s.trunk := by
  unfold State.lineWritten; try dsimp only
  repeat' split
  all_goals try simp
  all_goals try (refine (foldl_trunk ?_ _ _).trans ?_ <;> (repeat' (first | intro _ | split)) <;> simp)
@[simp] theorem lineWritten_signals (s : State) (t : Tap) (l : Line) (i : Fin 8) (j : Fin 2) :
    (s.lineWritten t l i j).signals = s.signals := by
  unfold State.lineWritten; try dsimp only
  repeat' split
  all_goals try simp
  all_goals try (refine (foldl_signals ?_ _ _).trans ?_ <;> (repeat' (first | intro _ | split)) <;> simp)
@[simp] theorem issueRecordClass_pos (s : State) (r : PortRequest) :
    (s.issueRecordClass r).pos = s.pos := by
  unfold State.issueRecordClass; try dsimp only
  repeat' split
  all_goals try simp
  all_goals try (refine (foldl_pos ?_ _ _).trans ?_ <;> (repeat' (first | intro _ | split)) <;> simp)
@[simp] theorem issueRecordClass_trunk (s : State) (r : PortRequest) :
    (s.issueRecordClass r).trunk = s.trunk := by
  unfold State.issueRecordClass; try dsimp only
  repeat' split
  all_goals try simp
  all_goals try (refine (foldl_trunk ?_ _ _).trans ?_ <;> (repeat' (first | intro _ | split)) <;> simp)
@[simp] theorem issueRecordClass_signals (s : State) (r : PortRequest) :
    (s.issueRecordClass r).signals = s.signals := by
  unfold State.issueRecordClass; try dsimp only
  repeat' split
  all_goals try simp
  all_goals try (refine (foldl_signals ?_ _ _).trans ?_ <;> (repeat' (first | intro _ | split)) <;> simp)
@[simp] theorem cutTurn_pos (s : State) (i : Fin 8) (j : Fin 2) :
    (s.cutTurn i j).pos = s.pos := by
  unfold State.cutTurn; try dsimp only
  repeat' split
  all_goals try simp
  all_goals try (refine (foldl_pos ?_ _ _).trans ?_ <;> (repeat' (first | intro _ | split)) <;> simp)
@[simp] theorem cutTurn_trunk (s : State) (i : Fin 8) (j : Fin 2) :
    (s.cutTurn i j).trunk = s.trunk := by
  unfold State.cutTurn; try dsimp only
  repeat' split
  all_goals try simp
  all_goals try (refine (foldl_trunk ?_ _ _).trans ?_ <;> (repeat' (first | intro _ | split)) <;> simp)
@[simp] theorem cutTurn_signals (s : State) (i : Fin 8) (j : Fin 2) :
    (s.cutTurn i j).signals = s.signals := by
  unfold State.cutTurn; try dsimp only
  repeat' split
  all_goals try simp
  all_goals try (refine (foldl_signals ?_ _ _).trans ?_ <;> (repeat' (first | intro _ | split)) <;> simp)
@[simp] theorem voidParts_pos (s : State) :
    (s.voidParts).pos = s.pos := by
  unfold State.voidParts; try dsimp only
  repeat' split
  all_goals try simp
  all_goals try (refine (foldl_pos ?_ _ _).trans ?_ <;> (repeat' (first | intro _ | split)) <;> simp)
@[simp] theorem voidParts_trunk (s : State) :
    (s.voidParts).trunk = s.trunk := by
  unfold State.voidParts; try dsimp only
  repeat' split
  all_goals try simp
  all_goals try (refine (foldl_trunk ?_ _ _).trans ?_ <;> (repeat' (first | intro _ | split)) <;> simp)
@[simp] theorem voidParts_signals (s : State) :
    (s.voidParts).signals = s.signals := by
  unfold State.voidParts; try dsimp only
  repeat' split
  all_goals try simp
  all_goals try (refine (foldl_signals ?_ _ _).trans ?_ <;> (repeat' (first | intro _ | split)) <;> simp)
@[simp] theorem takePulse_pos (s : State) (j : Fin 4) (x : Nat) :
    (s.takePulse j x).pos = s.pos := by
  unfold State.takePulse; try dsimp only
  repeat' split
  all_goals try simp
  all_goals try (refine (foldl_pos ?_ _ _).trans ?_ <;> (repeat' (first | intro _ | split)) <;> simp)
@[simp] theorem takePulse_trunk (s : State) (j : Fin 4) (x : Nat) :
    (s.takePulse j x).trunk = s.trunk := by
  unfold State.takePulse; try dsimp only
  repeat' split
  all_goals try simp
  all_goals try (refine (foldl_trunk ?_ _ _).trans ?_ <;> (repeat' (first | intro _ | split)) <;> simp)
@[simp] theorem takeFollow_pos (s : State) (j : Fin 4) (x : Nat) (v : Bool) :
    (s.takeFollow j x v).pos = s.pos := by
  unfold State.takeFollow; try dsimp only
  repeat' split
  all_goals try simp
  all_goals try (refine (foldl_pos ?_ _ _).trans ?_ <;> (repeat' (first | intro _ | split)) <;> simp)
@[simp] theorem takeFollow_trunk (s : State) (j : Fin 4) (x : Nat) (v : Bool) :
    (s.takeFollow j x v).trunk = s.trunk := by
  unfold State.takeFollow; try dsimp only
  repeat' split
  all_goals try simp
  all_goals try (refine (foldl_trunk ?_ _ _).trans ?_ <;> (repeat' (first | intro _ | split)) <;> simp)
@[simp] theorem takeSignal_pos (s : State) (j : Fin 4) (id : BitVec 4) (level : Bool) (x : Nat) :
    (s.takeSignal j id level x).pos = s.pos := by
  unfold State.takeSignal; try dsimp only
  repeat' split
  all_goals try simp
  all_goals try (refine (foldl_pos ?_ _ _).trans ?_ <;> (repeat' (first | intro _ | split)) <;> simp)
@[simp] theorem takeSignal_trunk (s : State) (j : Fin 4) (id : BitVec 4) (level : Bool) (x : Nat) :
    (s.takeSignal j id level x).trunk = s.trunk := by
  unfold State.takeSignal; try dsimp only
  repeat' split
  all_goals try simp
  all_goals try (refine (foldl_trunk ?_ _ _).trans ?_ <;> (repeat' (first | intro _ | split)) <;> simp)
@[simp] theorem setFlag_pos (s : State) (i : Nat) (x : Nat) :
    (s.setFlag i x).pos = s.pos := by
  unfold State.setFlag; try dsimp only
  repeat' split
  all_goals try simp
  all_goals try (refine (foldl_pos ?_ _ _).trans ?_ <;> (repeat' (first | intro _ | split)) <;> simp)
@[simp] theorem setFlag_trunk (s : State) (i : Nat) (x : Nat) :
    (s.setFlag i x).trunk = s.trunk := by
  unfold State.setFlag; try dsimp only
  repeat' split
  all_goals try simp
  all_goals try (refine (foldl_trunk ?_ _ _).trans ?_ <;> (repeat' (first | intro _ | split)) <;> simp)
@[simp] theorem setFlag_signals (s : State) (i : Nat) (x : Nat) :
    (s.setFlag i x).signals = s.signals := by
  unfold State.setFlag; try dsimp only
  repeat' split
  all_goals try simp
  all_goals try (refine (foldl_signals ?_ _ _).trans ?_ <;> (repeat' (first | intro _ | split)) <;> simp)
@[simp] theorem applySignal_pos (s : State) (id : BitVec 4) (level : Bool) (line : Word) :
    (s.applySignal id level line).pos = s.pos := by
  unfold State.applySignal; try dsimp only
  repeat' split
  all_goals try simp
  all_goals try (refine (foldl_pos ?_ _ _).trans ?_ <;> (repeat' (first | intro _ | split)) <;> simp)
@[simp] theorem applySignal_trunk (s : State) (id : BitVec 4) (level : Bool) (line : Word) :
    (s.applySignal id level line).trunk = s.trunk := by
  unfold State.applySignal; try dsimp only
  repeat' split
  all_goals try simp
  all_goals try (refine (foldl_trunk ?_ _ _).trans ?_ <;> (repeat' (first | intro _ | split)) <;> simp)
@[simp] theorem claimEdge_pos (s : State) (i : Fin 4) (level : Bool) :
    (s.claimEdge i level).pos = s.pos := by
  unfold State.claimEdge; try dsimp only
  repeat' split
  all_goals try simp
  all_goals try (refine (foldl_pos ?_ _ _).trans ?_ <;> (repeat' (first | intro _ | split)) <;> simp)
@[simp] theorem claimEdge_trunk (s : State) (i : Fin 4) (level : Bool) :
    (s.claimEdge i level).trunk = s.trunk := by
  unfold State.claimEdge; try dsimp only
  repeat' split
  all_goals try simp
  all_goals try (refine (foldl_trunk ?_ _ _).trans ?_ <;> (repeat' (first | intro _ | split)) <;> simp)
@[simp] theorem claimEdge_signals (s : State) (i : Fin 4) (level : Bool) :
    (s.claimEdge i level).signals = s.signals := by
  unfold State.claimEdge; try dsimp only
  repeat' split
  all_goals try simp
  all_goals try (refine (foldl_signals ?_ _ _).trans ?_ <;> (repeat' (first | intro _ | split)) <;> simp)
@[simp] theorem countDropped_pos (s : State) :
    (s.countDropped).pos = s.pos := by
  unfold State.countDropped; try dsimp only
  repeat' split
  all_goals try simp
  all_goals try (refine (foldl_pos ?_ _ _).trans ?_ <;> (repeat' (first | intro _ | split)) <;> simp)
@[simp] theorem countDropped_trunk (s : State) :
    (s.countDropped).trunk = s.trunk := by
  unfold State.countDropped; try dsimp only
  repeat' split
  all_goals try simp
  all_goals try (refine (foldl_trunk ?_ _ _).trans ?_ <;> (repeat' (first | intro _ | split)) <;> simp)
@[simp] theorem countDropped_signals (s : State) :
    (s.countDropped).signals = s.signals := by
  unfold State.countDropped; try dsimp only
  repeat' split
  all_goals try simp
  all_goals try (refine (foldl_signals ?_ _ _).trans ?_ <;> (repeat' (first | intro _ | split)) <;> simp)
@[simp] theorem enterUnconfigured_pos (s : State) :
    (s.enterUnconfigured).pos = s.pos := by
  unfold State.enterUnconfigured; try dsimp only
  repeat' split
  all_goals try simp
  all_goals try (refine (foldl_pos ?_ _ _).trans ?_ <;> (repeat' (first | intro _ | split)) <;> simp)
@[simp] theorem enterUnconfigured_trunk (s : State) :
    (s.enterUnconfigured).trunk = s.trunk := by
  unfold State.enterUnconfigured; try dsimp only
  repeat' split
  all_goals try simp
  all_goals try (refine (foldl_trunk ?_ _ _).trans ?_ <;> (repeat' (first | intro _ | split)) <;> simp)
@[simp] theorem enterListening_signals (s : State) :
    (s.enterListening).signals = s.signals := by
  unfold State.enterListening; try dsimp only
  repeat' split
  all_goals try simp
  all_goals try (refine (foldl_signals ?_ _ _).trans ?_ <;> (repeat' (first | intro _ | split)) <;> simp)
@[simp] theorem enterLeaving_trunk (s : State) :
    (s.enterLeaving).trunk = s.trunk := by
  unfold State.enterLeaving; try dsimp only
  repeat' split
  all_goals try simp
  all_goals try (refine (foldl_trunk ?_ _ _).trans ?_ <;> (repeat' (first | intro _ | split)) <;> simp)
@[simp] theorem enterLeaving_signals (s : State) :
    (s.enterLeaving).signals = s.signals := by
  unfold State.enterLeaving; try dsimp only
  repeat' split
  all_goals try simp
  all_goals try (refine (foldl_signals ?_ _ _).trans ?_ <;> (repeat' (first | intro _ | split)) <;> simp)
@[simp] theorem stopLegTimers_pos (s : State) :
    (s.stopLegTimers).pos = s.pos := by
  unfold State.stopLegTimers; try dsimp only
  repeat' split
  all_goals try simp
  all_goals try (refine (foldl_pos ?_ _ _).trans ?_ <;> (repeat' (first | intro _ | split)) <;> simp)
@[simp] theorem stopLegTimers_trunk (s : State) :
    (s.stopLegTimers).trunk = s.trunk := by
  unfold State.stopLegTimers; try dsimp only
  repeat' split
  all_goals try simp
  all_goals try (refine (foldl_trunk ?_ _ _).trans ?_ <;> (repeat' (first | intro _ | split)) <;> simp)
@[simp] theorem stopLegTimers_signals (s : State) :
    (s.stopLegTimers).signals = s.signals := by
  unfold State.stopLegTimers; try dsimp only
  repeat' split
  all_goals try simp
  all_goals try (refine (foldl_signals ?_ _ _).trans ?_ <;> (repeat' (first | intro _ | split)) <;> simp)
@[simp] theorem lapse_signals (s : State) :
    (s.lapse).signals = s.signals := by
  unfold State.lapse; try dsimp only
  repeat' split
  all_goals try simp
  all_goals try (refine (foldl_signals ?_ _ _).trans ?_ <;> (repeat' (first | intro _ | split)) <;> simp)
@[simp] theorem lapseFrom_signals (s : State) (from_ : List StationState) :
    (s.lapseFrom from_).signals = s.signals := by
  unfold State.lapseFrom; try dsimp only
  repeat' split
  all_goals try simp
  all_goals try (refine (foldl_signals ?_ _ _).trans ?_ <;> (repeat' (first | intro _ | split)) <;> simp)
@[simp] theorem orphanRule_pos (s : State) :
    (s.orphanRule).pos = s.pos := by
  unfold State.orphanRule; try dsimp only
  repeat' split
  all_goals try simp
  all_goals try (refine (foldl_pos ?_ _ _).trans ?_ <;> (repeat' (first | intro _ | split)) <;> simp)
@[simp] theorem orphanRule_trunk (s : State) :
    (s.orphanRule).trunk = s.trunk := by
  unfold State.orphanRule; try dsimp only
  repeat' split
  all_goals try simp
  all_goals try (refine (foldl_trunk ?_ _ _).trans ?_ <;> (repeat' (first | intro _ | split)) <;> simp)
@[simp] theorem orphanRule_signals (s : State) :
    (s.orphanRule).signals = s.signals := by
  unfold State.orphanRule; try dsimp only
  repeat' split
  all_goals try simp
  all_goals try (refine (foldl_signals ?_ _ _).trans ?_ <;> (repeat' (first | intro _ | split)) <;> simp)
@[simp] theorem soleRule_pos (s : State) :
    (s.soleRule).pos = s.pos := by
  unfold State.soleRule; try dsimp only
  repeat' split
  all_goals try simp
  all_goals try (refine (foldl_pos ?_ _ _).trans ?_ <;> (repeat' (first | intro _ | split)) <;> simp)
@[simp] theorem soleRule_trunk (s : State) :
    (s.soleRule).trunk = s.trunk := by
  unfold State.soleRule; try dsimp only
  repeat' split
  all_goals try simp
  all_goals try (refine (foldl_trunk ?_ _ _).trans ?_ <;> (repeat' (first | intro _ | split)) <;> simp)
@[simp] theorem soleRule_signals (s : State) :
    (s.soleRule).signals = s.signals := by
  unfold State.soleRule; try dsimp only
  repeat' split
  all_goals try simp
  all_goals try (refine (foldl_signals ?_ _ _).trans ?_ <;> (repeat' (first | intro _ | split)) <;> simp)
@[simp] theorem memberChecks_pos (s : State) :
    (s.memberChecks).pos = s.pos := by
  unfold State.memberChecks; try dsimp only
  repeat' split
  all_goals try simp
  all_goals try (refine (foldl_pos ?_ _ _).trans ?_ <;> (repeat' (first | intro _ | split)) <;> simp)
@[simp] theorem memberChecks_trunk (s : State) :
    (s.memberChecks).trunk = s.trunk := by
  unfold State.memberChecks; try dsimp only
  repeat' split
  all_goals try simp
  all_goals try (refine (foldl_trunk ?_ _ _).trans ?_ <;> (repeat' (first | intro _ | split)) <;> simp)
@[simp] theorem memberChecks_signals (s : State) :
    (s.memberChecks).signals = s.signals := by
  unfold State.memberChecks; try dsimp only
  repeat' split
  all_goals try simp
  all_goals try (refine (foldl_signals ?_ _ _).trans ?_ <;> (repeat' (first | intro _ | split)) <;> simp)
@[simp] theorem removeStation_pos (s : State) (p : Station) (dropSender : Option Station) :
    (s.removeStation p dropSender).pos = s.pos := by
  unfold State.removeStation; try dsimp only
  repeat' split
  all_goals try simp
  all_goals try (refine (foldl_pos ?_ _ _).trans ?_ <;> (repeat' (first | intro _ | split)) <;> simp)
@[simp] theorem removeStation_trunk (s : State) (p : Station) (dropSender : Option Station) :
    (s.removeStation p dropSender).trunk = s.trunk := by
  unfold State.removeStation; try dsimp only
  repeat' split
  all_goals try simp
  all_goals try (refine (foldl_trunk ?_ _ _).trans ?_ <;> (repeat' (first | intro _ | split)) <;> simp)
@[simp] theorem removeStation_signals (s : State) (p : Station) (dropSender : Option Station) :
    (s.removeStation p dropSender).signals = s.signals := by
  unfold State.removeStation; try dsimp only
  repeat' split
  all_goals try simp
  all_goals try (refine (foldl_signals ?_ _ _).trans ?_ <;> (repeat' (first | intro _ | split)) <;> simp)
@[simp] theorem claimAtAdvance_pos (s : State) :
    (s.claimAtAdvance).pos = s.pos := by
  unfold State.claimAtAdvance; try dsimp only
  repeat' split
  all_goals try simp
  all_goals try (refine (foldl_pos ?_ _ _).trans ?_ <;> (repeat' (first | intro _ | split)) <;> simp)
@[simp] theorem claimAtAdvance_trunk (s : State) :
    (s.claimAtAdvance).trunk = s.trunk := by
  unfold State.claimAtAdvance; try dsimp only
  repeat' split
  all_goals try simp
  all_goals try (refine (foldl_trunk ?_ _ _).trans ?_ <;> (repeat' (first | intro _ | split)) <;> simp)
@[simp] theorem claimAtAdvance_signals (s : State) :
    (s.claimAtAdvance).signals = s.signals := by
  unfold State.claimAtAdvance; try dsimp only
  repeat' split
  all_goals try simp
  all_goals try (refine (foldl_signals ?_ _ _).trans ?_ <;> (repeat' (first | intro _ | split)) <;> simp)
@[simp] theorem pruneFlushes_pos (s : State) :
    (s.pruneFlushes).pos = s.pos := by
  unfold State.pruneFlushes; try dsimp only
  repeat' split
  all_goals try simp
  all_goals try (refine (foldl_pos ?_ _ _).trans ?_ <;> (repeat' (first | intro _ | split)) <;> simp)
@[simp] theorem pruneFlushes_trunk (s : State) :
    (s.pruneFlushes).trunk = s.trunk := by
  unfold State.pruneFlushes; try dsimp only
  repeat' split
  all_goals try simp
  all_goals try (refine (foldl_trunk ?_ _ _).trans ?_ <;> (repeat' (first | intro _ | split)) <;> simp)
@[simp] theorem pruneFlushes_signals (s : State) :
    (s.pruneFlushes).signals = s.signals := by
  unfold State.pruneFlushes; try dsimp only
  repeat' split
  all_goals try simp
  all_goals try (refine (foldl_signals ?_ _ _).trans ?_ <;> (repeat' (first | intro _ | split)) <;> simp)
@[simp] theorem found_pos (s : State) :
    (s.found).pos = s.pos := by
  unfold State.found; try dsimp only
  repeat' split
  all_goals try simp
  all_goals try (refine (foldl_pos ?_ _ _).trans ?_ <;> (repeat' (first | intro _ | split)) <;> simp)
@[simp] theorem found_trunk (s : State) :
    (s.found).trunk = s.trunk := by
  unfold State.found; try dsimp only
  repeat' split
  all_goals try simp
  all_goals try (refine (foldl_trunk ?_ _ _).trans ?_ <;> (repeat' (first | intro _ | split)) <;> simp)
@[simp] theorem found_signals (s : State) :
    (s.found).signals = s.signals := by
  unfold State.found; try dsimp only
  repeat' split
  all_goals try simp
  all_goals try (refine (foldl_signals ?_ _ _).trans ?_ <;> (repeat' (first | intro _ | split)) <;> simp)
@[simp] theorem consumeSteer_pos (s : State) (j : Fin 2) (e : Steer) :
    (s.consumeSteer j e).pos = s.pos := by
  unfold State.consumeSteer; try dsimp only
  repeat' split
  all_goals try simp
  all_goals try (refine (foldl_pos ?_ _ _).trans ?_ <;> (repeat' (first | intro _ | split)) <;> simp)
@[simp] theorem consumeSteer_trunk (s : State) (j : Fin 2) (e : Steer) :
    (s.consumeSteer j e).trunk = s.trunk := by
  unfold State.consumeSteer; try dsimp only
  repeat' split
  all_goals try simp
  all_goals try (refine (foldl_trunk ?_ _ _).trans ?_ <;> (repeat' (first | intro _ | split)) <;> simp)
@[simp] theorem consumeSteer_signals (s : State) (j : Fin 2) (e : Steer) :
    (s.consumeSteer j e).signals = s.signals := by
  unfold State.consumeSteer; try dsimp only
  repeat' split
  all_goals try simp
  all_goals try (refine (foldl_signals ?_ _ _).trans ?_ <;> (repeat' (first | intro _ | split)) <;> simp)
@[simp] theorem desync_signals (s : State) :
    (s.desync).signals = s.signals := by
  unfold State.desync; try dsimp only
  repeat' split
  all_goals try simp
  all_goals try (refine (foldl_signals ?_ _ _).trans ?_ <;> (repeat' (first | intro _ | split)) <;> simp)
@[simp] theorem applyGrant_signals (s : State) (c : Fin 8) (seq : Byte) (base : Page) :
    (s.applyGrant c seq base).signals = s.signals := by
  unfold State.applyGrant; try dsimp only
  repeat' split
  all_goals try simp
  all_goals try (refine (foldl_signals ?_ _ _).trans ?_ <;> (repeat' (first | intro _ | split)) <;> simp)
@[simp] theorem bornVoid_pos (s : State) (i : Fin 8) (j : Fin 2) :
    (s.bornVoid i j).pos = s.pos := by
  unfold State.bornVoid; try dsimp only
  repeat' split
  all_goals try simp
  all_goals try (refine (foldl_pos ?_ _ _).trans ?_ <;> (repeat' (first | intro _ | split)) <;> simp)
@[simp] theorem bornVoid_trunk (s : State) (i : Fin 8) (j : Fin 2) :
    (s.bornVoid i j).trunk = s.trunk := by
  unfold State.bornVoid; try dsimp only
  repeat' split
  all_goals try simp
  all_goals try (refine (foldl_trunk ?_ _ _).trans ?_ <;> (repeat' (first | intro _ | split)) <;> simp)
@[simp] theorem bornVoid_signals (s : State) (i : Fin 8) (j : Fin 2) :
    (s.bornVoid i j).signals = s.signals := by
  unfold State.bornVoid; try dsimp only
  repeat' split
  all_goals try simp
  all_goals try (refine (foldl_signals ?_ _ _).trans ?_ <;> (repeat' (first | intro _ | split)) <;> simp)
@[simp] theorem enterFrame_pos (s : State) (k : Nat) (mask : StationSet) (entries : StreamEntries) :
    (s.enterFrame k mask entries).pos = s.pos := by
  unfold State.enterFrame; try dsimp only
  repeat' split
  all_goals try simp
  all_goals try (refine (foldl_pos ?_ _ _).trans ?_ <;> (repeat' (first | intro _ | split)) <;> simp)
@[simp] theorem enterFrame_trunk (s : State) (k : Nat) (mask : StationSet) (entries : StreamEntries) :
    (s.enterFrame k mask entries).trunk = s.trunk := by
  unfold State.enterFrame; try dsimp only
  repeat' split
  all_goals try simp
  all_goals try (refine (foldl_trunk ?_ _ _).trans ?_ <;> (repeat' (first | intro _ | split)) <;> simp)
@[simp] theorem enterFrame_signals (s : State) (k : Nat) (mask : StationSet) (entries : StreamEntries) :
    (s.enterFrame k mask entries).signals = s.signals := by
  unfold State.enterFrame; try dsimp only
  repeat' split
  all_goals try simp
  all_goals try (refine (foldl_signals ?_ _ _).trans ?_ <;> (repeat' (first | intro _ | split)) <;> simp)
@[simp] theorem clearForeign_pos (s : State) (i : Fin 8) :
    (s.clearForeign i).pos = s.pos := by
  unfold State.clearForeign; try dsimp only
  repeat' split
  all_goals try simp
  all_goals try (refine (foldl_pos ?_ _ _).trans ?_ <;> (repeat' (first | intro _ | split)) <;> simp)
@[simp] theorem clearForeign_trunk (s : State) (i : Fin 8) :
    (s.clearForeign i).trunk = s.trunk := by
  unfold State.clearForeign; try dsimp only
  repeat' split
  all_goals try simp
  all_goals try (refine (foldl_trunk ?_ _ _).trans ?_ <;> (repeat' (first | intro _ | split)) <;> simp)
@[simp] theorem clearForeign_signals (s : State) (i : Fin 8) :
    (s.clearForeign i).signals = s.signals := by
  unfold State.clearForeign; try dsimp only
  repeat' split
  all_goals try simp
  all_goals try (refine (foldl_signals ?_ _ _).trans ?_ <;> (repeat' (first | intro _ | split)) <;> simp)
@[simp] theorem applyOpening_signals (s : State) (frame : BitVec 16) (mask : StationSet) (entries : StreamEntries) :
    (s.applyOpening frame mask entries).signals = s.signals := by
  unfold State.applyOpening; try dsimp only
  repeat' split
  all_goals try simp
  all_goals try (refine (foldl_signals ?_ _ _).trans ?_ <;> (repeat' (first | intro _ | split)) <;> simp)
@[simp] theorem applyGate_pos (s : State) (isOpen : Bool) (frame : BitVec 16) :
    (s.applyGate isOpen frame).pos = s.pos := by
  unfold State.applyGate; try dsimp only
  repeat' split
  all_goals try simp
  all_goals try (refine (foldl_pos ?_ _ _).trans ?_ <;> (repeat' (first | intro _ | split)) <;> simp)
@[simp] theorem applyGate_trunk (s : State) (isOpen : Bool) (frame : BitVec 16) :
    (s.applyGate isOpen frame).trunk = s.trunk := by
  unfold State.applyGate; try dsimp only
  repeat' split
  all_goals try simp
  all_goals try (refine (foldl_trunk ?_ _ _).trans ?_ <;> (repeat' (first | intro _ | split)) <;> simp)
@[simp] theorem applyGate_signals (s : State) (isOpen : Bool) (frame : BitVec 16) :
    (s.applyGate isOpen frame).signals = s.signals := by
  unfold State.applyGate; try dsimp only
  repeat' split
  all_goals try simp
  all_goals try (refine (foldl_signals ?_ _ _).trans ?_ <;> (repeat' (first | intro _ | split)) <;> simp)
@[simp] theorem learnFrames_pos (s : State) (r : Roll) :
    (s.learnFrames r).pos = s.pos := by
  unfold State.learnFrames; try dsimp only
  repeat' split
  all_goals try simp
  all_goals try (refine (foldl_pos ?_ _ _).trans ?_ <;> (repeat' (first | intro _ | split)) <;> simp)
@[simp] theorem learnFrames_trunk (s : State) (r : Roll) :
    (s.learnFrames r).trunk = s.trunk := by
  unfold State.learnFrames; try dsimp only
  repeat' split
  all_goals try simp
  all_goals try (refine (foldl_trunk ?_ _ _).trans ?_ <;> (repeat' (first | intro _ | split)) <;> simp)
@[simp] theorem learnFrames_signals (s : State) (r : Roll) :
    (s.learnFrames r).signals = s.signals := by
  unfold State.learnFrames; try dsimp only
  repeat' split
  all_goals try simp
  all_goals try (refine (foldl_signals ?_ _ _).trans ?_ <;> (repeat' (first | intro _ | split)) <;> simp)
@[simp] theorem forgetForeign_pos (s : State) (r : Roll) :
    (s.forgetForeign r).pos = s.pos := by
  unfold State.forgetForeign; try dsimp only
  repeat' split
  all_goals try simp
  all_goals try (refine (foldl_pos ?_ _ _).trans ?_ <;> (repeat' (first | intro _ | split)) <;> simp)
@[simp] theorem forgetForeign_trunk (s : State) (r : Roll) :
    (s.forgetForeign r).trunk = s.trunk := by
  unfold State.forgetForeign; try dsimp only
  repeat' split
  all_goals try simp
  all_goals try (refine (foldl_trunk ?_ _ _).trans ?_ <;> (repeat' (first | intro _ | split)) <;> simp)
@[simp] theorem forgetForeign_signals (s : State) (r : Roll) :
    (s.forgetForeign r).signals = s.signals := by
  unfold State.forgetForeign; try dsimp only
  repeat' split
  all_goals try simp
  all_goals try (refine (foldl_signals ?_ _ _).trans ?_ <;> (repeat' (first | intro _ | split)) <;> simp)
@[simp] theorem takeCompleteness_pos (s : State) (r : Roll) :
    (s.takeCompleteness r).pos = s.pos := by
  unfold State.takeCompleteness; try dsimp only
  repeat' split
  all_goals try simp
  all_goals try (refine (foldl_pos ?_ _ _).trans ?_ <;> (repeat' (first | intro _ | split)) <;> simp)
@[simp] theorem takeCompleteness_trunk (s : State) (r : Roll) :
    (s.takeCompleteness r).trunk = s.trunk := by
  unfold State.takeCompleteness; try dsimp only
  repeat' split
  all_goals try simp
  all_goals try (refine (foldl_trunk ?_ _ _).trans ?_ <;> (repeat' (first | intro _ | split)) <;> simp)
@[simp] theorem takeCompleteness_signals (s : State) (r : Roll) :
    (s.takeCompleteness r).signals = s.signals := by
  unfold State.takeCompleteness; try dsimp only
  repeat' split
  all_goals try simp
  all_goals try (refine (foldl_signals ?_ _ _).trans ?_ <;> (repeat' (first | intro _ | split)) <;> simp)
@[simp] theorem takeLive_pos (s : State) (t : Tap) (r : Trigger) :
    (s.takeLive t r).pos = s.pos := by
  unfold State.takeLive; try dsimp only
  repeat' split
  all_goals try simp
  all_goals try (refine (foldl_pos ?_ _ _).trans ?_ <;> (repeat' (first | intro _ | split)) <;> simp)
@[simp] theorem takeLive_trunk (s : State) (t : Tap) (r : Trigger) :
    (s.takeLive t r).trunk = s.trunk := by
  unfold State.takeLive; try dsimp only
  repeat' split
  all_goals try simp
  all_goals try (refine (foldl_trunk ?_ _ _).trans ?_ <;> (repeat' (first | intro _ | split)) <;> simp)
@[simp] theorem takeLive_signals (s : State) (t : Tap) (r : Trigger) :
    (s.takeLive t r).signals = s.signals := by
  unfold State.takeLive; try dsimp only
  repeat' split
  all_goals try simp
  all_goals try (refine (foldl_signals ?_ _ _).trans ?_ <;> (repeat' (first | intro _ | split)) <;> simp)
@[simp] theorem takePattern_pos (s : State) (t : Tap) (r : Trigger) :
    (s.takePattern t r).pos = s.pos := by
  unfold State.takePattern; try dsimp only
  repeat' split
  all_goals try simp
  all_goals try (refine (foldl_pos ?_ _ _).trans ?_ <;> (repeat' (first | intro _ | split)) <;> simp)
@[simp] theorem takePattern_trunk (s : State) (t : Tap) (r : Trigger) :
    (s.takePattern t r).trunk = s.trunk := by
  unfold State.takePattern; try dsimp only
  repeat' split
  all_goals try simp
  all_goals try (refine (foldl_trunk ?_ _ _).trans ?_ <;> (repeat' (first | intro _ | split)) <;> simp)
@[simp] theorem takePattern_signals (s : State) (t : Tap) (r : Trigger) :
    (s.takePattern t r).signals = s.signals := by
  unfold State.takePattern; try dsimp only
  repeat' split
  all_goals try simp
  all_goals try (refine (foldl_signals ?_ _ _).trans ?_ <;> (repeat' (first | intro _ | split)) <;> simp)
@[simp] theorem handRecord_pos (s : State) (t : Tap) (r : Trigger) :
    (s.handRecord t r).pos = s.pos := by
  unfold State.handRecord; try dsimp only
  repeat' split
  all_goals try simp
  all_goals try (refine (foldl_pos ?_ _ _).trans ?_ <;> (repeat' (first | intro _ | split)) <;> simp)
@[simp] theorem handRecord_trunk (s : State) (t : Tap) (r : Trigger) :
    (s.handRecord t r).trunk = s.trunk := by
  unfold State.handRecord; try dsimp only
  repeat' split
  all_goals try simp
  all_goals try (refine (foldl_trunk ?_ _ _).trans ?_ <;> (repeat' (first | intro _ | split)) <;> simp)
@[simp] theorem handRecord_signals (s : State) (t : Tap) (r : Trigger) :
    (s.handRecord t r).signals = s.signals := by
  unfold State.handRecord; try dsimp only
  repeat' split
  all_goals try simp
  all_goals try (refine (foldl_signals ?_ _ _).trans ?_ <;> (repeat' (first | intro _ | split)) <;> simp)
@[simp] theorem handRecords_pos (s : State) (r : Trigger) :
    (s.handRecords r).pos = s.pos := by
  unfold State.handRecords; try dsimp only
  repeat' split
  all_goals try simp
  all_goals try (refine (foldl_pos ?_ _ _).trans ?_ <;> (repeat' (first | intro _ | split)) <;> simp)
@[simp] theorem handRecords_trunk (s : State) (r : Trigger) :
    (s.handRecords r).trunk = s.trunk := by
  unfold State.handRecords; try dsimp only
  repeat' split
  all_goals try simp
  all_goals try (refine (foldl_trunk ?_ _ _).trans ?_ <;> (repeat' (first | intro _ | split)) <;> simp)
@[simp] theorem handRecords_signals (s : State) (r : Trigger) :
    (s.handRecords r).signals = s.signals := by
  unfold State.handRecords; try dsimp only
  repeat' split
  all_goals try simp
  all_goals try (refine (foldl_signals ?_ _ _).trans ?_ <;> (repeat' (first | intro _ | split)) <;> simp)
@[simp] theorem beginPacket_pos (s : State) (t : Tap) :
    (s.beginPacket t).pos = s.pos := by
  unfold State.beginPacket; try dsimp only
  repeat' split
  all_goals try simp
  all_goals try (refine (foldl_pos ?_ _ _).trans ?_ <;> (repeat' (first | intro _ | split)) <;> simp)
@[simp] theorem beginPacket_trunk (s : State) (t : Tap) :
    (s.beginPacket t).trunk = s.trunk := by
  unfold State.beginPacket; try dsimp only
  repeat' split
  all_goals try simp
  all_goals try (refine (foldl_trunk ?_ _ _).trans ?_ <;> (repeat' (first | intro _ | split)) <;> simp)
@[simp] theorem beginPacket_signals (s : State) (t : Tap) :
    (s.beginPacket t).signals = s.signals := by
  unfold State.beginPacket; try dsimp only
  repeat' split
  all_goals try simp
  all_goals try (refine (foldl_signals ?_ _ _).trans ?_ <;> (repeat' (first | intro _ | split)) <;> simp)
@[simp] theorem badPacket_pos (s : State) (t : Tap) (bytes : List Byte) :
    (s.badPacket t bytes).pos = s.pos := by
  unfold State.badPacket; try dsimp only
  repeat' split
  all_goals try simp
  all_goals try (refine (foldl_pos ?_ _ _).trans ?_ <;> (repeat' (first | intro _ | split)) <;> simp)
@[simp] theorem badPacket_trunk (s : State) (t : Tap) (bytes : List Byte) :
    (s.badPacket t bytes).trunk = s.trunk := by
  unfold State.badPacket; try dsimp only
  repeat' split
  all_goals try simp
  all_goals try (refine (foldl_trunk ?_ _ _).trans ?_ <;> (repeat' (first | intro _ | split)) <;> simp)
@[simp] theorem badPacket_signals (s : State) (t : Tap) (bytes : List Byte) :
    (s.badPacket t bytes).signals = s.signals := by
  unfold State.badPacket; try dsimp only
  repeat' split
  all_goals try simp
  all_goals try (refine (foldl_signals ?_ _ _).trans ?_ <;> (repeat' (first | intro _ | split)) <;> simp)
@[simp] theorem overrun_pos (s : State) (t : Tap) :
    (s.overrun t).pos = s.pos := by
  unfold State.overrun; try dsimp only
  repeat' split
  all_goals try simp
  all_goals try (refine (foldl_pos ?_ _ _).trans ?_ <;> (repeat' (first | intro _ | split)) <;> simp)
@[simp] theorem overrun_trunk (s : State) (t : Tap) :
    (s.overrun t).trunk = s.trunk := by
  unfold State.overrun; try dsimp only
  repeat' split
  all_goals try simp
  all_goals try (refine (foldl_trunk ?_ _ _).trans ?_ <;> (repeat' (first | intro _ | split)) <;> simp)
@[simp] theorem overrun_signals (s : State) (t : Tap) :
    (s.overrun t).signals = s.signals := by
  unfold State.overrun; try dsimp only
  repeat' split
  all_goals try simp
  all_goals try (refine (foldl_signals ?_ _ _).trans ?_ <;> (repeat' (first | intro _ | split)) <;> simp)
@[simp] theorem reconcile_pos (s : State) (t : Tap) (slot : Fin 256) (c : Byte) (pixels : List Byte) :
    (s.reconcile t slot c pixels).pos = s.pos := by
  unfold State.reconcile; try dsimp only
  repeat' split
  all_goals try simp
  all_goals try (refine (foldl_pos ?_ _ _).trans ?_ <;> (repeat' (first | intro _ | split)) <;> simp)
@[simp] theorem reconcile_trunk (s : State) (t : Tap) (slot : Fin 256) (c : Byte) (pixels : List Byte) :
    (s.reconcile t slot c pixels).trunk = s.trunk := by
  unfold State.reconcile; try dsimp only
  repeat' split
  all_goals try simp
  all_goals try (refine (foldl_trunk ?_ _ _).trans ?_ <;> (repeat' (first | intro _ | split)) <;> simp)
@[simp] theorem reconcile_signals (s : State) (t : Tap) (slot : Fin 256) (c : Byte) (pixels : List Byte) :
    (s.reconcile t slot c pixels).signals = s.signals := by
  unfold State.reconcile; try dsimp only
  repeat' split
  all_goals try simp
  all_goals try (refine (foldl_signals ?_ _ _).trans ?_ <;> (repeat' (first | intro _ | split)) <;> simp)
@[simp] theorem arrive_pos (s : State) (t : Tap) (slot : Fin 256) (bytes : List Byte) :
    (s.arrive t slot bytes).pos = s.pos := by
  unfold State.arrive; try dsimp only
  repeat' split
  all_goals try simp
  all_goals try (refine (foldl_pos ?_ _ _).trans ?_ <;> (repeat' (first | intro _ | split)) <;> simp)
@[simp] theorem arrive_trunk (s : State) (t : Tap) (slot : Fin 256) (bytes : List Byte) :
    (s.arrive t slot bytes).trunk = s.trunk := by
  unfold State.arrive; try dsimp only
  repeat' split
  all_goals try simp
  all_goals try (refine (foldl_trunk ?_ _ _).trans ?_ <;> (repeat' (first | intro _ | split)) <;> simp)
@[simp] theorem arrive_signals (s : State) (t : Tap) (slot : Fin 256) (bytes : List Byte) :
    (s.arrive t slot bytes).signals = s.signals := by
  unfold State.arrive; try dsimp only
  repeat' split
  all_goals try simp
  all_goals try (refine (foldl_signals ?_ _ _).trans ?_ <;> (repeat' (first | intro _ | split)) <;> simp)
@[simp] theorem afterTap_pos (s : State) :
    (s.afterTap).pos = s.pos := by
  unfold State.afterTap; try dsimp only
  repeat' split
  all_goals try simp
  all_goals try (refine (foldl_pos ?_ _ _).trans ?_ <;> (repeat' (first | intro _ | split)) <;> simp)
@[simp] theorem afterTap_trunk (s : State) :
    (s.afterTap).trunk = s.trunk := by
  unfold State.afterTap; try dsimp only
  repeat' split
  all_goals try simp
  all_goals try (refine (foldl_trunk ?_ _ _).trans ?_ <;> (repeat' (first | intro _ | split)) <;> simp)
@[simp] theorem afterTap_signals (s : State) :
    (s.afterTap).signals = s.signals := by
  unfold State.afterTap; try dsimp only
  repeat' split
  all_goals try simp
  all_goals try (refine (foldl_signals ?_ _ _).trans ?_ <;> (repeat' (first | intro _ | split)) <;> simp)

end Sys2Proof.Machine
end

