-- ==== Sys2Proof/Laws/FrameTaps.lean ====
section
/-! SUPPORT. The taps, the last request, the link and the handled marks through every operation that leaves them alone. -/

namespace Sys2Proof.Machine

set_option linter.unusedTactic false
set_option linter.unreachableTactic false
set_option linter.unnecessarySeqFocus false

theorem foldl_taps {α : Type} {f : State → α → State} (h : ∀ s a, (f s a).taps = s.taps) (l : List α)
    (s : State) : (l.foldl f s).taps = s.taps := by
  induction l generalizing s with
  | nil => rfl
  | cons a l ih => exact (ih _).trans (h _ _)

theorem foldl_lastRequest {α : Type} {f : State → α → State} (h : ∀ s a, (f s a).lastRequest = s.lastRequest) (l : List α)
    (s : State) : (l.foldl f s).lastRequest = s.lastRequest := by
  induction l generalizing s with
  | nil => rfl
  | cons a l ih => exact (ih _).trans (h _ _)

theorem foldl_linkUp {α : Type} {f : State → α → State} (h : ∀ s a, (f s a).delivery.linkUp = s.delivery.linkUp) (l : List α)
    (s : State) : (l.foldl f s).delivery.linkUp = s.delivery.linkUp := by
  induction l generalizing s with
  | nil => rfl
  | cons a l ih => exact (ih _).trans (h _ _)

theorem foldl_handled {α : Type} {f : State → α → State} (h : ∀ s a, (f s a).delivery.handled = s.delivery.handled) (l : List α)
    (s : State) : (l.foldl f s).delivery.handled = s.delivery.handled := by
  induction l generalizing s with
  | nil => rfl
  | cons a l ih => exact (ih _).trans (h _ _)

@[simp] theorem bump_linkUp (s : State) (f : Counters → Counters) :
    (s.bump f).delivery.linkUp = s.delivery.linkUp := by
  unfold State.bump; try dsimp only
  repeat' split
  all_goals try simp
  all_goals try (refine (foldl_linkUp ?_ _ _).trans ?_ <;> (repeat' (first | intro _ | split)) <;> simp)
@[simp] theorem bump_handled (s : State) (f : Counters → Counters) :
    (s.bump f).delivery.handled = s.delivery.handled := by
  unfold State.bump; try dsimp only
  repeat' split
  all_goals try simp
  all_goals try (refine (foldl_handled ?_ _ _).trans ?_ <;> (repeat' (first | intro _ | split)) <;> simp)
@[simp] theorem present_linkUp (s : State) (r : PortRequest) :
    (s.present r).delivery.linkUp = s.delivery.linkUp := by
  unfold State.present; try dsimp only
  repeat' split
  all_goals try simp
  all_goals try (refine (foldl_linkUp ?_ _ _).trans ?_ <;> (repeat' (first | intro _ | split)) <;> simp)
@[simp] theorem present_handled (s : State) (r : PortRequest) :
    (s.present r).delivery.handled = s.delivery.handled := by
  unfold State.present; try dsimp only
  repeat' split
  all_goals try simp
  all_goals try (refine (foldl_handled ?_ _ _).trans ?_ <;> (repeat' (first | intro _ | split)) <;> simp)
@[simp] theorem notice_taps (s : State) :
    (s.notice).taps = s.taps := by
  unfold State.notice; try dsimp only
  repeat' split
  all_goals try simp
  all_goals try (refine (foldl_taps ?_ _ _).trans ?_ <;> (repeat' (first | intro _ | split)) <;> simp)
@[simp] theorem notice_lastRequest (s : State) :
    (s.notice).lastRequest = s.lastRequest := by
  unfold State.notice; try dsimp only
  repeat' split
  all_goals try simp
  all_goals try (refine (foldl_lastRequest ?_ _ _).trans ?_ <;> (repeat' (first | intro _ | split)) <;> simp)
@[simp] theorem notice_linkUp (s : State) :
    (s.notice).delivery.linkUp = s.delivery.linkUp := by
  unfold State.notice; try dsimp only
  repeat' split
  all_goals try simp
  all_goals try (refine (foldl_linkUp ?_ _ _).trans ?_ <;> (repeat' (first | intro _ | split)) <;> simp)
@[simp] theorem notice_handled (s : State) :
    (s.notice).delivery.handled = s.delivery.handled := by
  unfold State.notice; try dsimp only
  repeat' split
  all_goals try simp
  all_goals try (refine (foldl_handled ?_ _ _).trans ?_ <;> (repeat' (first | intro _ | split)) <;> simp)
@[simp] theorem event_taps (s : State) (k : EventKind) :
    (s.event k).taps = s.taps := by
  unfold State.event; try dsimp only
  repeat' split
  all_goals try simp
  all_goals try (refine (foldl_taps ?_ _ _).trans ?_ <;> (repeat' (first | intro _ | split)) <;> simp)
@[simp] theorem event_lastRequest (s : State) (k : EventKind) :
    (s.event k).lastRequest = s.lastRequest := by
  unfold State.event; try dsimp only
  repeat' split
  all_goals try simp
  all_goals try (refine (foldl_lastRequest ?_ _ _).trans ?_ <;> (repeat' (first | intro _ | split)) <;> simp)
@[simp] theorem event_linkUp (s : State) (k : EventKind) :
    (s.event k).delivery.linkUp = s.delivery.linkUp := by
  unfold State.event; try dsimp only
  repeat' split
  all_goals try simp
  all_goals try (refine (foldl_linkUp ?_ _ _).trans ?_ <;> (repeat' (first | intro _ | split)) <;> simp)
@[simp] theorem event_handled (s : State) (k : EventKind) :
    (s.event k).delivery.handled = s.delivery.handled := by
  unfold State.event; try dsimp only
  repeat' split
  all_goals try simp
  all_goals try (refine (foldl_handled ?_ _ _).trans ?_ <;> (repeat' (first | intro _ | split)) <;> simp)
@[simp] theorem eventNoticed_taps (s : State) (k : EventKind) (enabled : Bool) :
    (s.eventNoticed k enabled).taps = s.taps := by
  unfold State.eventNoticed; try dsimp only
  repeat' split
  all_goals try simp
  all_goals try (refine (foldl_taps ?_ _ _).trans ?_ <;> (repeat' (first | intro _ | split)) <;> simp)
@[simp] theorem eventNoticed_lastRequest (s : State) (k : EventKind) (enabled : Bool) :
    (s.eventNoticed k enabled).lastRequest = s.lastRequest := by
  unfold State.eventNoticed; try dsimp only
  repeat' split
  all_goals try simp
  all_goals try (refine (foldl_lastRequest ?_ _ _).trans ?_ <;> (repeat' (first | intro _ | split)) <;> simp)
@[simp] theorem eventNoticed_linkUp (s : State) (k : EventKind) (enabled : Bool) :
    (s.eventNoticed k enabled).delivery.linkUp = s.delivery.linkUp := by
  unfold State.eventNoticed; try dsimp only
  repeat' split
  all_goals try simp
  all_goals try (refine (foldl_linkUp ?_ _ _).trans ?_ <;> (repeat' (first | intro _ | split)) <;> simp)
@[simp] theorem eventNoticed_handled (s : State) (k : EventKind) (enabled : Bool) :
    (s.eventNoticed k enabled).delivery.handled = s.delivery.handled := by
  unfold State.eventNoticed; try dsimp only
  repeat' split
  all_goals try simp
  all_goals try (refine (foldl_handled ?_ _ _).trans ?_ <;> (repeat' (first | intro _ | split)) <;> simp)
@[simp] theorem raise_taps (s : State) (k : FaultKind) :
    (s.raise k).taps = s.taps := by
  unfold State.raise; try dsimp only
  repeat' split
  all_goals try simp
  all_goals try (refine (foldl_taps ?_ _ _).trans ?_ <;> (repeat' (first | intro _ | split)) <;> simp)
@[simp] theorem raise_lastRequest (s : State) (k : FaultKind) :
    (s.raise k).lastRequest = s.lastRequest := by
  unfold State.raise; try dsimp only
  repeat' split
  all_goals try simp
  all_goals try (refine (foldl_lastRequest ?_ _ _).trans ?_ <;> (repeat' (first | intro _ | split)) <;> simp)
@[simp] theorem raise_linkUp (s : State) (k : FaultKind) :
    (s.raise k).delivery.linkUp = s.delivery.linkUp := by
  unfold State.raise; try dsimp only
  repeat' split
  all_goals try simp
  all_goals try (refine (foldl_linkUp ?_ _ _).trans ?_ <;> (repeat' (first | intro _ | split)) <;> simp)
@[simp] theorem raise_handled (s : State) (k : FaultKind) :
    (s.raise k).delivery.handled = s.delivery.handled := by
  unfold State.raise; try dsimp only
  repeat' split
  all_goals try simp
  all_goals try (refine (foldl_handled ?_ _ _).trans ?_ <;> (repeat' (first | intro _ | split)) <;> simp)
@[simp] theorem clearFault_linkUp (s : State) (k : FaultKind) :
    (s.clearFault k).delivery.linkUp = s.delivery.linkUp := by
  unfold State.clearFault; try dsimp only
  repeat' split
  all_goals try simp
  all_goals try (refine (foldl_linkUp ?_ _ _).trans ?_ <;> (repeat' (first | intro _ | split)) <;> simp)
@[simp] theorem clearFault_handled (s : State) (k : FaultKind) :
    (s.clearFault k).delivery.handled = s.delivery.handled := by
  unfold State.clearFault; try dsimp only
  repeat' split
  all_goals try simp
  all_goals try (refine (foldl_handled ?_ _ _).trans ?_ <;> (repeat' (first | intro _ | split)) <;> simp)
@[simp] theorem changeState_taps (s : State) (st : StationState) :
    (s.changeState st).taps = s.taps := by
  unfold State.changeState; try dsimp only
  repeat' split
  all_goals try simp
  all_goals try (refine (foldl_taps ?_ _ _).trans ?_ <;> (repeat' (first | intro _ | split)) <;> simp)
@[simp] theorem changeState_lastRequest (s : State) (st : StationState) :
    (s.changeState st).lastRequest = s.lastRequest := by
  unfold State.changeState; try dsimp only
  repeat' split
  all_goals try simp
  all_goals try (refine (foldl_lastRequest ?_ _ _).trans ?_ <;> (repeat' (first | intro _ | split)) <;> simp)
@[simp] theorem changeState_linkUp (s : State) (st : StationState) :
    (s.changeState st).delivery.linkUp = s.delivery.linkUp := by
  unfold State.changeState; try dsimp only
  repeat' split
  all_goals try simp
  all_goals try (refine (foldl_linkUp ?_ _ _).trans ?_ <;> (repeat' (first | intro _ | split)) <;> simp)
@[simp] theorem changeState_handled (s : State) (st : StationState) :
    (s.changeState st).delivery.handled = s.delivery.handled := by
  unfold State.changeState; try dsimp only
  repeat' split
  all_goals try simp
  all_goals try (refine (foldl_handled ?_ _ _).trans ?_ <;> (repeat' (first | intro _ | split)) <;> simp)
@[simp] theorem answer_linkUp (s : State) (code : Byte) (r : Result) (value : Word) :
    (s.answer code r value).delivery.linkUp = s.delivery.linkUp := by
  unfold State.answer; try dsimp only
  repeat' split
  all_goals try simp
  all_goals try (refine (foldl_linkUp ?_ _ _).trans ?_ <;> (repeat' (first | intro _ | split)) <;> simp)
@[simp] theorem answer_handled (s : State) (code : Byte) (r : Result) (value : Word) :
    (s.answer code r value).delivery.handled = s.delivery.handled := by
  unfold State.answer; try dsimp only
  repeat' split
  all_goals try simp
  all_goals try (refine (foldl_handled ?_ _ _).trans ?_ <;> (repeat' (first | intro _ | split)) <;> simp)
@[simp] theorem collide_linkUp (s : State) :
    (s.collide).delivery.linkUp = s.delivery.linkUp := by
  unfold State.collide; try dsimp only
  repeat' split
  all_goals try simp
  all_goals try (refine (foldl_linkUp ?_ _ _).trans ?_ <;> (repeat' (first | intro _ | split)) <;> simp)
@[simp] theorem collide_handled (s : State) :
    (s.collide).delivery.handled = s.delivery.handled := by
  unfold State.collide; try dsimp only
  repeat' split
  all_goals try simp
  all_goals try (refine (foldl_handled ?_ _ _).trans ?_ <;> (repeat' (first | intro _ | split)) <;> simp)
@[simp] theorem setPending_linkUp (s : State) (k : NoteKind) (l : List Pending) :
    (s.setPending k l).delivery.linkUp = s.delivery.linkUp := by
  unfold State.setPending; try dsimp only
  repeat' split
  all_goals try simp
  all_goals try (refine (foldl_linkUp ?_ _ _).trans ?_ <;> (repeat' (first | intro _ | split)) <;> simp)
@[simp] theorem setPending_handled (s : State) (k : NoteKind) (l : List Pending) :
    (s.setPending k l).delivery.handled = s.delivery.handled := by
  unfold State.setPending; try dsimp only
  repeat' split
  all_goals try simp
  all_goals try (refine (foldl_handled ?_ _ _).trans ?_ <;> (repeat' (first | intro _ | split)) <;> simp)
@[simp] theorem joinList_linkUp (s : State) (c : Claim) :
    (s.joinList c).delivery.linkUp = s.delivery.linkUp := by
  unfold State.joinList; try dsimp only
  repeat' split
  all_goals try simp
  all_goals try (refine (foldl_linkUp ?_ _ _).trans ?_ <;> (repeat' (first | intro _ | split)) <;> simp)
@[simp] theorem joinList_handled (s : State) (c : Claim) :
    (s.joinList c).delivery.handled = s.delivery.handled := by
  unfold State.joinList; try dsimp only
  repeat' split
  all_goals try simp
  all_goals try (refine (foldl_handled ?_ _ _).trans ?_ <;> (repeat' (first | intro _ | split)) <;> simp)
@[simp] theorem claimMet_linkUp (s : State) :
    (s.claimMet).delivery.linkUp = s.delivery.linkUp := by
  unfold State.claimMet; try dsimp only
  repeat' split
  all_goals try simp
  all_goals try (refine (foldl_linkUp ?_ _ _).trans ?_ <;> (repeat' (first | intro _ | split)) <;> simp)
@[simp] theorem claimMet_handled (s : State) :
    (s.claimMet).delivery.handled = s.delivery.handled := by
  unfold State.claimMet; try dsimp only
  repeat' split
  all_goals try simp
  all_goals try (refine (foldl_handled ?_ _ _).trans ?_ <;> (repeat' (first | intro _ | split)) <;> simp)
@[simp] theorem claimRefused_linkUp (s : State) :
    (s.claimRefused).delivery.linkUp = s.delivery.linkUp := by
  unfold State.claimRefused; try dsimp only
  repeat' split
  all_goals try simp
  all_goals try (refine (foldl_linkUp ?_ _ _).trans ?_ <;> (repeat' (first | intro _ | split)) <;> simp)
@[simp] theorem claimRefused_handled (s : State) :
    (s.claimRefused).delivery.handled = s.delivery.handled := by
  unfold State.claimRefused; try dsimp only
  repeat' split
  all_goals try simp
  all_goals try (refine (foldl_handled ?_ _ _).trans ?_ <;> (repeat' (first | intro _ | split)) <;> simp)
@[simp] theorem claimFifo_taps (s : State) (c : Claim) :
    (s.claimFifo c).taps = s.taps := by
  unfold State.claimFifo; try dsimp only
  repeat' split
  all_goals try simp
  all_goals try (refine (foldl_taps ?_ _ _).trans ?_ <;> (repeat' (first | intro _ | split)) <;> simp)
@[simp] theorem claimFifo_lastRequest (s : State) (c : Claim) :
    (s.claimFifo c).lastRequest = s.lastRequest := by
  unfold State.claimFifo; try dsimp only
  repeat' split
  all_goals try simp
  all_goals try (refine (foldl_lastRequest ?_ _ _).trans ?_ <;> (repeat' (first | intro _ | split)) <;> simp)
@[simp] theorem claimFifo_linkUp (s : State) (c : Claim) :
    (s.claimFifo c).delivery.linkUp = s.delivery.linkUp := by
  unfold State.claimFifo; try dsimp only
  repeat' split
  all_goals try simp
  all_goals try (refine (foldl_linkUp ?_ _ _).trans ?_ <;> (repeat' (first | intro _ | split)) <;> simp)
@[simp] theorem claimFifo_handled (s : State) (c : Claim) :
    (s.claimFifo c).delivery.handled = s.delivery.handled := by
  unfold State.claimFifo; try dsimp only
  repeat' split
  all_goals try simp
  all_goals try (refine (foldl_handled ?_ _ _).trans ?_ <;> (repeat' (first | intro _ | split)) <;> simp)
@[simp] theorem claimDrop_taps (s : State) (p : Station) :
    (s.claimDrop p).taps = s.taps := by
  unfold State.claimDrop; try dsimp only
  repeat' split
  all_goals try simp
  all_goals try (refine (foldl_taps ?_ _ _).trans ?_ <;> (repeat' (first | intro _ | split)) <;> simp)
@[simp] theorem claimDrop_lastRequest (s : State) (p : Station) :
    (s.claimDrop p).lastRequest = s.lastRequest := by
  unfold State.claimDrop; try dsimp only
  repeat' split
  all_goals try simp
  all_goals try (refine (foldl_lastRequest ?_ _ _).trans ?_ <;> (repeat' (first | intro _ | split)) <;> simp)
@[simp] theorem claimDrop_linkUp (s : State) (p : Station) :
    (s.claimDrop p).delivery.linkUp = s.delivery.linkUp := by
  unfold State.claimDrop; try dsimp only
  repeat' split
  all_goals try simp
  all_goals try (refine (foldl_linkUp ?_ _ _).trans ?_ <;> (repeat' (first | intro _ | split)) <;> simp)
@[simp] theorem claimDrop_handled (s : State) (p : Station) :
    (s.claimDrop p).delivery.handled = s.delivery.handled := by
  unfold State.claimDrop; try dsimp only
  repeat' split
  all_goals try simp
  all_goals try (refine (foldl_handled ?_ _ _).trans ?_ <;> (repeat' (first | intro _ | split)) <;> simp)
@[simp] theorem claimRoll_taps (s : State) :
    (s.claimRoll).taps = s.taps := by
  unfold State.claimRoll; try dsimp only
  repeat' split
  all_goals try simp
  all_goals try (refine (foldl_taps ?_ _ _).trans ?_ <;> (repeat' (first | intro _ | split)) <;> simp)
@[simp] theorem claimRoll_lastRequest (s : State) :
    (s.claimRoll).lastRequest = s.lastRequest := by
  unfold State.claimRoll; try dsimp only
  repeat' split
  all_goals try simp
  all_goals try (refine (foldl_lastRequest ?_ _ _).trans ?_ <;> (repeat' (first | intro _ | split)) <;> simp)
@[simp] theorem claimRoll_linkUp (s : State) :
    (s.claimRoll).delivery.linkUp = s.delivery.linkUp := by
  unfold State.claimRoll; try dsimp only
  repeat' split
  all_goals try simp
  all_goals try (refine (foldl_linkUp ?_ _ _).trans ?_ <;> (repeat' (first | intro _ | split)) <;> simp)
@[simp] theorem claimRoll_handled (s : State) :
    (s.claimRoll).delivery.handled = s.delivery.handled := by
  unfold State.claimRoll; try dsimp only
  repeat' split
  all_goals try simp
  all_goals try (refine (foldl_handled ?_ _ _).trans ?_ <;> (repeat' (first | intro _ | split)) <;> simp)
@[simp] theorem lostGrantBy_taps (s : State) (c : Claim) :
    (s.lostGrantBy c).taps = s.taps := by
  unfold State.lostGrantBy; try dsimp only
  repeat' split
  all_goals try simp
  all_goals try (refine (foldl_taps ?_ _ _).trans ?_ <;> (repeat' (first | intro _ | split)) <;> simp)
@[simp] theorem lostGrantBy_lastRequest (s : State) (c : Claim) :
    (s.lostGrantBy c).lastRequest = s.lastRequest := by
  unfold State.lostGrantBy; try dsimp only
  repeat' split
  all_goals try simp
  all_goals try (refine (foldl_lastRequest ?_ _ _).trans ?_ <;> (repeat' (first | intro _ | split)) <;> simp)
@[simp] theorem lostGrantBy_linkUp (s : State) (c : Claim) :
    (s.lostGrantBy c).delivery.linkUp = s.delivery.linkUp := by
  unfold State.lostGrantBy; try dsimp only
  repeat' split
  all_goals try simp
  all_goals try (refine (foldl_linkUp ?_ _ _).trans ?_ <;> (repeat' (first | intro _ | split)) <;> simp)
@[simp] theorem lostGrantBy_handled (s : State) (c : Claim) :
    (s.lostGrantBy c).delivery.handled = s.delivery.handled := by
  unfold State.lostGrantBy; try dsimp only
  repeat' split
  all_goals try simp
  all_goals try (refine (foldl_handled ?_ _ _).trans ?_ <;> (repeat' (first | intro _ | split)) <;> simp)
@[simp] theorem withdrawn_taps (s : State) (n : Pending) (byReset : Bool) :
    (s.withdrawn n byReset).taps = s.taps := by
  unfold State.withdrawn; try dsimp only
  repeat' split
  all_goals try simp
  all_goals try (refine (foldl_taps ?_ _ _).trans ?_ <;> (repeat' (first | intro _ | split)) <;> simp)
@[simp] theorem withdrawn_lastRequest (s : State) (n : Pending) (byReset : Bool) :
    (s.withdrawn n byReset).lastRequest = s.lastRequest := by
  unfold State.withdrawn; try dsimp only
  repeat' split
  all_goals try simp
  all_goals try (refine (foldl_lastRequest ?_ _ _).trans ?_ <;> (repeat' (first | intro _ | split)) <;> simp)
@[simp] theorem withdrawn_linkUp (s : State) (n : Pending) (byReset : Bool) :
    (s.withdrawn n byReset).delivery.linkUp = s.delivery.linkUp := by
  unfold State.withdrawn; try dsimp only
  repeat' split
  all_goals try simp
  all_goals try (refine (foldl_linkUp ?_ _ _).trans ?_ <;> (repeat' (first | intro _ | split)) <;> simp)
@[simp] theorem withdrawn_handled (s : State) (n : Pending) (byReset : Bool) :
    (s.withdrawn n byReset).delivery.handled = s.delivery.handled := by
  unfold State.withdrawn; try dsimp only
  repeat' split
  all_goals try simp
  all_goals try (refine (foldl_handled ?_ _ _).trans ?_ <;> (repeat' (first | intro _ | split)) <;> simp)
@[simp] theorem claimOpening_taps (s : State) (k : Nat) :
    (s.claimOpening k).taps = s.taps := by
  unfold State.claimOpening; try dsimp only
  repeat' split
  all_goals try simp
  all_goals try (refine (foldl_taps ?_ _ _).trans ?_ <;> (repeat' (first | intro _ | split)) <;> simp)
@[simp] theorem claimOpening_lastRequest (s : State) (k : Nat) :
    (s.claimOpening k).lastRequest = s.lastRequest := by
  unfold State.claimOpening; try dsimp only
  repeat' split
  all_goals try simp
  all_goals try (refine (foldl_lastRequest ?_ _ _).trans ?_ <;> (repeat' (first | intro _ | split)) <;> simp)
@[simp] theorem claimOpening_linkUp (s : State) (k : Nat) :
    (s.claimOpening k).delivery.linkUp = s.delivery.linkUp := by
  unfold State.claimOpening; try dsimp only
  repeat' split
  all_goals try simp
  all_goals try (refine (foldl_linkUp ?_ _ _).trans ?_ <;> (repeat' (first | intro _ | split)) <;> simp)
@[simp] theorem claimOpening_handled (s : State) (k : Nat) :
    (s.claimOpening k).delivery.handled = s.delivery.handled := by
  unfold State.claimOpening; try dsimp only
  repeat' split
  all_goals try simp
  all_goals try (refine (foldl_handled ?_ _ _).trans ?_ <;> (repeat' (first | intro _ | split)) <;> simp)
@[simp] theorem claimRoster_taps (s : State) (c : Claim) :
    (s.claimRoster c).taps = s.taps := by
  unfold State.claimRoster; try dsimp only
  repeat' split
  all_goals try simp
  all_goals try (refine (foldl_taps ?_ _ _).trans ?_ <;> (repeat' (first | intro _ | split)) <;> simp)
@[simp] theorem claimRoster_lastRequest (s : State) (c : Claim) :
    (s.claimRoster c).lastRequest = s.lastRequest := by
  unfold State.claimRoster; try dsimp only
  repeat' split
  all_goals try simp
  all_goals try (refine (foldl_lastRequest ?_ _ _).trans ?_ <;> (repeat' (first | intro _ | split)) <;> simp)
@[simp] theorem claimRoster_linkUp (s : State) (c : Claim) :
    (s.claimRoster c).delivery.linkUp = s.delivery.linkUp := by
  unfold State.claimRoster; try dsimp only
  repeat' split
  all_goals try simp
  all_goals try (refine (foldl_linkUp ?_ _ _).trans ?_ <;> (repeat' (first | intro _ | split)) <;> simp)
@[simp] theorem claimRoster_handled (s : State) (c : Claim) :
    (s.claimRoster c).delivery.handled = s.delivery.handled := by
  unfold State.claimRoster; try dsimp only
  repeat' split
  all_goals try simp
  all_goals try (refine (foldl_handled ?_ _ _).trans ?_ <;> (repeat' (first | intro _ | split)) <;> simp)
@[simp] theorem withdrawFrom_taps (s : State) (k : NoteKind) (doom : Doom) (hit : Pending → Bool) :
    (s.withdrawFrom k doom hit).taps = s.taps := by
  unfold State.withdrawFrom; try dsimp only
  repeat' split
  all_goals try simp
  all_goals try (refine (foldl_taps ?_ _ _).trans ?_ <;> (repeat' (first | intro _ | split)) <;> simp)
@[simp] theorem withdrawFrom_lastRequest (s : State) (k : NoteKind) (doom : Doom) (hit : Pending → Bool) :
    (s.withdrawFrom k doom hit).lastRequest = s.lastRequest := by
  unfold State.withdrawFrom; try dsimp only
  repeat' split
  all_goals try simp
  all_goals try (refine (foldl_lastRequest ?_ _ _).trans ?_ <;> (repeat' (first | intro _ | split)) <;> simp)
@[simp] theorem withdrawFrom_linkUp (s : State) (k : NoteKind) (doom : Doom) (hit : Pending → Bool) :
    (s.withdrawFrom k doom hit).delivery.linkUp = s.delivery.linkUp := by
  unfold State.withdrawFrom; try dsimp only
  repeat' split
  all_goals try simp
  all_goals try (refine (foldl_linkUp ?_ _ _).trans ?_ <;> (repeat' (first | intro _ | split)) <;> simp)
@[simp] theorem withdrawFrom_handled (s : State) (k : NoteKind) (doom : Doom) (hit : Pending → Bool) :
    (s.withdrawFrom k doom hit).delivery.handled = s.delivery.handled := by
  unfold State.withdrawFrom; try dsimp only
  repeat' split
  all_goals try simp
  all_goals try (refine (foldl_handled ?_ _ _).trans ?_ <;> (repeat' (first | intro _ | split)) <;> simp)
@[simp] theorem withdrawAll_taps (s : State) (doom : Doom) (keepDone : Bool) :
    (s.withdrawAll doom keepDone).taps = s.taps := by
  unfold State.withdrawAll; try dsimp only
  repeat' split
  all_goals try simp
  all_goals try (refine (foldl_taps ?_ _ _).trans ?_ <;> (repeat' (first | intro _ | split)) <;> simp)
@[simp] theorem withdrawAll_lastRequest (s : State) (doom : Doom) (keepDone : Bool) :
    (s.withdrawAll doom keepDone).lastRequest = s.lastRequest := by
  unfold State.withdrawAll; try dsimp only
  repeat' split
  all_goals try simp
  all_goals try (refine (foldl_lastRequest ?_ _ _).trans ?_ <;> (repeat' (first | intro _ | split)) <;> simp)
@[simp] theorem withdrawAll_linkUp (s : State) (doom : Doom) (keepDone : Bool) :
    (s.withdrawAll doom keepDone).delivery.linkUp = s.delivery.linkUp := by
  unfold State.withdrawAll; try dsimp only
  repeat' split
  all_goals try simp
  all_goals try (refine (foldl_linkUp ?_ _ _).trans ?_ <;> (repeat' (first | intro _ | split)) <;> simp)
@[simp] theorem withdrawAll_handled (s : State) (doom : Doom) (keepDone : Bool) :
    (s.withdrawAll doom keepDone).delivery.handled = s.delivery.handled := by
  unfold State.withdrawAll; try dsimp only
  repeat' split
  all_goals try simp
  all_goals try (refine (foldl_handled ?_ _ _).trans ?_ <;> (repeat' (first | intro _ | split)) <;> simp)
@[simp] theorem keepLeaveClaimed_taps (s : State) :
    (s.keepLeaveClaimed).taps = s.taps := by
  unfold State.keepLeaveClaimed; try dsimp only
  repeat' split
  all_goals try simp
  all_goals try (refine (foldl_taps ?_ _ _).trans ?_ <;> (repeat' (first | intro _ | split)) <;> simp)
@[simp] theorem keepLeaveClaimed_lastRequest (s : State) :
    (s.keepLeaveClaimed).lastRequest = s.lastRequest := by
  unfold State.keepLeaveClaimed; try dsimp only
  repeat' split
  all_goals try simp
  all_goals try (refine (foldl_lastRequest ?_ _ _).trans ?_ <;> (repeat' (first | intro _ | split)) <;> simp)
@[simp] theorem keepLeaveClaimed_linkUp (s : State) :
    (s.keepLeaveClaimed).delivery.linkUp = s.delivery.linkUp := by
  unfold State.keepLeaveClaimed; try dsimp only
  repeat' split
  all_goals try simp
  all_goals try (refine (foldl_linkUp ?_ _ _).trans ?_ <;> (repeat' (first | intro _ | split)) <;> simp)
@[simp] theorem keepLeaveClaimed_handled (s : State) :
    (s.keepLeaveClaimed).delivery.handled = s.delivery.handled := by
  unfold State.keepLeaveClaimed; try dsimp only
  repeat' split
  all_goals try simp
  all_goals try (refine (foldl_handled ?_ _ _).trans ?_ <;> (repeat' (first | intro _ | split)) <;> simp)
@[simp] theorem tick_linkUp (s : State) (t : Moment) :
    (s.tick t).delivery.linkUp = s.delivery.linkUp := by
  unfold State.tick; try dsimp only
  repeat' split
  all_goals try simp
  all_goals try (refine (foldl_linkUp ?_ _ _).trans ?_ <;> (repeat' (first | intro _ | split)) <;> simp)
@[simp] theorem tick_handled (s : State) (t : Moment) :
    (s.tick t).delivery.handled = s.delivery.handled := by
  unfold State.tick; try dsimp only
  repeat' split
  all_goals try simp
  all_goals try (refine (foldl_handled ?_ _ _).trans ?_ <;> (repeat' (first | intro _ | split)) <;> simp)
@[simp] theorem setTap_linkUp (s : State) (t : Tap) (x : TapState) :
    (s.setTap t x).delivery.linkUp = s.delivery.linkUp := by
  unfold State.setTap; try dsimp only
  repeat' split
  all_goals try simp
  all_goals try (refine (foldl_linkUp ?_ _ _).trans ?_ <;> (repeat' (first | intro _ | split)) <;> simp)
@[simp] theorem setTap_handled (s : State) (t : Tap) (x : TapState) :
    (s.setTap t x).delivery.handled = s.delivery.handled := by
  unfold State.setTap; try dsimp only
  repeat' split
  all_goals try simp
  all_goals try (refine (foldl_handled ?_ _ _).trans ?_ <;> (repeat' (first | intro _ | split)) <;> simp)
@[simp] theorem slotTaken_linkUp (s : State) :
    (s.slotTaken).delivery.linkUp = s.delivery.linkUp := by
  unfold State.slotTaken; try dsimp only
  repeat' split
  all_goals try simp
  all_goals try (refine (foldl_linkUp ?_ _ _).trans ?_ <;> (repeat' (first | intro _ | split)) <;> simp)
@[simp] theorem slotTaken_handled (s : State) :
    (s.slotTaken).delivery.handled = s.delivery.handled := by
  unfold State.slotTaken; try dsimp only
  repeat' split
  all_goals try simp
  all_goals try (refine (foldl_handled ?_ _ _).trans ?_ <;> (repeat' (first | intro _ | split)) <;> simp)
@[simp] theorem setSlot_linkUp (s : State) (i : Fin 8) (x : Slot) :
    (s.setSlot i x).delivery.linkUp = s.delivery.linkUp := by
  unfold State.setSlot; try dsimp only
  repeat' split
  all_goals try simp
  all_goals try (refine (foldl_linkUp ?_ _ _).trans ?_ <;> (repeat' (first | intro _ | split)) <;> simp)
@[simp] theorem setSlot_handled (s : State) (i : Fin 8) (x : Slot) :
    (s.setSlot i x).delivery.handled = s.delivery.handled := by
  unfold State.setSlot; try dsimp only
  repeat' split
  all_goals try simp
  all_goals try (refine (foldl_handled ?_ _ _).trans ?_ <;> (repeat' (first | intro _ | split)) <;> simp)
@[simp] theorem modifyLeg_taps (s : State) (i : Fin 8) (j : Fin 2) (f : Leg → Leg) :
    (s.modifyLeg i j f).taps = s.taps := by
  unfold State.modifyLeg; try dsimp only
  repeat' split
  all_goals try simp
  all_goals try (refine (foldl_taps ?_ _ _).trans ?_ <;> (repeat' (first | intro _ | split)) <;> simp)
@[simp] theorem modifyLeg_lastRequest (s : State) (i : Fin 8) (j : Fin 2) (f : Leg → Leg) :
    (s.modifyLeg i j f).lastRequest = s.lastRequest := by
  unfold State.modifyLeg; try dsimp only
  repeat' split
  all_goals try simp
  all_goals try (refine (foldl_lastRequest ?_ _ _).trans ?_ <;> (repeat' (first | intro _ | split)) <;> simp)
@[simp] theorem modifyLeg_linkUp (s : State) (i : Fin 8) (j : Fin 2) (f : Leg → Leg) :
    (s.modifyLeg i j f).delivery.linkUp = s.delivery.linkUp := by
  unfold State.modifyLeg; try dsimp only
  repeat' split
  all_goals try simp
  all_goals try (refine (foldl_linkUp ?_ _ _).trans ?_ <;> (repeat' (first | intro _ | split)) <;> simp)
@[simp] theorem modifyLeg_handled (s : State) (i : Fin 8) (j : Fin 2) (f : Leg → Leg) :
    (s.modifyLeg i j f).delivery.handled = s.delivery.handled := by
  unfold State.modifyLeg; try dsimp only
  repeat' split
  all_goals try simp
  all_goals try (refine (foldl_handled ?_ _ _).trans ?_ <;> (repeat' (first | intro _ | split)) <;> simp)
@[simp] theorem modifyPart_taps (s : State) (i : Fin 8) (j : Fin 2) (f : OwnPart → OwnPart) :
    (s.modifyPart i j f).taps = s.taps := by
  unfold State.modifyPart; try dsimp only
  repeat' split
  all_goals try simp
  all_goals try (refine (foldl_taps ?_ _ _).trans ?_ <;> (repeat' (first | intro _ | split)) <;> simp)
@[simp] theorem modifyPart_lastRequest (s : State) (i : Fin 8) (j : Fin 2) (f : OwnPart → OwnPart) :
    (s.modifyPart i j f).lastRequest = s.lastRequest := by
  unfold State.modifyPart; try dsimp only
  repeat' split
  all_goals try simp
  all_goals try (refine (foldl_lastRequest ?_ _ _).trans ?_ <;> (repeat' (first | intro _ | split)) <;> simp)
@[simp] theorem modifyPart_linkUp (s : State) (i : Fin 8) (j : Fin 2) (f : OwnPart → OwnPart) :
    (s.modifyPart i j f).delivery.linkUp = s.delivery.linkUp := by
  unfold State.modifyPart; try dsimp only
  repeat' split
  all_goals try simp
  all_goals try (refine (foldl_linkUp ?_ _ _).trans ?_ <;> (repeat' (first | intro _ | split)) <;> simp)
@[simp] theorem modifyPart_handled (s : State) (i : Fin 8) (j : Fin 2) (f : OwnPart → OwnPart) :
    (s.modifyPart i j f).delivery.handled = s.delivery.handled := by
  unfold State.modifyPart; try dsimp only
  repeat' split
  all_goals try simp
  all_goals try (refine (foldl_handled ?_ _ _).trans ?_ <;> (repeat' (first | intro _ | split)) <;> simp)
@[simp] theorem dropFlush_taps (s : State) (i : Fin 8) (j : Fin 2) :
    (s.dropFlush i j).taps = s.taps := by
  unfold State.dropFlush; try dsimp only
  repeat' split
  all_goals try simp
  all_goals try (refine (foldl_taps ?_ _ _).trans ?_ <;> (repeat' (first | intro _ | split)) <;> simp)
@[simp] theorem dropFlush_lastRequest (s : State) (i : Fin 8) (j : Fin 2) :
    (s.dropFlush i j).lastRequest = s.lastRequest := by
  unfold State.dropFlush; try dsimp only
  repeat' split
  all_goals try simp
  all_goals try (refine (foldl_lastRequest ?_ _ _).trans ?_ <;> (repeat' (first | intro _ | split)) <;> simp)
@[simp] theorem dropFlush_linkUp (s : State) (i : Fin 8) (j : Fin 2) :
    (s.dropFlush i j).delivery.linkUp = s.delivery.linkUp := by
  unfold State.dropFlush; try dsimp only
  repeat' split
  all_goals try simp
  all_goals try (refine (foldl_linkUp ?_ _ _).trans ?_ <;> (repeat' (first | intro _ | split)) <;> simp)
@[simp] theorem dropFlush_handled (s : State) (i : Fin 8) (j : Fin 2) :
    (s.dropFlush i j).delivery.handled = s.delivery.handled := by
  unfold State.dropFlush; try dsimp only
  repeat' split
  all_goals try simp
  all_goals try (refine (foldl_handled ?_ _ _).trans ?_ <;> (repeat' (first | intro _ | split)) <;> simp)
@[simp] theorem claimDone_taps (s : State) (i : Fin 8) (j : Fin 2) (delivered : Bool) :
    (s.claimDone i j delivered).taps = s.taps := by
  unfold State.claimDone; try dsimp only
  repeat' split
  all_goals try simp
  all_goals try (refine (foldl_taps ?_ _ _).trans ?_ <;> (repeat' (first | intro _ | split)) <;> simp)
@[simp] theorem claimDone_lastRequest (s : State) (i : Fin 8) (j : Fin 2) (delivered : Bool) :
    (s.claimDone i j delivered).lastRequest = s.lastRequest := by
  unfold State.claimDone; try dsimp only
  repeat' split
  all_goals try simp
  all_goals try (refine (foldl_lastRequest ?_ _ _).trans ?_ <;> (repeat' (first | intro _ | split)) <;> simp)
@[simp] theorem claimDone_linkUp (s : State) (i : Fin 8) (j : Fin 2) (delivered : Bool) :
    (s.claimDone i j delivered).delivery.linkUp = s.delivery.linkUp := by
  unfold State.claimDone; try dsimp only
  repeat' split
  all_goals try simp
  all_goals try (refine (foldl_linkUp ?_ _ _).trans ?_ <;> (repeat' (first | intro _ | split)) <;> simp)
@[simp] theorem claimDone_handled (s : State) (i : Fin 8) (j : Fin 2) (delivered : Bool) :
    (s.claimDone i j delivered).delivery.handled = s.delivery.handled := by
  unfold State.claimDone; try dsimp only
  repeat' split
  all_goals try simp
  all_goals try (refine (foldl_handled ?_ _ _).trans ?_ <;> (repeat' (first | intro _ | split)) <;> simp)
@[simp] theorem markVoid_taps (s : State) (i : Fin 8) (j : Fin 2) :
    (s.markVoid i j).taps = s.taps := by
  unfold State.markVoid; try dsimp only
  repeat' split
  all_goals try simp
  all_goals try (refine (foldl_taps ?_ _ _).trans ?_ <;> (repeat' (first | intro _ | split)) <;> simp)
@[simp] theorem markVoid_lastRequest (s : State) (i : Fin 8) (j : Fin 2) :
    (s.markVoid i j).lastRequest = s.lastRequest := by
  unfold State.markVoid; try dsimp only
  repeat' split
  all_goals try simp
  all_goals try (refine (foldl_lastRequest ?_ _ _).trans ?_ <;> (repeat' (first | intro _ | split)) <;> simp)
@[simp] theorem markVoid_linkUp (s : State) (i : Fin 8) (j : Fin 2) :
    (s.markVoid i j).delivery.linkUp = s.delivery.linkUp := by
  unfold State.markVoid; try dsimp only
  repeat' split
  all_goals try simp
  all_goals try (refine (foldl_linkUp ?_ _ _).trans ?_ <;> (repeat' (first | intro _ | split)) <;> simp)
@[simp] theorem markVoid_handled (s : State) (i : Fin 8) (j : Fin 2) :
    (s.markVoid i j).delivery.handled = s.delivery.handled := by
  unfold State.markVoid; try dsimp only
  repeat' split
  all_goals try simp
  all_goals try (refine (foldl_handled ?_ _ _).trans ?_ <;> (repeat' (first | intro _ | split)) <;> simp)
@[simp] theorem voidPart_taps (s : State) (i : Fin 8) (j : Fin 2) :
    (s.voidPart i j).taps = s.taps := by
  unfold State.voidPart; try dsimp only
  repeat' split
  all_goals try simp
  all_goals try (refine (foldl_taps ?_ _ _).trans ?_ <;> (repeat' (first | intro _ | split)) <;> simp)
@[simp] theorem voidPart_lastRequest (s : State) (i : Fin 8) (j : Fin 2) :
    (s.voidPart i j).lastRequest = s.lastRequest := by
  unfold State.voidPart; try dsimp only
  repeat' split
  all_goals try simp
  all_goals try (refine (foldl_lastRequest ?_ _ _).trans ?_ <;> (repeat' (first | intro _ | split)) <;> simp)
@[simp] theorem voidPart_linkUp (s : State) (i : Fin 8) (j : Fin 2) :
    (s.voidPart i j).delivery.linkUp = s.delivery.linkUp := by
  unfold State.voidPart; try dsimp only
  repeat' split
  all_goals try simp
  all_goals try (refine (foldl_linkUp ?_ _ _).trans ?_ <;> (repeat' (first | intro _ | split)) <;> simp)
@[simp] theorem voidPart_handled (s : State) (i : Fin 8) (j : Fin 2) :
    (s.voidPart i j).delivery.handled = s.delivery.handled := by
  unfold State.voidPart; try dsimp only
  repeat' split
  all_goals try simp
  all_goals try (refine (foldl_handled ?_ _ _).trans ?_ <;> (repeat' (first | intro _ | split)) <;> simp)
@[simp] theorem reportPart_taps (s : State) (i : Fin 8) (j : Fin 2) :
    (s.reportPart i j).taps = s.taps := by
  unfold State.reportPart; try dsimp only
  repeat' split
  all_goals try simp
  all_goals try (refine (foldl_taps ?_ _ _).trans ?_ <;> (repeat' (first | intro _ | split)) <;> simp)
@[simp] theorem reportPart_lastRequest (s : State) (i : Fin 8) (j : Fin 2) :
    (s.reportPart i j).lastRequest = s.lastRequest := by
  unfold State.reportPart; try dsimp only
  repeat' split
  all_goals try simp
  all_goals try (refine (foldl_lastRequest ?_ _ _).trans ?_ <;> (repeat' (first | intro _ | split)) <;> simp)
@[simp] theorem reportPart_linkUp (s : State) (i : Fin 8) (j : Fin 2) :
    (s.reportPart i j).delivery.linkUp = s.delivery.linkUp := by
  unfold State.reportPart; try dsimp only
  repeat' split
  all_goals try simp
  all_goals try (refine (foldl_linkUp ?_ _ _).trans ?_ <;> (repeat' (first | intro _ | split)) <;> simp)
@[simp] theorem reportPart_handled (s : State) (i : Fin 8) (j : Fin 2) :
    (s.reportPart i j).delivery.handled = s.delivery.handled := by
  unfold State.reportPart; try dsimp only
  repeat' split
  all_goals try simp
  all_goals try (refine (foldl_handled ?_ _ _).trans ?_ <;> (repeat' (first | intro _ | split)) <;> simp)
@[simp] theorem startLegTimers_taps (s : State) :
    (s.startLegTimers).taps = s.taps := by
  unfold State.startLegTimers; try dsimp only
  repeat' split
  all_goals try simp
  all_goals try (refine (foldl_taps ?_ _ _).trans ?_ <;> (repeat' (first | intro _ | split)) <;> simp)
@[simp] theorem startLegTimers_lastRequest (s : State) :
    (s.startLegTimers).lastRequest = s.lastRequest := by
  unfold State.startLegTimers; try dsimp only
  repeat' split
  all_goals try simp
  all_goals try (refine (foldl_lastRequest ?_ _ _).trans ?_ <;> (repeat' (first | intro _ | split)) <;> simp)
@[simp] theorem startLegTimers_linkUp (s : State) :
    (s.startLegTimers).delivery.linkUp = s.delivery.linkUp := by
  unfold State.startLegTimers; try dsimp only
  repeat' split
  all_goals try simp
  all_goals try (refine (foldl_linkUp ?_ _ _).trans ?_ <;> (repeat' (first | intro _ | split)) <;> simp)
@[simp] theorem startLegTimers_handled (s : State) :
    (s.startLegTimers).delivery.handled = s.delivery.handled := by
  unfold State.startLegTimers; try dsimp only
  repeat' split
  all_goals try simp
  all_goals try (refine (foldl_handled ?_ _ _).trans ?_ <;> (repeat' (first | intro _ | split)) <;> simp)
@[simp] theorem dropTurn_taps (s : State) :
    (s.dropTurn).taps = s.taps := by
  unfold State.dropTurn; try dsimp only
  repeat' split
  all_goals try simp
  all_goals try (refine (foldl_taps ?_ _ _).trans ?_ <;> (repeat' (first | intro _ | split)) <;> simp)
@[simp] theorem dropTurn_lastRequest (s : State) :
    (s.dropTurn).lastRequest = s.lastRequest := by
  unfold State.dropTurn; try dsimp only
  repeat' split
  all_goals try simp
  all_goals try (refine (foldl_lastRequest ?_ _ _).trans ?_ <;> (repeat' (first | intro _ | split)) <;> simp)
@[simp] theorem dropTurn_linkUp (s : State) :
    (s.dropTurn).delivery.linkUp = s.delivery.linkUp := by
  unfold State.dropTurn; try dsimp only
  repeat' split
  all_goals try simp
  all_goals try (refine (foldl_linkUp ?_ _ _).trans ?_ <;> (repeat' (first | intro _ | split)) <;> simp)
@[simp] theorem dropTurn_handled (s : State) :
    (s.dropTurn).delivery.handled = s.delivery.handled := by
  unfold State.dropTurn; try dsimp only
  repeat' split
  all_goals try simp
  all_goals try (refine (foldl_handled ?_ _ _).trans ?_ <;> (repeat' (first | intro _ | split)) <;> simp)
@[simp] theorem beginRecord_taps (s : State) :
    (s.beginRecord).taps = s.taps := by
  unfold State.beginRecord; try dsimp only
  repeat' split
  all_goals try simp
  all_goals try (refine (foldl_taps ?_ _ _).trans ?_ <;> (repeat' (first | intro _ | split)) <;> simp)
@[simp] theorem beginRecord_lastRequest (s : State) :
    (s.beginRecord).lastRequest = s.lastRequest := by
  unfold State.beginRecord; try dsimp only
  repeat' split
  all_goals try simp
  all_goals try (refine (foldl_lastRequest ?_ _ _).trans ?_ <;> (repeat' (first | intro _ | split)) <;> simp)
@[simp] theorem beginRecord_linkUp (s : State) :
    (s.beginRecord).delivery.linkUp = s.delivery.linkUp := by
  unfold State.beginRecord; try dsimp only
  repeat' split
  all_goals try simp
  all_goals try (refine (foldl_linkUp ?_ _ _).trans ?_ <;> (repeat' (first | intro _ | split)) <;> simp)
@[simp] theorem beginRecord_handled (s : State) :
    (s.beginRecord).delivery.handled = s.delivery.handled := by
  unfold State.beginRecord; try dsimp only
  repeat' split
  all_goals try simp
  all_goals try (refine (foldl_handled ?_ _ _).trans ?_ <;> (repeat' (first | intro _ | split)) <;> simp)
@[simp] theorem offerRecord_taps (s : State) (r : FrameRecord) :
    (s.offerRecord r).taps = s.taps := by
  unfold State.offerRecord; try dsimp only
  repeat' split
  all_goals try simp
  all_goals try (refine (foldl_taps ?_ _ _).trans ?_ <;> (repeat' (first | intro _ | split)) <;> simp)
@[simp] theorem offerRecord_lastRequest (s : State) (r : FrameRecord) :
    (s.offerRecord r).lastRequest = s.lastRequest := by
  unfold State.offerRecord; try dsimp only
  repeat' split
  all_goals try simp
  all_goals try (refine (foldl_lastRequest ?_ _ _).trans ?_ <;> (repeat' (first | intro _ | split)) <;> simp)
@[simp] theorem offerRecord_linkUp (s : State) (r : FrameRecord) :
    (s.offerRecord r).delivery.linkUp = s.delivery.linkUp := by
  unfold State.offerRecord; try dsimp only
  repeat' split
  all_goals try simp
  all_goals try (refine (foldl_linkUp ?_ _ _).trans ?_ <;> (repeat' (first | intro _ | split)) <;> simp)
@[simp] theorem offerRecord_handled (s : State) (r : FrameRecord) :
    (s.offerRecord r).delivery.handled = s.delivery.handled := by
  unfold State.offerRecord; try dsimp only
  repeat' split
  all_goals try simp
  all_goals try (refine (foldl_handled ?_ _ _).trans ?_ <;> (repeat' (first | intro _ | split)) <;> simp)
@[simp] theorem retireLeg_taps (s : State) (i : Fin 8) (j : Fin 2) :
    (s.retireLeg i j).taps = s.taps := by
  unfold State.retireLeg; try dsimp only
  repeat' split
  all_goals try simp
  all_goals try (refine (foldl_taps ?_ _ _).trans ?_ <;> (repeat' (first | intro _ | split)) <;> simp)
@[simp] theorem retireLeg_lastRequest (s : State) (i : Fin 8) (j : Fin 2) :
    (s.retireLeg i j).lastRequest = s.lastRequest := by
  unfold State.retireLeg; try dsimp only
  repeat' split
  all_goals try simp
  all_goals try (refine (foldl_lastRequest ?_ _ _).trans ?_ <;> (repeat' (first | intro _ | split)) <;> simp)
@[simp] theorem retireLeg_linkUp (s : State) (i : Fin 8) (j : Fin 2) :
    (s.retireLeg i j).delivery.linkUp = s.delivery.linkUp := by
  unfold State.retireLeg; try dsimp only
  repeat' split
  all_goals try simp
  all_goals try (refine (foldl_linkUp ?_ _ _).trans ?_ <;> (repeat' (first | intro _ | split)) <;> simp)
@[simp] theorem retireLeg_handled (s : State) (i : Fin 8) (j : Fin 2) :
    (s.retireLeg i j).delivery.handled = s.delivery.handled := by
  unfold State.retireLeg; try dsimp only
  repeat' split
  all_goals try simp
  all_goals try (refine (foldl_handled ?_ _ _).trans ?_ <;> (repeat' (first | intro _ | split)) <;> simp)
@[simp] theorem postLeg_taps (s : State) (i : Fin 8) (j : Fin 2) (poster : Option Station) :
    (s.postLeg i j poster).taps = s.taps := by
  unfold State.postLeg; try dsimp only
  repeat' split
  all_goals try simp
  all_goals try (refine (foldl_taps ?_ _ _).trans ?_ <;> (repeat' (first | intro _ | split)) <;> simp)
@[simp] theorem postLeg_lastRequest (s : State) (i : Fin 8) (j : Fin 2) (poster : Option Station) :
    (s.postLeg i j poster).lastRequest = s.lastRequest := by
  unfold State.postLeg; try dsimp only
  repeat' split
  all_goals try simp
  all_goals try (refine (foldl_lastRequest ?_ _ _).trans ?_ <;> (repeat' (first | intro _ | split)) <;> simp)
@[simp] theorem postLeg_linkUp (s : State) (i : Fin 8) (j : Fin 2) (poster : Option Station) :
    (s.postLeg i j poster).delivery.linkUp = s.delivery.linkUp := by
  unfold State.postLeg; try dsimp only
  repeat' split
  all_goals try simp
  all_goals try (refine (foldl_linkUp ?_ _ _).trans ?_ <;> (repeat' (first | intro _ | split)) <;> simp)
@[simp] theorem postLeg_handled (s : State) (i : Fin 8) (j : Fin 2) (poster : Option Station) :
    (s.postLeg i j poster).delivery.handled = s.delivery.handled := by
  unfold State.postLeg; try dsimp only
  repeat' split
  all_goals try simp
  all_goals try (refine (foldl_handled ?_ _ _).trans ?_ <;> (repeat' (first | intro _ | split)) <;> simp)
@[simp] theorem testLeg_taps (s : State) (i : Fin 8) (j : Fin 2) (poster : Option Station) (byRemoval : Bool) :
    (s.testLeg i j poster byRemoval).taps = s.taps := by
  unfold State.testLeg; try dsimp only
  repeat' split
  all_goals try simp
  all_goals try (refine (foldl_taps ?_ _ _).trans ?_ <;> (repeat' (first | intro _ | split)) <;> simp)
@[simp] theorem testLeg_lastRequest (s : State) (i : Fin 8) (j : Fin 2) (poster : Option Station) (byRemoval : Bool) :
    (s.testLeg i j poster byRemoval).lastRequest = s.lastRequest := by
  unfold State.testLeg; try dsimp only
  repeat' split
  all_goals try simp
  all_goals try (refine (foldl_lastRequest ?_ _ _).trans ?_ <;> (repeat' (first | intro _ | split)) <;> simp)
@[simp] theorem testLeg_linkUp (s : State) (i : Fin 8) (j : Fin 2) (poster : Option Station) (byRemoval : Bool) :
    (s.testLeg i j poster byRemoval).delivery.linkUp = s.delivery.linkUp := by
  unfold State.testLeg; try dsimp only
  repeat' split
  all_goals try simp
  all_goals try (refine (foldl_linkUp ?_ _ _).trans ?_ <;> (repeat' (first | intro _ | split)) <;> simp)
@[simp] theorem testLeg_handled (s : State) (i : Fin 8) (j : Fin 2) (poster : Option Station) (byRemoval : Bool) :
    (s.testLeg i j poster byRemoval).delivery.handled = s.delivery.handled := by
  unfold State.testLeg; try dsimp only
  repeat' split
  all_goals try simp
  all_goals try (refine (foldl_handled ?_ _ _).trans ?_ <;> (repeat' (first | intro _ | split)) <;> simp)
@[simp] theorem removeFromLegs_taps (s : State) (p : Station) (poster : Option Station) :
    (s.removeFromLegs p poster).taps = s.taps := by
  unfold State.removeFromLegs; try dsimp only
  repeat' split
  all_goals try simp
  all_goals try (refine (foldl_taps ?_ _ _).trans ?_ <;> (repeat' (first | intro _ | split)) <;> simp)
@[simp] theorem removeFromLegs_lastRequest (s : State) (p : Station) (poster : Option Station) :
    (s.removeFromLegs p poster).lastRequest = s.lastRequest := by
  unfold State.removeFromLegs; try dsimp only
  repeat' split
  all_goals try simp
  all_goals try (refine (foldl_lastRequest ?_ _ _).trans ?_ <;> (repeat' (first | intro _ | split)) <;> simp)
@[simp] theorem removeFromLegs_linkUp (s : State) (p : Station) (poster : Option Station) :
    (s.removeFromLegs p poster).delivery.linkUp = s.delivery.linkUp := by
  unfold State.removeFromLegs; try dsimp only
  repeat' split
  all_goals try simp
  all_goals try (refine (foldl_linkUp ?_ _ _).trans ?_ <;> (repeat' (first | intro _ | split)) <;> simp)
@[simp] theorem removeFromLegs_handled (s : State) (p : Station) (poster : Option Station) :
    (s.removeFromLegs p poster).delivery.handled = s.delivery.handled := by
  unfold State.removeFromLegs; try dsimp only
  repeat' split
  all_goals try simp
  all_goals try (refine (foldl_handled ?_ _ _).trans ?_ <;> (repeat' (first | intro _ | split)) <;> simp)
@[simp] theorem dropHeadRecord_taps (s : State) :
    (s.dropHeadRecord).taps = s.taps := by
  unfold State.dropHeadRecord; try dsimp only
  repeat' split
  all_goals try simp
  all_goals try (refine (foldl_taps ?_ _ _).trans ?_ <;> (repeat' (first | intro _ | split)) <;> simp)
@[simp] theorem dropHeadRecord_lastRequest (s : State) :
    (s.dropHeadRecord).lastRequest = s.lastRequest := by
  unfold State.dropHeadRecord; try dsimp only
  repeat' split
  all_goals try simp
  all_goals try (refine (foldl_lastRequest ?_ _ _).trans ?_ <;> (repeat' (first | intro _ | split)) <;> simp)
@[simp] theorem dropHeadRecord_linkUp (s : State) :
    (s.dropHeadRecord).delivery.linkUp = s.delivery.linkUp := by
  unfold State.dropHeadRecord; try dsimp only
  repeat' split
  all_goals try simp
  all_goals try (refine (foldl_linkUp ?_ _ _).trans ?_ <;> (repeat' (first | intro _ | split)) <;> simp)
@[simp] theorem dropHeadRecord_handled (s : State) :
    (s.dropHeadRecord).delivery.handled = s.delivery.handled := by
  unfold State.dropHeadRecord; try dsimp only
  repeat' split
  all_goals try simp
  all_goals try (refine (foldl_handled ?_ _ _).trans ?_ <;> (repeat' (first | intro _ | split)) <;> simp)
@[simp] theorem emptyRecords_taps (s : State) :
    (s.emptyRecords).taps = s.taps := by
  unfold State.emptyRecords; try dsimp only
  repeat' split
  all_goals try simp
  all_goals try (refine (foldl_taps ?_ _ _).trans ?_ <;> (repeat' (first | intro _ | split)) <;> simp)
@[simp] theorem emptyRecords_lastRequest (s : State) :
    (s.emptyRecords).lastRequest = s.lastRequest := by
  unfold State.emptyRecords; try dsimp only
  repeat' split
  all_goals try simp
  all_goals try (refine (foldl_lastRequest ?_ _ _).trans ?_ <;> (repeat' (first | intro _ | split)) <;> simp)
@[simp] theorem emptyRecords_linkUp (s : State) :
    (s.emptyRecords).delivery.linkUp = s.delivery.linkUp := by
  unfold State.emptyRecords; try dsimp only
  repeat' split
  all_goals try simp
  all_goals try (refine (foldl_linkUp ?_ _ _).trans ?_ <;> (repeat' (first | intro _ | split)) <;> simp)
@[simp] theorem emptyRecords_handled (s : State) :
    (s.emptyRecords).delivery.handled = s.delivery.handled := by
  unfold State.emptyRecords; try dsimp only
  repeat' split
  all_goals try simp
  all_goals try (refine (foldl_handled ?_ _ _).trans ?_ <;> (repeat' (first | intro _ | split)) <;> simp)
@[simp] theorem applyDone_taps (s : State) (sender : Station) (frame : BitVec 16) (stream : Fin 2) (delivered : Bool) (gapRows : BitVec 17) :
    (s.applyDone sender frame stream delivered gapRows).taps = s.taps := by
  unfold State.applyDone; try dsimp only
  repeat' split
  all_goals try simp
  all_goals try (refine (foldl_taps ?_ _ _).trans ?_ <;> (repeat' (first | intro _ | split)) <;> simp)
@[simp] theorem applyDone_lastRequest (s : State) (sender : Station) (frame : BitVec 16) (stream : Fin 2) (delivered : Bool) (gapRows : BitVec 17) :
    (s.applyDone sender frame stream delivered gapRows).lastRequest = s.lastRequest := by
  unfold State.applyDone; try dsimp only
  repeat' split
  all_goals try simp
  all_goals try (refine (foldl_lastRequest ?_ _ _).trans ?_ <;> (repeat' (first | intro _ | split)) <;> simp)
@[simp] theorem applyDone_linkUp (s : State) (sender : Station) (frame : BitVec 16) (stream : Fin 2) (delivered : Bool) (gapRows : BitVec 17) :
    (s.applyDone sender frame stream delivered gapRows).delivery.linkUp = s.delivery.linkUp := by
  unfold State.applyDone; try dsimp only
  repeat' split
  all_goals try simp
  all_goals try (refine (foldl_linkUp ?_ _ _).trans ?_ <;> (repeat' (first | intro _ | split)) <;> simp)
@[simp] theorem applyDone_handled (s : State) (sender : Station) (frame : BitVec 16) (stream : Fin 2) (delivered : Bool) (gapRows : BitVec 17) :
    (s.applyDone sender frame stream delivered gapRows).delivery.handled = s.delivery.handled := by
  unfold State.applyDone; try dsimp only
  repeat' split
  all_goals try simp
  all_goals try (refine (foldl_handled ?_ _ _).trans ?_ <;> (repeat' (first | intro _ | split)) <;> simp)
@[simp] theorem setLines_linkUp (s : State) (t : Tap) (lines : List Line) :
    (s.setLines t lines).delivery.linkUp = s.delivery.linkUp := by
  unfold State.setLines; try dsimp only
  repeat' split
  all_goals try simp
  all_goals try (refine (foldl_linkUp ?_ _ _).trans ?_ <;> (repeat' (first | intro _ | split)) <;> simp)
@[simp] theorem setLines_handled (s : State) (t : Tap) (lines : List Line) :
    (s.setLines t lines).delivery.handled = s.delivery.handled := by
  unfold State.setLines; try dsimp only
  repeat' split
  all_goals try simp
  all_goals try (refine (foldl_handled ?_ _ _).trans ?_ <;> (repeat' (first | intro _ | split)) <;> simp)
@[simp] theorem setWaiting_linkUp (s : State) (t : Tap) (b : Bool) :
    (s.setWaiting t b).delivery.linkUp = s.delivery.linkUp := by
  unfold State.setWaiting; try dsimp only
  repeat' split
  all_goals try simp
  all_goals try (refine (foldl_linkUp ?_ _ _).trans ?_ <;> (repeat' (first | intro _ | split)) <;> simp)
@[simp] theorem setWaiting_handled (s : State) (t : Tap) (b : Bool) :
    (s.setWaiting t b).delivery.handled = s.delivery.handled := by
  unfold State.setWaiting; try dsimp only
  repeat' split
  all_goals try simp
  all_goals try (refine (foldl_handled ?_ _ _).trans ?_ <;> (repeat' (first | intro _ | split)) <;> simp)
@[simp] theorem judgeWait_taps (s : State) (t : Tap) :
    (s.judgeWait t).taps = s.taps := by
  unfold State.judgeWait; try dsimp only
  repeat' split
  all_goals try simp
  all_goals try (refine (foldl_taps ?_ _ _).trans ?_ <;> (repeat' (first | intro _ | split)) <;> simp)
@[simp] theorem judgeWait_lastRequest (s : State) (t : Tap) :
    (s.judgeWait t).lastRequest = s.lastRequest := by
  unfold State.judgeWait; try dsimp only
  repeat' split
  all_goals try simp
  all_goals try (refine (foldl_lastRequest ?_ _ _).trans ?_ <;> (repeat' (first | intro _ | split)) <;> simp)
@[simp] theorem discardHeads_lastRequest (t : Tap) (l : List Line) (s : State) :
    (State.discardHeads t l s).lastRequest = s.lastRequest := by
  induction l generalizing s with
  | nil => rfl
  | cons a l ih => unfold State.discardHeads; split <;> simp [ih]

@[simp] theorem judgeWait_linkUp (s : State) (t : Tap) :
    (s.judgeWait t).delivery.linkUp = s.delivery.linkUp := by
  unfold State.judgeWait; try dsimp only
  repeat' split
  all_goals try simp
  all_goals try (refine (foldl_linkUp ?_ _ _).trans ?_ <;> (repeat' (first | intro _ | split)) <;> simp)
@[simp] theorem discardHeads_linkUp (t : Tap) (l : List Line) (s : State) :
    (State.discardHeads t l s).delivery.linkUp = s.delivery.linkUp := by
  induction l generalizing s with
  | nil => rfl
  | cons a l ih => unfold State.discardHeads; split <;> simp [ih]

@[simp] theorem judgeWait_handled (s : State) (t : Tap) :
    (s.judgeWait t).delivery.handled = s.delivery.handled := by
  unfold State.judgeWait; try dsimp only
  repeat' split
  all_goals try simp
  all_goals try (refine (foldl_handled ?_ _ _).trans ?_ <;> (repeat' (first | intro _ | split)) <;> simp)
@[simp] theorem discardHeads_handled (t : Tap) (l : List Line) (s : State) :
    (State.discardHeads t l s).delivery.handled = s.delivery.handled := by
  induction l generalizing s with
  | nil => rfl
  | cons a l ih => unfold State.discardHeads; split <;> simp [ih]

@[simp] theorem tapDone_taps (s : State) (t : Tap) (k : Nat) :
    (s.tapDone t k).taps = s.taps := by
  unfold State.tapDone; try dsimp only
  repeat' split
  all_goals try simp
  all_goals try (refine (foldl_taps ?_ _ _).trans ?_ <;> (repeat' (first | intro _ | split)) <;> simp)
@[simp] theorem tapDone_lastRequest (s : State) (t : Tap) (k : Nat) :
    (s.tapDone t k).lastRequest = s.lastRequest := by
  unfold State.tapDone; try dsimp only
  repeat' split
  all_goals try simp
  all_goals try (refine (foldl_lastRequest ?_ _ _).trans ?_ <;> (repeat' (first | intro _ | split)) <;> simp)
@[simp] theorem tapDone_linkUp (s : State) (t : Tap) (k : Nat) :
    (s.tapDone t k).delivery.linkUp = s.delivery.linkUp := by
  unfold State.tapDone; try dsimp only
  repeat' split
  all_goals try simp
  all_goals try (refine (foldl_linkUp ?_ _ _).trans ?_ <;> (repeat' (first | intro _ | split)) <;> simp)
@[simp] theorem tapDone_handled (s : State) (t : Tap) (k : Nat) :
    (s.tapDone t k).delivery.handled = s.delivery.handled := by
  unfold State.tapDone; try dsimp only
  repeat' split
  all_goals try simp
  all_goals try (refine (foldl_handled ?_ _ _).trans ?_ <;> (repeat' (first | intro _ | split)) <;> simp)
@[simp] theorem finishMarked_taps (s : State) (t : Tap) :
    (s.finishMarked t).taps = s.taps := by
  unfold State.finishMarked; try dsimp only
  repeat' split
  all_goals try simp
  all_goals try (refine (foldl_taps ?_ _ _).trans ?_ <;> (repeat' (first | intro _ | split)) <;> simp)
@[simp] theorem finishMarked_lastRequest (s : State) (t : Tap) :
    (s.finishMarked t).lastRequest = s.lastRequest := by
  unfold State.finishMarked; try dsimp only
  repeat' split
  all_goals try simp
  all_goals try (refine (foldl_lastRequest ?_ _ _).trans ?_ <;> (repeat' (first | intro _ | split)) <;> simp)
@[simp] theorem finishMarked_linkUp (s : State) (t : Tap) :
    (s.finishMarked t).delivery.linkUp = s.delivery.linkUp := by
  unfold State.finishMarked; try dsimp only
  repeat' split
  all_goals try simp
  all_goals try (refine (foldl_linkUp ?_ _ _).trans ?_ <;> (repeat' (first | intro _ | split)) <;> simp)
@[simp] theorem finishMarked_handled (s : State) (t : Tap) :
    (s.finishMarked t).delivery.handled = s.delivery.handled := by
  unfold State.finishMarked; try dsimp only
  repeat' split
  all_goals try simp
  all_goals try (refine (foldl_handled ?_ _ _).trans ?_ <;> (repeat' (first | intro _ | split)) <;> simp)
@[simp] theorem startFlushes_taps (s : State) :
    (s.startFlushes).taps = s.taps := by
  unfold State.startFlushes; try dsimp only
  repeat' split
  all_goals try simp
  all_goals try (refine (foldl_taps ?_ _ _).trans ?_ <;> (repeat' (first | intro _ | split)) <;> simp)
@[simp] theorem startFlushes_lastRequest (s : State) :
    (s.startFlushes).lastRequest = s.lastRequest := by
  unfold State.startFlushes; try dsimp only
  repeat' split
  all_goals try simp
  all_goals try (refine (foldl_lastRequest ?_ _ _).trans ?_ <;> (repeat' (first | intro _ | split)) <;> simp)
@[simp] theorem startFlushes_linkUp (s : State) :
    (s.startFlushes).delivery.linkUp = s.delivery.linkUp := by
  unfold State.startFlushes; try dsimp only
  repeat' split
  all_goals try simp
  all_goals try (refine (foldl_linkUp ?_ _ _).trans ?_ <;> (repeat' (first | intro _ | split)) <;> simp)
@[simp] theorem startFlushes_handled (s : State) :
    (s.startFlushes).delivery.handled = s.delivery.handled := by
  unfold State.startFlushes; try dsimp only
  repeat' split
  all_goals try simp
  all_goals try (refine (foldl_handled ?_ _ _).trans ?_ <;> (repeat' (first | intro _ | split)) <;> simp)
@[simp] theorem endCheck_taps (s : State) (t : Tap) :
    (s.endCheck t).taps = s.taps := by
  unfold State.endCheck; try dsimp only
  repeat' split
  all_goals try simp
  all_goals try (refine (foldl_taps ?_ _ _).trans ?_ <;> (repeat' (first | intro _ | split)) <;> simp)
@[simp] theorem endCheck_lastRequest (s : State) (t : Tap) :
    (s.endCheck t).lastRequest = s.lastRequest := by
  unfold State.endCheck; try dsimp only
  repeat' split
  all_goals try simp
  all_goals try (refine (foldl_lastRequest ?_ _ _).trans ?_ <;> (repeat' (first | intro _ | split)) <;> simp)
@[simp] theorem endCheck_linkUp (s : State) (t : Tap) :
    (s.endCheck t).delivery.linkUp = s.delivery.linkUp := by
  unfold State.endCheck; try dsimp only
  repeat' split
  all_goals try simp
  all_goals try (refine (foldl_linkUp ?_ _ _).trans ?_ <;> (repeat' (first | intro _ | split)) <;> simp)
@[simp] theorem endCheck_handled (s : State) (t : Tap) :
    (s.endCheck t).delivery.handled = s.delivery.handled := by
  unfold State.endCheck; try dsimp only
  repeat' split
  all_goals try simp
  all_goals try (refine (foldl_handled ?_ _ _).trans ?_ <;> (repeat' (first | intro _ | split)) <;> simp)
@[simp] theorem endChecks_taps (s : State) :
    (s.endChecks).taps = s.taps := by
  unfold State.endChecks; try dsimp only
  repeat' split
  all_goals try simp
  all_goals try (refine (foldl_taps ?_ _ _).trans ?_ <;> (repeat' (first | intro _ | split)) <;> simp)
@[simp] theorem endChecks_lastRequest (s : State) :
    (s.endChecks).lastRequest = s.lastRequest := by
  unfold State.endChecks; try dsimp only
  repeat' split
  all_goals try simp
  all_goals try (refine (foldl_lastRequest ?_ _ _).trans ?_ <;> (repeat' (first | intro _ | split)) <;> simp)
@[simp] theorem endChecks_linkUp (s : State) :
    (s.endChecks).delivery.linkUp = s.delivery.linkUp := by
  unfold State.endChecks; try dsimp only
  repeat' split
  all_goals try simp
  all_goals try (refine (foldl_linkUp ?_ _ _).trans ?_ <;> (repeat' (first | intro _ | split)) <;> simp)
@[simp] theorem endChecks_handled (s : State) :
    (s.endChecks).delivery.handled = s.delivery.handled := by
  unfold State.endChecks; try dsimp only
  repeat' split
  all_goals try simp
  all_goals try (refine (foldl_handled ?_ _ _).trans ?_ <;> (repeat' (first | intro _ | split)) <;> simp)
@[simp] theorem settleTap_lastRequest (s : State) (t : Tap) :
    (s.settleTap t).lastRequest = s.lastRequest := by
  unfold State.settleTap; try dsimp only
  repeat' split
  all_goals try simp
  all_goals try (refine (foldl_lastRequest ?_ _ _).trans ?_ <;> (repeat' (first | intro _ | split)) <;> simp)
@[simp] theorem settleTap_linkUp (s : State) (t : Tap) :
    (s.settleTap t).delivery.linkUp = s.delivery.linkUp := by
  unfold State.settleTap; try dsimp only
  repeat' split
  all_goals try simp
  all_goals try (refine (foldl_linkUp ?_ _ _).trans ?_ <;> (repeat' (first | intro _ | split)) <;> simp)
@[simp] theorem settleTap_handled (s : State) (t : Tap) :
    (s.settleTap t).delivery.handled = s.delivery.handled := by
  unfold State.settleTap; try dsimp only
  repeat' split
  all_goals try simp
  all_goals try (refine (foldl_handled ?_ _ _).trans ?_ <;> (repeat' (first | intro _ | split)) <;> simp)
@[simp] theorem settle_lastRequest (s : State) :
    (s.settle).lastRequest = s.lastRequest := by
  unfold State.settle; try dsimp only
  repeat' split
  all_goals try simp
  all_goals try (refine (foldl_lastRequest ?_ _ _).trans ?_ <;> (repeat' (first | intro _ | split)) <;> simp)
@[simp] theorem settle_linkUp (s : State) :
    (s.settle).delivery.linkUp = s.delivery.linkUp := by
  unfold State.settle; try dsimp only
  repeat' split
  all_goals try simp
  all_goals try (refine (foldl_linkUp ?_ _ _).trans ?_ <;> (repeat' (first | intro _ | split)) <;> simp)
@[simp] theorem settle_handled (s : State) :
    (s.settle).delivery.handled = s.delivery.handled := by
  unfold State.settle; try dsimp only
  repeat' split
  all_goals try simp
  all_goals try (refine (foldl_handled ?_ _ _).trans ?_ <;> (repeat' (first | intro _ | split)) <;> simp)
@[simp] theorem setTurn_linkUp (s : State) (tu : Option Turn) :
    (s.setTurn tu).delivery.linkUp = s.delivery.linkUp := by
  unfold State.setTurn; try dsimp only
  repeat' split
  all_goals try simp
  all_goals try (refine (foldl_linkUp ?_ _ _).trans ?_ <;> (repeat' (first | intro _ | split)) <;> simp)
@[simp] theorem setTurn_handled (s : State) (tu : Option Turn) :
    (s.setTurn tu).delivery.handled = s.delivery.handled := by
  unfold State.setTurn; try dsimp only
  repeat' split
  all_goals try simp
  all_goals try (refine (foldl_handled ?_ _ _).trans ?_ <;> (repeat' (first | intro _ | split)) <;> simp)
@[simp] theorem setHandled_linkUp (s : State) (t : Tap) (n : Nat) :
    (s.setHandled t n).delivery.linkUp = s.delivery.linkUp := by
  unfold State.setHandled; try dsimp only
  repeat' split
  all_goals try simp
  all_goals try (refine (foldl_linkUp ?_ _ _).trans ?_ <;> (repeat' (first | intro _ | split)) <;> simp)
@[simp] theorem rowFilled_taps (s : State) (t : Tap) (r : Nat) :
    (s.rowFilled t r).taps = s.taps := by
  unfold State.rowFilled; try dsimp only
  repeat' split
  all_goals try simp
  all_goals try (refine (foldl_taps ?_ _ _).trans ?_ <;> (repeat' (first | intro _ | split)) <;> simp)
@[simp] theorem rowFilled_lastRequest (s : State) (t : Tap) (r : Nat) :
    (s.rowFilled t r).lastRequest = s.lastRequest := by
  unfold State.rowFilled; try dsimp only
  repeat' split
  all_goals try simp
  all_goals try (refine (foldl_lastRequest ?_ _ _).trans ?_ <;> (repeat' (first | intro _ | split)) <;> simp)
@[simp] theorem rowFilled_linkUp (s : State) (t : Tap) (r : Nat) :
    (s.rowFilled t r).delivery.linkUp = s.delivery.linkUp := by
  unfold State.rowFilled; try dsimp only
  repeat' split
  all_goals try simp
  all_goals try (refine (foldl_linkUp ?_ _ _).trans ?_ <;> (repeat' (first | intro _ | split)) <;> simp)
@[simp] theorem startTurn_lastRequest (s : State) (t : Tap) :
    (s.startTurn t).lastRequest = s.lastRequest := by
  unfold State.startTurn; try dsimp only
  repeat' split
  all_goals try simp
  all_goals try (refine (foldl_lastRequest ?_ _ _).trans ?_ <;> (repeat' (first | intro _ | split)) <;> simp)
@[simp] theorem startTurn_linkUp (s : State) (t : Tap) :
    (s.startTurn t).delivery.linkUp = s.delivery.linkUp := by
  unfold State.startTurn; try dsimp only
  repeat' split
  all_goals try simp
  all_goals try (refine (foldl_linkUp ?_ _ _).trans ?_ <;> (repeat' (first | intro _ | split)) <;> simp)
@[simp] theorem endTurn_taps (s : State) (tu : Turn) :
    (s.endTurn tu).taps = s.taps := by
  unfold State.endTurn; try dsimp only
  repeat' split
  all_goals try simp
  all_goals try (refine (foldl_taps ?_ _ _).trans ?_ <;> (repeat' (first | intro _ | split)) <;> simp)
@[simp] theorem endTurn_lastRequest (s : State) (tu : Turn) :
    (s.endTurn tu).lastRequest = s.lastRequest := by
  unfold State.endTurn; try dsimp only
  repeat' split
  all_goals try simp
  all_goals try (refine (foldl_lastRequest ?_ _ _).trans ?_ <;> (repeat' (first | intro _ | split)) <;> simp)
@[simp] theorem endTurn_linkUp (s : State) (tu : Turn) :
    (s.endTurn tu).delivery.linkUp = s.delivery.linkUp := by
  unfold State.endTurn; try dsimp only
  repeat' split
  all_goals try simp
  all_goals try (refine (foldl_linkUp ?_ _ _).trans ?_ <;> (repeat' (first | intro _ | split)) <;> simp)
@[simp] theorem storeRow_taps (s : State) (t : Tap) (l : Line) :
    (s.storeRow t l).taps = s.taps := by
  unfold State.storeRow; try dsimp only
  repeat' split
  all_goals try simp
  all_goals try (refine (foldl_taps ?_ _ _).trans ?_ <;> (repeat' (first | intro _ | split)) <;> simp)
@[simp] theorem storeRow_lastRequest (s : State) (t : Tap) (l : Line) :
    (s.storeRow t l).lastRequest = s.lastRequest := by
  unfold State.storeRow; try dsimp only
  repeat' split
  all_goals try simp
  all_goals try (refine (foldl_lastRequest ?_ _ _).trans ?_ <;> (repeat' (first | intro _ | split)) <;> simp)
@[simp] theorem storeRow_linkUp (s : State) (t : Tap) (l : Line) :
    (s.storeRow t l).delivery.linkUp = s.delivery.linkUp := by
  unfold State.storeRow; try dsimp only
  repeat' split
  all_goals try simp
  all_goals try (refine (foldl_linkUp ?_ _ _).trans ?_ <;> (repeat' (first | intro _ | split)) <;> simp)
@[simp] theorem storeRow_handled (s : State) (t : Tap) (l : Line) :
    (s.storeRow t l).delivery.handled = s.delivery.handled := by
  unfold State.storeRow; try dsimp only
  repeat' split
  all_goals try simp
  all_goals try (refine (foldl_handled ?_ _ _).trans ?_ <;> (repeat' (first | intro _ | split)) <;> simp)
@[simp] theorem lineWritten_taps (s : State) (t : Tap) (l : Line) (i : Fin 8) (j : Fin 2) :
    (s.lineWritten t l i j).taps = s.taps := by
  unfold State.lineWritten; try dsimp only
  repeat' split
  all_goals try simp
  all_goals try (refine (foldl_taps ?_ _ _).trans ?_ <;> (repeat' (first | intro _ | split)) <;> simp)
@[simp] theorem lineWritten_lastRequest (s : State) (t : Tap) (l : Line) (i : Fin 8) (j : Fin 2) :
    (s.lineWritten t l i j).lastRequest = s.lastRequest := by
  unfold State.lineWritten; try dsimp only
  repeat' split
  all_goals try simp
  all_goals try (refine (foldl_lastRequest ?_ _ _).trans ?_ <;> (repeat' (first | intro _ | split)) <;> simp)
@[simp] theorem lineWritten_linkUp (s : State) (t : Tap) (l : Line) (i : Fin 8) (j : Fin 2) :
    (s.lineWritten t l i j).delivery.linkUp = s.delivery.linkUp := by
  unfold State.lineWritten; try dsimp only
  repeat' split
  all_goals try simp
  all_goals try (refine (foldl_linkUp ?_ _ _).trans ?_ <;> (repeat' (first | intro _ | split)) <;> simp)
@[simp] theorem issueFlush_linkUp (s : State) :
    (s.issueFlush).delivery.linkUp = s.delivery.linkUp := by
  unfold State.issueFlush; try dsimp only
  repeat' split
  all_goals try simp
  all_goals try (refine (foldl_linkUp ?_ _ _).trans ?_ <;> (repeat' (first | intro _ | split)) <;> simp)
@[simp] theorem issueFlush_handled (s : State) :
    (s.issueFlush).delivery.handled = s.delivery.handled := by
  unfold State.issueFlush; try dsimp only
  repeat' split
  all_goals try simp
  all_goals try (refine (foldl_handled ?_ _ _).trans ?_ <;> (repeat' (first | intro _ | split)) <;> simp)
@[simp] theorem issueMessage_linkUp (s : State) (address : Nat) (data : Word) :
    (s.issueMessage address data).delivery.linkUp = s.delivery.linkUp := by
  unfold State.issueMessage; try dsimp only
  repeat' split
  all_goals try simp
  all_goals try (refine (foldl_linkUp ?_ _ _).trans ?_ <;> (repeat' (first | intro _ | split)) <;> simp)
@[simp] theorem issueMessage_handled (s : State) (address : Nat) (data : Word) :
    (s.issueMessage address data).delivery.handled = s.delivery.handled := by
  unfold State.issueMessage; try dsimp only
  repeat' split
  all_goals try simp
  all_goals try (refine (foldl_handled ?_ _ _).trans ?_ <;> (repeat' (first | intro _ | split)) <;> simp)
@[simp] theorem issueRecordClass_taps (s : State) (r : PortRequest) :
    (s.issueRecordClass r).taps = s.taps := by
  unfold State.issueRecordClass; try dsimp only
  repeat' split
  all_goals try simp
  all_goals try (refine (foldl_taps ?_ _ _).trans ?_ <;> (repeat' (first | intro _ | split)) <;> simp)
@[simp] theorem issueRecordClass_linkUp (s : State) (r : PortRequest) :
    (s.issueRecordClass r).delivery.linkUp = s.delivery.linkUp := by
  unfold State.issueRecordClass; try dsimp only
  repeat' split
  all_goals try simp
  all_goals try (refine (foldl_linkUp ?_ _ _).trans ?_ <;> (repeat' (first | intro _ | split)) <;> simp)
@[simp] theorem issueRecordClass_handled (s : State) (r : PortRequest) :
    (s.issueRecordClass r).delivery.handled = s.delivery.handled := by
  unfold State.issueRecordClass; try dsimp only
  repeat' split
  all_goals try simp
  all_goals try (refine (foldl_handled ?_ _ _).trans ?_ <;> (repeat' (first | intro _ | split)) <;> simp)
@[simp] theorem cutTurn_taps (s : State) (i : Fin 8) (j : Fin 2) :
    (s.cutTurn i j).taps = s.taps := by
  unfold State.cutTurn; try dsimp only
  repeat' split
  all_goals try simp
  all_goals try (refine (foldl_taps ?_ _ _).trans ?_ <;> (repeat' (first | intro _ | split)) <;> simp)
@[simp] theorem cutTurn_lastRequest (s : State) (i : Fin 8) (j : Fin 2) :
    (s.cutTurn i j).lastRequest = s.lastRequest := by
  unfold State.cutTurn; try dsimp only
  repeat' split
  all_goals try simp
  all_goals try (refine (foldl_lastRequest ?_ _ _).trans ?_ <;> (repeat' (first | intro _ | split)) <;> simp)
@[simp] theorem cutTurn_linkUp (s : State) (i : Fin 8) (j : Fin 2) :
    (s.cutTurn i j).delivery.linkUp = s.delivery.linkUp := by
  unfold State.cutTurn; try dsimp only
  repeat' split
  all_goals try simp
  all_goals try (refine (foldl_linkUp ?_ _ _).trans ?_ <;> (repeat' (first | intro _ | split)) <;> simp)
@[simp] theorem cutTurn_handled (s : State) (i : Fin 8) (j : Fin 2) :
    (s.cutTurn i j).delivery.handled = s.delivery.handled := by
  unfold State.cutTurn; try dsimp only
  repeat' split
  all_goals try simp
  all_goals try (refine (foldl_handled ?_ _ _).trans ?_ <;> (repeat' (first | intro _ | split)) <;> simp)
@[simp] theorem voidParts_taps (s : State) :
    (s.voidParts).taps = s.taps := by
  unfold State.voidParts; try dsimp only
  repeat' split
  all_goals try simp
  all_goals try (refine (foldl_taps ?_ _ _).trans ?_ <;> (repeat' (first | intro _ | split)) <;> simp)
@[simp] theorem voidParts_lastRequest (s : State) :
    (s.voidParts).lastRequest = s.lastRequest := by
  unfold State.voidParts; try dsimp only
  repeat' split
  all_goals try simp
  all_goals try (refine (foldl_lastRequest ?_ _ _).trans ?_ <;> (repeat' (first | intro _ | split)) <;> simp)
@[simp] theorem voidParts_linkUp (s : State) :
    (s.voidParts).delivery.linkUp = s.delivery.linkUp := by
  unfold State.voidParts; try dsimp only
  repeat' split
  all_goals try simp
  all_goals try (refine (foldl_linkUp ?_ _ _).trans ?_ <;> (repeat' (first | intro _ | split)) <;> simp)
@[simp] theorem voidParts_handled (s : State) :
    (s.voidParts).delivery.handled = s.delivery.handled := by
  unfold State.voidParts; try dsimp only
  repeat' split
  all_goals try simp
  all_goals try (refine (foldl_handled ?_ _ _).trans ?_ <;> (repeat' (first | intro _ | split)) <;> simp)
@[simp] theorem setOutputState_linkUp (s : State) (j : Fin 4) (o : Output) :
    (s.setOutputState j o).delivery.linkUp = s.delivery.linkUp := by
  unfold State.setOutputState; try dsimp only
  repeat' split
  all_goals try simp
  all_goals try (refine (foldl_linkUp ?_ _ _).trans ?_ <;> (repeat' (first | intro _ | split)) <;> simp)
@[simp] theorem setOutputState_handled (s : State) (j : Fin 4) (o : Output) :
    (s.setOutputState j o).delivery.handled = s.delivery.handled := by
  unfold State.setOutputState; try dsimp only
  repeat' split
  all_goals try simp
  all_goals try (refine (foldl_handled ?_ _ _).trans ?_ <;> (repeat' (first | intro _ | split)) <;> simp)
@[simp] theorem advanceOutputs_linkUp (s : State) :
    (s.advanceOutputs).delivery.linkUp = s.delivery.linkUp := by
  unfold State.advanceOutputs; try dsimp only
  repeat' split
  all_goals try simp
  all_goals try (refine (foldl_linkUp ?_ _ _).trans ?_ <;> (repeat' (first | intro _ | split)) <;> simp)
@[simp] theorem advanceOutputs_handled (s : State) :
    (s.advanceOutputs).delivery.handled = s.delivery.handled := by
  unfold State.advanceOutputs; try dsimp only
  repeat' split
  all_goals try simp
  all_goals try (refine (foldl_handled ?_ _ _).trans ?_ <;> (repeat' (first | intro _ | split)) <;> simp)
@[simp] theorem takePulse_taps (s : State) (j : Fin 4) (x : Nat) :
    (s.takePulse j x).taps = s.taps := by
  unfold State.takePulse; try dsimp only
  repeat' split
  all_goals try simp
  all_goals try (refine (foldl_taps ?_ _ _).trans ?_ <;> (repeat' (first | intro _ | split)) <;> simp)
@[simp] theorem takePulse_lastRequest (s : State) (j : Fin 4) (x : Nat) :
    (s.takePulse j x).lastRequest = s.lastRequest := by
  unfold State.takePulse; try dsimp only
  repeat' split
  all_goals try simp
  all_goals try (refine (foldl_lastRequest ?_ _ _).trans ?_ <;> (repeat' (first | intro _ | split)) <;> simp)
@[simp] theorem takePulse_linkUp (s : State) (j : Fin 4) (x : Nat) :
    (s.takePulse j x).delivery.linkUp = s.delivery.linkUp := by
  unfold State.takePulse; try dsimp only
  repeat' split
  all_goals try simp
  all_goals try (refine (foldl_linkUp ?_ _ _).trans ?_ <;> (repeat' (first | intro _ | split)) <;> simp)
@[simp] theorem takePulse_handled (s : State) (j : Fin 4) (x : Nat) :
    (s.takePulse j x).delivery.handled = s.delivery.handled := by
  unfold State.takePulse; try dsimp only
  repeat' split
  all_goals try simp
  all_goals try (refine (foldl_handled ?_ _ _).trans ?_ <;> (repeat' (first | intro _ | split)) <;> simp)
@[simp] theorem takeFollow_taps (s : State) (j : Fin 4) (x : Nat) (v : Bool) :
    (s.takeFollow j x v).taps = s.taps := by
  unfold State.takeFollow; try dsimp only
  repeat' split
  all_goals try simp
  all_goals try (refine (foldl_taps ?_ _ _).trans ?_ <;> (repeat' (first | intro _ | split)) <;> simp)
@[simp] theorem takeFollow_lastRequest (s : State) (j : Fin 4) (x : Nat) (v : Bool) :
    (s.takeFollow j x v).lastRequest = s.lastRequest := by
  unfold State.takeFollow; try dsimp only
  repeat' split
  all_goals try simp
  all_goals try (refine (foldl_lastRequest ?_ _ _).trans ?_ <;> (repeat' (first | intro _ | split)) <;> simp)
@[simp] theorem takeFollow_linkUp (s : State) (j : Fin 4) (x : Nat) (v : Bool) :
    (s.takeFollow j x v).delivery.linkUp = s.delivery.linkUp := by
  unfold State.takeFollow; try dsimp only
  repeat' split
  all_goals try simp
  all_goals try (refine (foldl_linkUp ?_ _ _).trans ?_ <;> (repeat' (first | intro _ | split)) <;> simp)
@[simp] theorem takeFollow_handled (s : State) (j : Fin 4) (x : Nat) (v : Bool) :
    (s.takeFollow j x v).delivery.handled = s.delivery.handled := by
  unfold State.takeFollow; try dsimp only
  repeat' split
  all_goals try simp
  all_goals try (refine (foldl_handled ?_ _ _).trans ?_ <;> (repeat' (first | intro _ | split)) <;> simp)
@[simp] theorem takeSignal_taps (s : State) (j : Fin 4) (id : BitVec 4) (level : Bool) (x : Nat) :
    (s.takeSignal j id level x).taps = s.taps := by
  unfold State.takeSignal; try dsimp only
  repeat' split
  all_goals try simp
  all_goals try (refine (foldl_taps ?_ _ _).trans ?_ <;> (repeat' (first | intro _ | split)) <;> simp)
@[simp] theorem takeSignal_lastRequest (s : State) (j : Fin 4) (id : BitVec 4) (level : Bool) (x : Nat) :
    (s.takeSignal j id level x).lastRequest = s.lastRequest := by
  unfold State.takeSignal; try dsimp only
  repeat' split
  all_goals try simp
  all_goals try (refine (foldl_lastRequest ?_ _ _).trans ?_ <;> (repeat' (first | intro _ | split)) <;> simp)
@[simp] theorem takeSignal_linkUp (s : State) (j : Fin 4) (id : BitVec 4) (level : Bool) (x : Nat) :
    (s.takeSignal j id level x).delivery.linkUp = s.delivery.linkUp := by
  unfold State.takeSignal; try dsimp only
  repeat' split
  all_goals try simp
  all_goals try (refine (foldl_linkUp ?_ _ _).trans ?_ <;> (repeat' (first | intro _ | split)) <;> simp)
@[simp] theorem takeSignal_handled (s : State) (j : Fin 4) (id : BitVec 4) (level : Bool) (x : Nat) :
    (s.takeSignal j id level x).delivery.handled = s.delivery.handled := by
  unfold State.takeSignal; try dsimp only
  repeat' split
  all_goals try simp
  all_goals try (refine (foldl_handled ?_ _ _).trans ?_ <;> (repeat' (first | intro _ | split)) <;> simp)
@[simp] theorem setFlag_taps (s : State) (i : Nat) (x : Nat) :
    (s.setFlag i x).taps = s.taps := by
  unfold State.setFlag; try dsimp only
  repeat' split
  all_goals try simp
  all_goals try (refine (foldl_taps ?_ _ _).trans ?_ <;> (repeat' (first | intro _ | split)) <;> simp)
@[simp] theorem setFlag_lastRequest (s : State) (i : Nat) (x : Nat) :
    (s.setFlag i x).lastRequest = s.lastRequest := by
  unfold State.setFlag; try dsimp only
  repeat' split
  all_goals try simp
  all_goals try (refine (foldl_lastRequest ?_ _ _).trans ?_ <;> (repeat' (first | intro _ | split)) <;> simp)
@[simp] theorem setFlag_linkUp (s : State) (i : Nat) (x : Nat) :
    (s.setFlag i x).delivery.linkUp = s.delivery.linkUp := by
  unfold State.setFlag; try dsimp only
  repeat' split
  all_goals try simp
  all_goals try (refine (foldl_linkUp ?_ _ _).trans ?_ <;> (repeat' (first | intro _ | split)) <;> simp)
@[simp] theorem setFlag_handled (s : State) (i : Nat) (x : Nat) :
    (s.setFlag i x).delivery.handled = s.delivery.handled := by
  unfold State.setFlag; try dsimp only
  repeat' split
  all_goals try simp
  all_goals try (refine (foldl_handled ?_ _ _).trans ?_ <;> (repeat' (first | intro _ | split)) <;> simp)
@[simp] theorem applySignal_taps (s : State) (id : BitVec 4) (level : Bool) (line : Word) :
    (s.applySignal id level line).taps = s.taps := by
  unfold State.applySignal; try dsimp only
  repeat' split
  all_goals try simp
  all_goals try (refine (foldl_taps ?_ _ _).trans ?_ <;> (repeat' (first | intro _ | split)) <;> simp)
@[simp] theorem applySignal_lastRequest (s : State) (id : BitVec 4) (level : Bool) (line : Word) :
    (s.applySignal id level line).lastRequest = s.lastRequest := by
  unfold State.applySignal; try dsimp only
  repeat' split
  all_goals try simp
  all_goals try (refine (foldl_lastRequest ?_ _ _).trans ?_ <;> (repeat' (first | intro _ | split)) <;> simp)
@[simp] theorem applySignal_linkUp (s : State) (id : BitVec 4) (level : Bool) (line : Word) :
    (s.applySignal id level line).delivery.linkUp = s.delivery.linkUp := by
  unfold State.applySignal; try dsimp only
  repeat' split
  all_goals try simp
  all_goals try (refine (foldl_linkUp ?_ _ _).trans ?_ <;> (repeat' (first | intro _ | split)) <;> simp)
@[simp] theorem applySignal_handled (s : State) (id : BitVec 4) (level : Bool) (line : Word) :
    (s.applySignal id level line).delivery.handled = s.delivery.handled := by
  unfold State.applySignal; try dsimp only
  repeat' split
  all_goals try simp
  all_goals try (refine (foldl_handled ?_ _ _).trans ?_ <;> (repeat' (first | intro _ | split)) <;> simp)
@[simp] theorem claimEdge_taps (s : State) (i : Fin 4) (level : Bool) :
    (s.claimEdge i level).taps = s.taps := by
  unfold State.claimEdge; try dsimp only
  repeat' split
  all_goals try simp
  all_goals try (refine (foldl_taps ?_ _ _).trans ?_ <;> (repeat' (first | intro _ | split)) <;> simp)
@[simp] theorem claimEdge_lastRequest (s : State) (i : Fin 4) (level : Bool) :
    (s.claimEdge i level).lastRequest = s.lastRequest := by
  unfold State.claimEdge; try dsimp only
  repeat' split
  all_goals try simp
  all_goals try (refine (foldl_lastRequest ?_ _ _).trans ?_ <;> (repeat' (first | intro _ | split)) <;> simp)
@[simp] theorem claimEdge_linkUp (s : State) (i : Fin 4) (level : Bool) :
    (s.claimEdge i level).delivery.linkUp = s.delivery.linkUp := by
  unfold State.claimEdge; try dsimp only
  repeat' split
  all_goals try simp
  all_goals try (refine (foldl_linkUp ?_ _ _).trans ?_ <;> (repeat' (first | intro _ | split)) <;> simp)
@[simp] theorem claimEdge_handled (s : State) (i : Fin 4) (level : Bool) :
    (s.claimEdge i level).delivery.handled = s.delivery.handled := by
  unfold State.claimEdge; try dsimp only
  repeat' split
  all_goals try simp
  all_goals try (refine (foldl_handled ?_ _ _).trans ?_ <;> (repeat' (first | intro _ | split)) <;> simp)
@[simp] theorem setFiltered_linkUp (s : State) (i : Fin 4) (level : Bool) :
    (s.setFiltered i level).delivery.linkUp = s.delivery.linkUp := by
  unfold State.setFiltered; try dsimp only
  repeat' split
  all_goals try simp
  all_goals try (refine (foldl_linkUp ?_ _ _).trans ?_ <;> (repeat' (first | intro _ | split)) <;> simp)
@[simp] theorem setFiltered_handled (s : State) (i : Fin 4) (level : Bool) :
    (s.setFiltered i level).delivery.handled = s.delivery.handled := by
  unfold State.setFiltered; try dsimp only
  repeat' split
  all_goals try simp
  all_goals try (refine (foldl_handled ?_ _ _).trans ?_ <;> (repeat' (first | intro _ | split)) <;> simp)
@[simp] theorem countDropped_taps (s : State) :
    (s.countDropped).taps = s.taps := by
  unfold State.countDropped; try dsimp only
  repeat' split
  all_goals try simp
  all_goals try (refine (foldl_taps ?_ _ _).trans ?_ <;> (repeat' (first | intro _ | split)) <;> simp)
@[simp] theorem countDropped_lastRequest (s : State) :
    (s.countDropped).lastRequest = s.lastRequest := by
  unfold State.countDropped; try dsimp only
  repeat' split
  all_goals try simp
  all_goals try (refine (foldl_lastRequest ?_ _ _).trans ?_ <;> (repeat' (first | intro _ | split)) <;> simp)
@[simp] theorem countDropped_linkUp (s : State) :
    (s.countDropped).delivery.linkUp = s.delivery.linkUp := by
  unfold State.countDropped; try dsimp only
  repeat' split
  all_goals try simp
  all_goals try (refine (foldl_linkUp ?_ _ _).trans ?_ <;> (repeat' (first | intro _ | split)) <;> simp)
@[simp] theorem countDropped_handled (s : State) :
    (s.countDropped).delivery.handled = s.delivery.handled := by
  unfold State.countDropped; try dsimp only
  repeat' split
  all_goals try simp
  all_goals try (refine (foldl_handled ?_ _ _).trans ?_ <;> (repeat' (first | intro _ | split)) <;> simp)
@[simp] theorem unitsToConfigured_lastRequest (s : State) (byReset : Bool) :
    (s.unitsToConfigured byReset).lastRequest = s.lastRequest := by
  unfold State.unitsToConfigured; try dsimp only
  repeat' split
  all_goals try simp
  all_goals try (refine (foldl_lastRequest ?_ _ _).trans ?_ <;> (repeat' (first | intro _ | split)) <;> simp)
@[simp] theorem enterUnconfigured_lastRequest (s : State) :
    (s.enterUnconfigured).lastRequest = s.lastRequest := by
  unfold State.enterUnconfigured; try dsimp only
  repeat' split
  all_goals try simp
  all_goals try (refine (foldl_lastRequest ?_ _ _).trans ?_ <;> (repeat' (first | intro _ | split)) <;> simp)
@[simp] theorem enterUnconfigured_linkUp (s : State) :
    (s.enterUnconfigured).delivery.linkUp = s.delivery.linkUp := by
  unfold State.enterUnconfigured; try dsimp only
  repeat' split
  all_goals try simp
  all_goals try (refine (foldl_linkUp ?_ _ _).trans ?_ <;> (repeat' (first | intro _ | split)) <;> simp)
@[simp] theorem enterUnconfigured_handled (s : State) :
    (s.enterUnconfigured).delivery.handled = s.delivery.handled := by
  unfold State.enterUnconfigured; try dsimp only
  repeat' split
  all_goals try simp
  all_goals try (refine (foldl_handled ?_ _ _).trans ?_ <;> (repeat' (first | intro _ | split)) <;> simp)
@[simp] theorem enterConfigured_lastRequest (s : State) (byReset : Bool) :
    (s.enterConfigured byReset).lastRequest = s.lastRequest := by
  unfold State.enterConfigured; try dsimp only
  repeat' split
  all_goals try simp
  all_goals try (refine (foldl_lastRequest ?_ _ _).trans ?_ <;> (repeat' (first | intro _ | split)) <;> simp)
@[simp] theorem enterListening_taps (s : State) :
    (s.enterListening).taps = s.taps := by
  unfold State.enterListening; try dsimp only
  repeat' split
  all_goals try simp
  all_goals try (refine (foldl_taps ?_ _ _).trans ?_ <;> (repeat' (first | intro _ | split)) <;> simp)
@[simp] theorem enterListening_lastRequest (s : State) :
    (s.enterListening).lastRequest = s.lastRequest := by
  unfold State.enterListening; try dsimp only
  repeat' split
  all_goals try simp
  all_goals try (refine (foldl_lastRequest ?_ _ _).trans ?_ <;> (repeat' (first | intro _ | split)) <;> simp)
@[simp] theorem enterListening_linkUp (s : State) :
    (s.enterListening).delivery.linkUp = s.delivery.linkUp := by
  unfold State.enterListening; try dsimp only
  repeat' split
  all_goals try simp
  all_goals try (refine (foldl_linkUp ?_ _ _).trans ?_ <;> (repeat' (first | intro _ | split)) <;> simp)
@[simp] theorem enterListening_handled (s : State) :
    (s.enterListening).delivery.handled = s.delivery.handled := by
  unfold State.enterListening; try dsimp only
  repeat' split
  all_goals try simp
  all_goals try (refine (foldl_handled ?_ _ _).trans ?_ <;> (repeat' (first | intro _ | split)) <;> simp)
@[simp] theorem enterLeaving_taps (s : State) :
    (s.enterLeaving).taps = s.taps := by
  unfold State.enterLeaving; try dsimp only
  repeat' split
  all_goals try simp
  all_goals try (refine (foldl_taps ?_ _ _).trans ?_ <;> (repeat' (first | intro _ | split)) <;> simp)
@[simp] theorem enterLeaving_lastRequest (s : State) :
    (s.enterLeaving).lastRequest = s.lastRequest := by
  unfold State.enterLeaving; try dsimp only
  repeat' split
  all_goals try simp
  all_goals try (refine (foldl_lastRequest ?_ _ _).trans ?_ <;> (repeat' (first | intro _ | split)) <;> simp)
@[simp] theorem enterLeaving_linkUp (s : State) :
    (s.enterLeaving).delivery.linkUp = s.delivery.linkUp := by
  unfold State.enterLeaving; try dsimp only
  repeat' split
  all_goals try simp
  all_goals try (refine (foldl_linkUp ?_ _ _).trans ?_ <;> (repeat' (first | intro _ | split)) <;> simp)
@[simp] theorem enterLeaving_handled (s : State) :
    (s.enterLeaving).delivery.handled = s.delivery.handled := by
  unfold State.enterLeaving; try dsimp only
  repeat' split
  all_goals try simp
  all_goals try (refine (foldl_handled ?_ _ _).trans ?_ <;> (repeat' (first | intro _ | split)) <;> simp)
@[simp] theorem stopLegTimers_taps (s : State) :
    (s.stopLegTimers).taps = s.taps := by
  unfold State.stopLegTimers; try dsimp only
  repeat' split
  all_goals try simp
  all_goals try (refine (foldl_taps ?_ _ _).trans ?_ <;> (repeat' (first | intro _ | split)) <;> simp)
@[simp] theorem stopLegTimers_lastRequest (s : State) :
    (s.stopLegTimers).lastRequest = s.lastRequest := by
  unfold State.stopLegTimers; try dsimp only
  repeat' split
  all_goals try simp
  all_goals try (refine (foldl_lastRequest ?_ _ _).trans ?_ <;> (repeat' (first | intro _ | split)) <;> simp)
@[simp] theorem stopLegTimers_linkUp (s : State) :
    (s.stopLegTimers).delivery.linkUp = s.delivery.linkUp := by
  unfold State.stopLegTimers; try dsimp only
  repeat' split
  all_goals try simp
  all_goals try (refine (foldl_linkUp ?_ _ _).trans ?_ <;> (repeat' (first | intro _ | split)) <;> simp)
@[simp] theorem stopLegTimers_handled (s : State) :
    (s.stopLegTimers).delivery.handled = s.delivery.handled := by
  unfold State.stopLegTimers; try dsimp only
  repeat' split
  all_goals try simp
  all_goals try (refine (foldl_handled ?_ _ _).trans ?_ <;> (repeat' (first | intro _ | split)) <;> simp)
@[simp] theorem lapse_lastRequest (s : State) :
    (s.lapse).lastRequest = s.lastRequest := by
  unfold State.lapse; try dsimp only
  repeat' split
  all_goals try simp
  all_goals try (refine (foldl_lastRequest ?_ _ _).trans ?_ <;> (repeat' (first | intro _ | split)) <;> simp)
@[simp] theorem lapse_linkUp (s : State) :
    (s.lapse).delivery.linkUp = s.delivery.linkUp := by
  unfold State.lapse; try dsimp only
  repeat' split
  all_goals try simp
  all_goals try (refine (foldl_linkUp ?_ _ _).trans ?_ <;> (repeat' (first | intro _ | split)) <;> simp)
@[simp] theorem lapse_handled (s : State) :
    (s.lapse).delivery.handled = s.delivery.handled := by
  unfold State.lapse; try dsimp only
  repeat' split
  all_goals try simp
  all_goals try (refine (foldl_handled ?_ _ _).trans ?_ <;> (repeat' (first | intro _ | split)) <;> simp)
@[simp] theorem lapseFrom_lastRequest (s : State) (from_ : List StationState) :
    (s.lapseFrom from_).lastRequest = s.lastRequest := by
  unfold State.lapseFrom; try dsimp only
  repeat' split
  all_goals try simp
  all_goals try (refine (foldl_lastRequest ?_ _ _).trans ?_ <;> (repeat' (first | intro _ | split)) <;> simp)
@[simp] theorem lapseFrom_linkUp (s : State) (from_ : List StationState) :
    (s.lapseFrom from_).delivery.linkUp = s.delivery.linkUp := by
  unfold State.lapseFrom; try dsimp only
  repeat' split
  all_goals try simp
  all_goals try (refine (foldl_linkUp ?_ _ _).trans ?_ <;> (repeat' (first | intro _ | split)) <;> simp)
@[simp] theorem lapseFrom_handled (s : State) (from_ : List StationState) :
    (s.lapseFrom from_).delivery.handled = s.delivery.handled := by
  unfold State.lapseFrom; try dsimp only
  repeat' split
  all_goals try simp
  all_goals try (refine (foldl_handled ?_ _ _).trans ?_ <;> (repeat' (first | intro _ | split)) <;> simp)
@[simp] theorem leaveLapsed_lastRequest (s : State) :
    (s.leaveLapsed).lastRequest = s.lastRequest := by
  unfold State.leaveLapsed; try dsimp only
  repeat' split
  all_goals try simp
  all_goals try (refine (foldl_lastRequest ?_ _ _).trans ?_ <;> (repeat' (first | intro _ | split)) <;> simp)
@[simp] theorem setChannel_linkUp (s : State) (c : Fin 8) (x : Channel) :
    (s.setChannel c x).delivery.linkUp = s.delivery.linkUp := by
  unfold State.setChannel; try dsimp only
  repeat' split
  all_goals try simp
  all_goals try (refine (foldl_linkUp ?_ _ _).trans ?_ <;> (repeat' (first | intro _ | split)) <;> simp)
@[simp] theorem setChannel_handled (s : State) (c : Fin 8) (x : Channel) :
    (s.setChannel c x).delivery.handled = s.delivery.handled := by
  unfold State.setChannel; try dsimp only
  repeat' split
  all_goals try simp
  all_goals try (refine (foldl_handled ?_ _ _).trans ?_ <;> (repeat' (first | intro _ | split)) <;> simp)
@[simp] theorem orphanRule_taps (s : State) :
    (s.orphanRule).taps = s.taps := by
  unfold State.orphanRule; try dsimp only
  repeat' split
  all_goals try simp
  all_goals try (refine (foldl_taps ?_ _ _).trans ?_ <;> (repeat' (first | intro _ | split)) <;> simp)
@[simp] theorem orphanRule_lastRequest (s : State) :
    (s.orphanRule).lastRequest = s.lastRequest := by
  unfold State.orphanRule; try dsimp only
  repeat' split
  all_goals try simp
  all_goals try (refine (foldl_lastRequest ?_ _ _).trans ?_ <;> (repeat' (first | intro _ | split)) <;> simp)
@[simp] theorem orphanRule_linkUp (s : State) :
    (s.orphanRule).delivery.linkUp = s.delivery.linkUp := by
  unfold State.orphanRule; try dsimp only
  repeat' split
  all_goals try simp
  all_goals try (refine (foldl_linkUp ?_ _ _).trans ?_ <;> (repeat' (first | intro _ | split)) <;> simp)
@[simp] theorem orphanRule_handled (s : State) :
    (s.orphanRule).delivery.handled = s.delivery.handled := by
  unfold State.orphanRule; try dsimp only
  repeat' split
  all_goals try simp
  all_goals try (refine (foldl_handled ?_ _ _).trans ?_ <;> (repeat' (first | intro _ | split)) <;> simp)
@[simp] theorem soleRule_taps (s : State) :
    (s.soleRule).taps = s.taps := by
  unfold State.soleRule; try dsimp only
  repeat' split
  all_goals try simp
  all_goals try (refine (foldl_taps ?_ _ _).trans ?_ <;> (repeat' (first | intro _ | split)) <;> simp)
@[simp] theorem soleRule_lastRequest (s : State) :
    (s.soleRule).lastRequest = s.lastRequest := by
  unfold State.soleRule; try dsimp only
  repeat' split
  all_goals try simp
  all_goals try (refine (foldl_lastRequest ?_ _ _).trans ?_ <;> (repeat' (first | intro _ | split)) <;> simp)
@[simp] theorem soleRule_linkUp (s : State) :
    (s.soleRule).delivery.linkUp = s.delivery.linkUp := by
  unfold State.soleRule; try dsimp only
  repeat' split
  all_goals try simp
  all_goals try (refine (foldl_linkUp ?_ _ _).trans ?_ <;> (repeat' (first | intro _ | split)) <;> simp)
@[simp] theorem soleRule_handled (s : State) :
    (s.soleRule).delivery.handled = s.delivery.handled := by
  unfold State.soleRule; try dsimp only
  repeat' split
  all_goals try simp
  all_goals try (refine (foldl_handled ?_ _ _).trans ?_ <;> (repeat' (first | intro _ | split)) <;> simp)
@[simp] theorem memberChecks_taps (s : State) :
    (s.memberChecks).taps = s.taps := by
  unfold State.memberChecks; try dsimp only
  repeat' split
  all_goals try simp
  all_goals try (refine (foldl_taps ?_ _ _).trans ?_ <;> (repeat' (first | intro _ | split)) <;> simp)
@[simp] theorem memberChecks_lastRequest (s : State) :
    (s.memberChecks).lastRequest = s.lastRequest := by
  unfold State.memberChecks; try dsimp only
  repeat' split
  all_goals try simp
  all_goals try (refine (foldl_lastRequest ?_ _ _).trans ?_ <;> (repeat' (first | intro _ | split)) <;> simp)
@[simp] theorem memberChecks_linkUp (s : State) :
    (s.memberChecks).delivery.linkUp = s.delivery.linkUp := by
  unfold State.memberChecks; try dsimp only
  repeat' split
  all_goals try simp
  all_goals try (refine (foldl_linkUp ?_ _ _).trans ?_ <;> (repeat' (first | intro _ | split)) <;> simp)
@[simp] theorem memberChecks_handled (s : State) :
    (s.memberChecks).delivery.handled = s.delivery.handled := by
  unfold State.memberChecks; try dsimp only
  repeat' split
  all_goals try simp
  all_goals try (refine (foldl_handled ?_ _ _).trans ?_ <;> (repeat' (first | intro _ | split)) <;> simp)
@[simp] theorem dropFromRoster_linkUp (s : State) (p : Station) :
    (s.dropFromRoster p).delivery.linkUp = s.delivery.linkUp := by
  unfold State.dropFromRoster; try dsimp only
  repeat' split
  all_goals try simp
  all_goals try (refine (foldl_linkUp ?_ _ _).trans ?_ <;> (repeat' (first | intro _ | split)) <;> simp)
@[simp] theorem dropFromRoster_handled (s : State) (p : Station) :
    (s.dropFromRoster p).delivery.handled = s.delivery.handled := by
  unfold State.dropFromRoster; try dsimp only
  repeat' split
  all_goals try simp
  all_goals try (refine (foldl_handled ?_ _ _).trans ?_ <;> (repeat' (first | intro _ | split)) <;> simp)
@[simp] theorem removeStation_taps (s : State) (p : Station) (dropSender : Option Station) :
    (s.removeStation p dropSender).taps = s.taps := by
  unfold State.removeStation; try dsimp only
  repeat' split
  all_goals try simp
  all_goals try (refine (foldl_taps ?_ _ _).trans ?_ <;> (repeat' (first | intro _ | split)) <;> simp)
@[simp] theorem removeStation_lastRequest (s : State) (p : Station) (dropSender : Option Station) :
    (s.removeStation p dropSender).lastRequest = s.lastRequest := by
  unfold State.removeStation; try dsimp only
  repeat' split
  all_goals try simp
  all_goals try (refine (foldl_lastRequest ?_ _ _).trans ?_ <;> (repeat' (first | intro _ | split)) <;> simp)
@[simp] theorem removeStation_linkUp (s : State) (p : Station) (dropSender : Option Station) :
    (s.removeStation p dropSender).delivery.linkUp = s.delivery.linkUp := by
  unfold State.removeStation; try dsimp only
  repeat' split
  all_goals try simp
  all_goals try (refine (foldl_linkUp ?_ _ _).trans ?_ <;> (repeat' (first | intro _ | split)) <;> simp)
@[simp] theorem removeStation_handled (s : State) (p : Station) (dropSender : Option Station) :
    (s.removeStation p dropSender).delivery.handled = s.delivery.handled := by
  unfold State.removeStation; try dsimp only
  repeat' split
  all_goals try simp
  all_goals try (refine (foldl_handled ?_ _ _).trans ?_ <;> (repeat' (first | intro _ | split)) <;> simp)
@[simp] theorem claimAtAdvance_taps (s : State) :
    (s.claimAtAdvance).taps = s.taps := by
  unfold State.claimAtAdvance; try dsimp only
  repeat' split
  all_goals try simp
  all_goals try (refine (foldl_taps ?_ _ _).trans ?_ <;> (repeat' (first | intro _ | split)) <;> simp)
@[simp] theorem claimAtAdvance_lastRequest (s : State) :
    (s.claimAtAdvance).lastRequest = s.lastRequest := by
  unfold State.claimAtAdvance; try dsimp only
  repeat' split
  all_goals try simp
  all_goals try (refine (foldl_lastRequest ?_ _ _).trans ?_ <;> (repeat' (first | intro _ | split)) <;> simp)
@[simp] theorem claimAtAdvance_linkUp (s : State) :
    (s.claimAtAdvance).delivery.linkUp = s.delivery.linkUp := by
  unfold State.claimAtAdvance; try dsimp only
  repeat' split
  all_goals try simp
  all_goals try (refine (foldl_linkUp ?_ _ _).trans ?_ <;> (repeat' (first | intro _ | split)) <;> simp)
@[simp] theorem claimAtAdvance_handled (s : State) :
    (s.claimAtAdvance).delivery.handled = s.delivery.handled := by
  unfold State.claimAtAdvance; try dsimp only
  repeat' split
  all_goals try simp
  all_goals try (refine (foldl_handled ?_ _ _).trans ?_ <;> (repeat' (first | intro _ | split)) <;> simp)
@[simp] theorem pruneFlushes_taps (s : State) :
    (s.pruneFlushes).taps = s.taps := by
  unfold State.pruneFlushes; try dsimp only
  repeat' split
  all_goals try simp
  all_goals try (refine (foldl_taps ?_ _ _).trans ?_ <;> (repeat' (first | intro _ | split)) <;> simp)
@[simp] theorem pruneFlushes_lastRequest (s : State) :
    (s.pruneFlushes).lastRequest = s.lastRequest := by
  unfold State.pruneFlushes; try dsimp only
  repeat' split
  all_goals try simp
  all_goals try (refine (foldl_lastRequest ?_ _ _).trans ?_ <;> (repeat' (first | intro _ | split)) <;> simp)
@[simp] theorem pruneFlushes_linkUp (s : State) :
    (s.pruneFlushes).delivery.linkUp = s.delivery.linkUp := by
  unfold State.pruneFlushes; try dsimp only
  repeat' split
  all_goals try simp
  all_goals try (refine (foldl_linkUp ?_ _ _).trans ?_ <;> (repeat' (first | intro _ | split)) <;> simp)
@[simp] theorem pruneFlushes_handled (s : State) :
    (s.pruneFlushes).delivery.handled = s.delivery.handled := by
  unfold State.pruneFlushes; try dsimp only
  repeat' split
  all_goals try simp
  all_goals try (refine (foldl_handled ?_ _ _).trans ?_ <;> (repeat' (first | intro _ | split)) <;> simp)
@[simp] theorem found_taps (s : State) :
    (s.found).taps = s.taps := by
  unfold State.found; try dsimp only
  repeat' split
  all_goals try simp
  all_goals try (refine (foldl_taps ?_ _ _).trans ?_ <;> (repeat' (first | intro _ | split)) <;> simp)
@[simp] theorem found_lastRequest (s : State) :
    (s.found).lastRequest = s.lastRequest := by
  unfold State.found; try dsimp only
  repeat' split
  all_goals try simp
  all_goals try (refine (foldl_lastRequest ?_ _ _).trans ?_ <;> (repeat' (first | intro _ | split)) <;> simp)
@[simp] theorem found_linkUp (s : State) :
    (s.found).delivery.linkUp = s.delivery.linkUp := by
  unfold State.found; try dsimp only
  repeat' split
  all_goals try simp
  all_goals try (refine (foldl_linkUp ?_ _ _).trans ?_ <;> (repeat' (first | intro _ | split)) <;> simp)
@[simp] theorem found_handled (s : State) :
    (s.found).delivery.handled = s.delivery.handled := by
  unfold State.found; try dsimp only
  repeat' split
  all_goals try simp
  all_goals try (refine (foldl_handled ?_ _ _).trans ?_ <;> (repeat' (first | intro _ | split)) <;> simp)
@[simp] theorem consumeSteer_taps (s : State) (j : Fin 2) (e : Steer) :
    (s.consumeSteer j e).taps = s.taps := by
  unfold State.consumeSteer; try dsimp only
  repeat' split
  all_goals try simp
  all_goals try (refine (foldl_taps ?_ _ _).trans ?_ <;> (repeat' (first | intro _ | split)) <;> simp)
@[simp] theorem consumeSteer_lastRequest (s : State) (j : Fin 2) (e : Steer) :
    (s.consumeSteer j e).lastRequest = s.lastRequest := by
  unfold State.consumeSteer; try dsimp only
  repeat' split
  all_goals try simp
  all_goals try (refine (foldl_lastRequest ?_ _ _).trans ?_ <;> (repeat' (first | intro _ | split)) <;> simp)
@[simp] theorem consumeSteer_linkUp (s : State) (j : Fin 2) (e : Steer) :
    (s.consumeSteer j e).delivery.linkUp = s.delivery.linkUp := by
  unfold State.consumeSteer; try dsimp only
  repeat' split
  all_goals try simp
  all_goals try (refine (foldl_linkUp ?_ _ _).trans ?_ <;> (repeat' (first | intro _ | split)) <;> simp)
@[simp] theorem consumeSteer_handled (s : State) (j : Fin 2) (e : Steer) :
    (s.consumeSteer j e).delivery.handled = s.delivery.handled := by
  unfold State.consumeSteer; try dsimp only
  repeat' split
  all_goals try simp
  all_goals try (refine (foldl_handled ?_ _ _).trans ?_ <;> (repeat' (first | intro _ | split)) <;> simp)
@[simp] theorem desync_lastRequest (s : State) :
    (s.desync).lastRequest = s.lastRequest := by
  unfold State.desync; try dsimp only
  repeat' split
  all_goals try simp
  all_goals try (refine (foldl_lastRequest ?_ _ _).trans ?_ <;> (repeat' (first | intro _ | split)) <;> simp)
@[simp] theorem desync_linkUp (s : State) :
    (s.desync).delivery.linkUp = s.delivery.linkUp := by
  unfold State.desync; try dsimp only
  repeat' split
  all_goals try simp
  all_goals try (refine (foldl_linkUp ?_ _ _).trans ?_ <;> (repeat' (first | intro _ | split)) <;> simp)
@[simp] theorem desync_handled (s : State) :
    (s.desync).delivery.handled = s.delivery.handled := by
  unfold State.desync; try dsimp only
  repeat' split
  all_goals try simp
  all_goals try (refine (foldl_handled ?_ _ _).trans ?_ <;> (repeat' (first | intro _ | split)) <;> simp)
@[simp] theorem applyGrant_lastRequest (s : State) (c : Fin 8) (seq : Byte) (base : Page) :
    (s.applyGrant c seq base).lastRequest = s.lastRequest := by
  unfold State.applyGrant; try dsimp only
  repeat' split
  all_goals try simp
  all_goals try (refine (foldl_lastRequest ?_ _ _).trans ?_ <;> (repeat' (first | intro _ | split)) <;> simp)
@[simp] theorem applyGrant_linkUp (s : State) (c : Fin 8) (seq : Byte) (base : Page) :
    (s.applyGrant c seq base).delivery.linkUp = s.delivery.linkUp := by
  unfold State.applyGrant; try dsimp only
  repeat' split
  all_goals try simp
  all_goals try (refine (foldl_linkUp ?_ _ _).trans ?_ <;> (repeat' (first | intro _ | split)) <;> simp)
@[simp] theorem applyGrant_handled (s : State) (c : Fin 8) (seq : Byte) (base : Page) :
    (s.applyGrant c seq base).delivery.handled = s.delivery.handled := by
  unfold State.applyGrant; try dsimp only
  repeat' split
  all_goals try simp
  all_goals try (refine (foldl_handled ?_ _ _).trans ?_ <;> (repeat' (first | intro _ | split)) <;> simp)
@[simp] theorem bornVoid_taps (s : State) (i : Fin 8) (j : Fin 2) :
    (s.bornVoid i j).taps = s.taps := by
  unfold State.bornVoid; try dsimp only
  repeat' split
  all_goals try simp
  all_goals try (refine (foldl_taps ?_ _ _).trans ?_ <;> (repeat' (first | intro _ | split)) <;> simp)
@[simp] theorem bornVoid_lastRequest (s : State) (i : Fin 8) (j : Fin 2) :
    (s.bornVoid i j).lastRequest = s.lastRequest := by
  unfold State.bornVoid; try dsimp only
  repeat' split
  all_goals try simp
  all_goals try (refine (foldl_lastRequest ?_ _ _).trans ?_ <;> (repeat' (first | intro _ | split)) <;> simp)
@[simp] theorem bornVoid_linkUp (s : State) (i : Fin 8) (j : Fin 2) :
    (s.bornVoid i j).delivery.linkUp = s.delivery.linkUp := by
  unfold State.bornVoid; try dsimp only
  repeat' split
  all_goals try simp
  all_goals try (refine (foldl_linkUp ?_ _ _).trans ?_ <;> (repeat' (first | intro _ | split)) <;> simp)
@[simp] theorem bornVoid_handled (s : State) (i : Fin 8) (j : Fin 2) :
    (s.bornVoid i j).delivery.handled = s.delivery.handled := by
  unfold State.bornVoid; try dsimp only
  repeat' split
  all_goals try simp
  all_goals try (refine (foldl_handled ?_ _ _).trans ?_ <;> (repeat' (first | intro _ | split)) <;> simp)
@[simp] theorem enterFrame_taps (s : State) (k : Nat) (mask : StationSet) (entries : StreamEntries) :
    (s.enterFrame k mask entries).taps = s.taps := by
  unfold State.enterFrame; try dsimp only
  repeat' split
  all_goals try simp
  all_goals try (refine (foldl_taps ?_ _ _).trans ?_ <;> (repeat' (first | intro _ | split)) <;> simp)
@[simp] theorem enterFrame_lastRequest (s : State) (k : Nat) (mask : StationSet) (entries : StreamEntries) :
    (s.enterFrame k mask entries).lastRequest = s.lastRequest := by
  unfold State.enterFrame; try dsimp only
  repeat' split
  all_goals try simp
  all_goals try (refine (foldl_lastRequest ?_ _ _).trans ?_ <;> (repeat' (first | intro _ | split)) <;> simp)
@[simp] theorem enterFrame_linkUp (s : State) (k : Nat) (mask : StationSet) (entries : StreamEntries) :
    (s.enterFrame k mask entries).delivery.linkUp = s.delivery.linkUp := by
  unfold State.enterFrame; try dsimp only
  repeat' split
  all_goals try simp
  all_goals try (refine (foldl_linkUp ?_ _ _).trans ?_ <;> (repeat' (first | intro _ | split)) <;> simp)
@[simp] theorem enterFrame_handled (s : State) (k : Nat) (mask : StationSet) (entries : StreamEntries) :
    (s.enterFrame k mask entries).delivery.handled = s.delivery.handled := by
  unfold State.enterFrame; try dsimp only
  repeat' split
  all_goals try simp
  all_goals try (refine (foldl_handled ?_ _ _).trans ?_ <;> (repeat' (first | intro _ | split)) <;> simp)
@[simp] theorem raiseH_linkUp (s : State) (k : Nat) :
    (s.raiseH k).delivery.linkUp = s.delivery.linkUp := by
  unfold State.raiseH; try dsimp only
  repeat' split
  all_goals try simp
  all_goals try (refine (foldl_linkUp ?_ _ _).trans ?_ <;> (repeat' (first | intro _ | split)) <;> simp)
@[simp] theorem raiseH_handled (s : State) (k : Nat) :
    (s.raiseH k).delivery.handled = s.delivery.handled := by
  unfold State.raiseH; try dsimp only
  repeat' split
  all_goals try simp
  all_goals try (refine (foldl_handled ?_ _ _).trans ?_ <;> (repeat' (first | intro _ | split)) <;> simp)
@[simp] theorem clearForeign_taps (s : State) (i : Fin 8) :
    (s.clearForeign i).taps = s.taps := by
  unfold State.clearForeign; try dsimp only
  repeat' split
  all_goals try simp
  all_goals try (refine (foldl_taps ?_ _ _).trans ?_ <;> (repeat' (first | intro _ | split)) <;> simp)
@[simp] theorem clearForeign_lastRequest (s : State) (i : Fin 8) :
    (s.clearForeign i).lastRequest = s.lastRequest := by
  unfold State.clearForeign; try dsimp only
  repeat' split
  all_goals try simp
  all_goals try (refine (foldl_lastRequest ?_ _ _).trans ?_ <;> (repeat' (first | intro _ | split)) <;> simp)
@[simp] theorem clearForeign_linkUp (s : State) (i : Fin 8) :
    (s.clearForeign i).delivery.linkUp = s.delivery.linkUp := by
  unfold State.clearForeign; try dsimp only
  repeat' split
  all_goals try simp
  all_goals try (refine (foldl_linkUp ?_ _ _).trans ?_ <;> (repeat' (first | intro _ | split)) <;> simp)
@[simp] theorem clearForeign_handled (s : State) (i : Fin 8) :
    (s.clearForeign i).delivery.handled = s.delivery.handled := by
  unfold State.clearForeign; try dsimp only
  repeat' split
  all_goals try simp
  all_goals try (refine (foldl_handled ?_ _ _).trans ?_ <;> (repeat' (first | intro _ | split)) <;> simp)
@[simp] theorem applyOpening_lastRequest (s : State) (frame : BitVec 16) (mask : StationSet) (entries : StreamEntries) :
    (s.applyOpening frame mask entries).lastRequest = s.lastRequest := by
  unfold State.applyOpening; try dsimp only
  repeat' split
  all_goals try simp
  all_goals try (refine (foldl_lastRequest ?_ _ _).trans ?_ <;> (repeat' (first | intro _ | split)) <;> simp)
@[simp] theorem applyOpening_linkUp (s : State) (frame : BitVec 16) (mask : StationSet) (entries : StreamEntries) :
    (s.applyOpening frame mask entries).delivery.linkUp = s.delivery.linkUp := by
  unfold State.applyOpening; try dsimp only
  repeat' split
  all_goals try simp
  all_goals try (refine (foldl_linkUp ?_ _ _).trans ?_ <;> (repeat' (first | intro _ | split)) <;> simp)
@[simp] theorem applyOpening_handled (s : State) (frame : BitVec 16) (mask : StationSet) (entries : StreamEntries) :
    (s.applyOpening frame mask entries).delivery.handled = s.delivery.handled := by
  unfold State.applyOpening; try dsimp only
  repeat' split
  all_goals try simp
  all_goals try (refine (foldl_handled ?_ _ _).trans ?_ <;> (repeat' (first | intro _ | split)) <;> simp)
@[simp] theorem applyGate_taps (s : State) (isOpen : Bool) (frame : BitVec 16) :
    (s.applyGate isOpen frame).taps = s.taps := by
  unfold State.applyGate; try dsimp only
  repeat' split
  all_goals try simp
  all_goals try (refine (foldl_taps ?_ _ _).trans ?_ <;> (repeat' (first | intro _ | split)) <;> simp)
@[simp] theorem applyGate_lastRequest (s : State) (isOpen : Bool) (frame : BitVec 16) :
    (s.applyGate isOpen frame).lastRequest = s.lastRequest := by
  unfold State.applyGate; try dsimp only
  repeat' split
  all_goals try simp
  all_goals try (refine (foldl_lastRequest ?_ _ _).trans ?_ <;> (repeat' (first | intro _ | split)) <;> simp)
@[simp] theorem applyGate_linkUp (s : State) (isOpen : Bool) (frame : BitVec 16) :
    (s.applyGate isOpen frame).delivery.linkUp = s.delivery.linkUp := by
  unfold State.applyGate; try dsimp only
  repeat' split
  all_goals try simp
  all_goals try (refine (foldl_linkUp ?_ _ _).trans ?_ <;> (repeat' (first | intro _ | split)) <;> simp)
@[simp] theorem applyGate_handled (s : State) (isOpen : Bool) (frame : BitVec 16) :
    (s.applyGate isOpen frame).delivery.handled = s.delivery.handled := by
  unfold State.applyGate; try dsimp only
  repeat' split
  all_goals try simp
  all_goals try (refine (foldl_handled ?_ _ _).trans ?_ <;> (repeat' (first | intro _ | split)) <;> simp)
@[simp] theorem learnFrames_taps (s : State) (r : Roll) :
    (s.learnFrames r).taps = s.taps := by
  unfold State.learnFrames; try dsimp only
  repeat' split
  all_goals try simp
  all_goals try (refine (foldl_taps ?_ _ _).trans ?_ <;> (repeat' (first | intro _ | split)) <;> simp)
@[simp] theorem learnFrames_lastRequest (s : State) (r : Roll) :
    (s.learnFrames r).lastRequest = s.lastRequest := by
  unfold State.learnFrames; try dsimp only
  repeat' split
  all_goals try simp
  all_goals try (refine (foldl_lastRequest ?_ _ _).trans ?_ <;> (repeat' (first | intro _ | split)) <;> simp)
@[simp] theorem learnFrames_linkUp (s : State) (r : Roll) :
    (s.learnFrames r).delivery.linkUp = s.delivery.linkUp := by
  unfold State.learnFrames; try dsimp only
  repeat' split
  all_goals try simp
  all_goals try (refine (foldl_linkUp ?_ _ _).trans ?_ <;> (repeat' (first | intro _ | split)) <;> simp)
@[simp] theorem learnFrames_handled (s : State) (r : Roll) :
    (s.learnFrames r).delivery.handled = s.delivery.handled := by
  unfold State.learnFrames; try dsimp only
  repeat' split
  all_goals try simp
  all_goals try (refine (foldl_handled ?_ _ _).trans ?_ <;> (repeat' (first | intro _ | split)) <;> simp)
@[simp] theorem forgetForeign_taps (s : State) (r : Roll) :
    (s.forgetForeign r).taps = s.taps := by
  unfold State.forgetForeign; try dsimp only
  repeat' split
  all_goals try simp
  all_goals try (refine (foldl_taps ?_ _ _).trans ?_ <;> (repeat' (first | intro _ | split)) <;> simp)
@[simp] theorem forgetForeign_lastRequest (s : State) (r : Roll) :
    (s.forgetForeign r).lastRequest = s.lastRequest := by
  unfold State.forgetForeign; try dsimp only
  repeat' split
  all_goals try simp
  all_goals try (refine (foldl_lastRequest ?_ _ _).trans ?_ <;> (repeat' (first | intro _ | split)) <;> simp)
@[simp] theorem forgetForeign_linkUp (s : State) (r : Roll) :
    (s.forgetForeign r).delivery.linkUp = s.delivery.linkUp := by
  unfold State.forgetForeign; try dsimp only
  repeat' split
  all_goals try simp
  all_goals try (refine (foldl_linkUp ?_ _ _).trans ?_ <;> (repeat' (first | intro _ | split)) <;> simp)
@[simp] theorem forgetForeign_handled (s : State) (r : Roll) :
    (s.forgetForeign r).delivery.handled = s.delivery.handled := by
  unfold State.forgetForeign; try dsimp only
  repeat' split
  all_goals try simp
  all_goals try (refine (foldl_handled ?_ _ _).trans ?_ <;> (repeat' (first | intro _ | split)) <;> simp)
@[simp] theorem takeCompleteness_taps (s : State) (r : Roll) :
    (s.takeCompleteness r).taps = s.taps := by
  unfold State.takeCompleteness; try dsimp only
  repeat' split
  all_goals try simp
  all_goals try (refine (foldl_taps ?_ _ _).trans ?_ <;> (repeat' (first | intro _ | split)) <;> simp)
@[simp] theorem takeCompleteness_lastRequest (s : State) (r : Roll) :
    (s.takeCompleteness r).lastRequest = s.lastRequest := by
  unfold State.takeCompleteness; try dsimp only
  repeat' split
  all_goals try simp
  all_goals try (refine (foldl_lastRequest ?_ _ _).trans ?_ <;> (repeat' (first | intro _ | split)) <;> simp)
@[simp] theorem takeCompleteness_linkUp (s : State) (r : Roll) :
    (s.takeCompleteness r).delivery.linkUp = s.delivery.linkUp := by
  unfold State.takeCompleteness; try dsimp only
  repeat' split
  all_goals try simp
  all_goals try (refine (foldl_linkUp ?_ _ _).trans ?_ <;> (repeat' (first | intro _ | split)) <;> simp)
@[simp] theorem takeCompleteness_handled (s : State) (r : Roll) :
    (s.takeCompleteness r).delivery.handled = s.delivery.handled := by
  unfold State.takeCompleteness; try dsimp only
  repeat' split
  all_goals try simp
  all_goals try (refine (foldl_handled ?_ _ _).trans ?_ <;> (repeat' (first | intro _ | split)) <;> simp)

end Sys2Proof.Machine
end

