-- ==== Sys2Proof/Laws/FrameWindow.lean ====
section
/-! SUPPORT. The digest, the command interface, H and the channels through every operation that leaves them alone. -/

namespace Sys2Proof.Machine

set_option linter.unusedTactic false
set_option linter.unreachableTactic false
set_option linter.unnecessarySeqFocus false

theorem foldl_digest {α : Type} {f : State → α → State} (h : ∀ s a, (f s a).window.digest = s.window.digest) (l : List α)
    (s : State) : (l.foldl f s).window.digest = s.window.digest := by
  induction l generalizing s with
  | nil => rfl
  | cons a l ih => exact (ih _).trans (h _ _)

theorem foldl_taking {α : Type} {f : State → α → State} (h : ∀ s a, (f s a).window.taking = s.window.taking) (l : List α)
    (s : State) : (l.foldl f s).window.taking = s.window.taking := by
  induction l generalizing s with
  | nil => rfl
  | cons a l ih => exact (ih _).trans (h _ _)

theorem foldl_frames_h {α : Type} {f : State → α → State} (h : ∀ s a, (f s a).frames.h = s.frames.h) (l : List α)
    (s : State) : (l.foldl f s).frames.h = s.frames.h := by
  induction l generalizing s with
  | nil => rfl
  | cons a l ih => exact (ih _).trans (h _ _)

theorem foldl_frames_channels {α : Type} {f : State → α → State} (h : ∀ s a, (f s a).frames.channels = s.frames.channels) (l : List α)
    (s : State) : (l.foldl f s).frames.channels = s.frames.channels := by
  induction l generalizing s with
  | nil => rfl
  | cons a l ih => exact (ih _).trans (h _ _)

@[simp] theorem bump_digest (s : State) (f : Counters → Counters) :
    (s.bump f).window.digest = s.window.digest := by
  unfold State.bump; try dsimp only
  repeat' split
  all_goals try simp
  all_goals try (refine (foldl_digest ?_ _ _).trans ?_ <;> (repeat' (first | intro _ | split)) <;> simp)
@[simp] theorem bump_taking (s : State) (f : Counters → Counters) :
    (s.bump f).window.taking = s.window.taking := by
  unfold State.bump; try dsimp only
  repeat' split
  all_goals try simp
  all_goals try (refine (foldl_taking ?_ _ _).trans ?_ <;> (repeat' (first | intro _ | split)) <;> simp)
@[simp] theorem bump_frames_h (s : State) (f : Counters → Counters) :
    (s.bump f).frames.h = s.frames.h := by
  unfold State.bump; try dsimp only
  repeat' split
  all_goals try simp
  all_goals try (refine (foldl_frames_h ?_ _ _).trans ?_ <;> (repeat' (first | intro _ | split)) <;> simp)
@[simp] theorem bump_frames_channels (s : State) (f : Counters → Counters) :
    (s.bump f).frames.channels = s.frames.channels := by
  unfold State.bump; try dsimp only
  repeat' split
  all_goals try simp
  all_goals try (refine (foldl_frames_channels ?_ _ _).trans ?_ <;> (repeat' (first | intro _ | split)) <;> simp)
@[simp] theorem present_digest (s : State) (r : PortRequest) :
    (s.present r).window.digest = s.window.digest := by
  unfold State.present; try dsimp only
  repeat' split
  all_goals try simp
  all_goals try (refine (foldl_digest ?_ _ _).trans ?_ <;> (repeat' (first | intro _ | split)) <;> simp)
@[simp] theorem present_taking (s : State) (r : PortRequest) :
    (s.present r).window.taking = s.window.taking := by
  unfold State.present; try dsimp only
  repeat' split
  all_goals try simp
  all_goals try (refine (foldl_taking ?_ _ _).trans ?_ <;> (repeat' (first | intro _ | split)) <;> simp)
@[simp] theorem present_frames_h (s : State) (r : PortRequest) :
    (s.present r).frames.h = s.frames.h := by
  unfold State.present; try dsimp only
  repeat' split
  all_goals try simp
  all_goals try (refine (foldl_frames_h ?_ _ _).trans ?_ <;> (repeat' (first | intro _ | split)) <;> simp)
@[simp] theorem present_frames_channels (s : State) (r : PortRequest) :
    (s.present r).frames.channels = s.frames.channels := by
  unfold State.present; try dsimp only
  repeat' split
  all_goals try simp
  all_goals try (refine (foldl_frames_channels ?_ _ _).trans ?_ <;> (repeat' (first | intro _ | split)) <;> simp)
@[simp] theorem notice_digest (s : State) :
    (s.notice).window.digest = s.window.digest := by
  unfold State.notice; try dsimp only
  repeat' split
  all_goals try simp
  all_goals try (refine (foldl_digest ?_ _ _).trans ?_ <;> (repeat' (first | intro _ | split)) <;> simp)
@[simp] theorem notice_taking (s : State) :
    (s.notice).window.taking = s.window.taking := by
  unfold State.notice; try dsimp only
  repeat' split
  all_goals try simp
  all_goals try (refine (foldl_taking ?_ _ _).trans ?_ <;> (repeat' (first | intro _ | split)) <;> simp)
@[simp] theorem notice_frames_h (s : State) :
    (s.notice).frames.h = s.frames.h := by
  unfold State.notice; try dsimp only
  repeat' split
  all_goals try simp
  all_goals try (refine (foldl_frames_h ?_ _ _).trans ?_ <;> (repeat' (first | intro _ | split)) <;> simp)
@[simp] theorem notice_frames_channels (s : State) :
    (s.notice).frames.channels = s.frames.channels := by
  unfold State.notice; try dsimp only
  repeat' split
  all_goals try simp
  all_goals try (refine (foldl_frames_channels ?_ _ _).trans ?_ <;> (repeat' (first | intro _ | split)) <;> simp)
@[simp] theorem event_digest (s : State) (k : EventKind) :
    (s.event k).window.digest = s.window.digest := by
  unfold State.event; try dsimp only
  repeat' split
  all_goals try simp
  all_goals try (refine (foldl_digest ?_ _ _).trans ?_ <;> (repeat' (first | intro _ | split)) <;> simp)
@[simp] theorem event_taking (s : State) (k : EventKind) :
    (s.event k).window.taking = s.window.taking := by
  unfold State.event; try dsimp only
  repeat' split
  all_goals try simp
  all_goals try (refine (foldl_taking ?_ _ _).trans ?_ <;> (repeat' (first | intro _ | split)) <;> simp)
@[simp] theorem event_frames_h (s : State) (k : EventKind) :
    (s.event k).frames.h = s.frames.h := by
  unfold State.event; try dsimp only
  repeat' split
  all_goals try simp
  all_goals try (refine (foldl_frames_h ?_ _ _).trans ?_ <;> (repeat' (first | intro _ | split)) <;> simp)
@[simp] theorem event_frames_channels (s : State) (k : EventKind) :
    (s.event k).frames.channels = s.frames.channels := by
  unfold State.event; try dsimp only
  repeat' split
  all_goals try simp
  all_goals try (refine (foldl_frames_channels ?_ _ _).trans ?_ <;> (repeat' (first | intro _ | split)) <;> simp)
@[simp] theorem eventNoticed_digest (s : State) (k : EventKind) (enabled : Bool) :
    (s.eventNoticed k enabled).window.digest = s.window.digest := by
  unfold State.eventNoticed; try dsimp only
  repeat' split
  all_goals try simp
  all_goals try (refine (foldl_digest ?_ _ _).trans ?_ <;> (repeat' (first | intro _ | split)) <;> simp)
@[simp] theorem eventNoticed_taking (s : State) (k : EventKind) (enabled : Bool) :
    (s.eventNoticed k enabled).window.taking = s.window.taking := by
  unfold State.eventNoticed; try dsimp only
  repeat' split
  all_goals try simp
  all_goals try (refine (foldl_taking ?_ _ _).trans ?_ <;> (repeat' (first | intro _ | split)) <;> simp)
@[simp] theorem eventNoticed_frames_h (s : State) (k : EventKind) (enabled : Bool) :
    (s.eventNoticed k enabled).frames.h = s.frames.h := by
  unfold State.eventNoticed; try dsimp only
  repeat' split
  all_goals try simp
  all_goals try (refine (foldl_frames_h ?_ _ _).trans ?_ <;> (repeat' (first | intro _ | split)) <;> simp)
@[simp] theorem eventNoticed_frames_channels (s : State) (k : EventKind) (enabled : Bool) :
    (s.eventNoticed k enabled).frames.channels = s.frames.channels := by
  unfold State.eventNoticed; try dsimp only
  repeat' split
  all_goals try simp
  all_goals try (refine (foldl_frames_channels ?_ _ _).trans ?_ <;> (repeat' (first | intro _ | split)) <;> simp)
@[simp] theorem raise_digest (s : State) (k : FaultKind) :
    (s.raise k).window.digest = s.window.digest := by
  unfold State.raise; try dsimp only
  repeat' split
  all_goals try simp
  all_goals try (refine (foldl_digest ?_ _ _).trans ?_ <;> (repeat' (first | intro _ | split)) <;> simp)
@[simp] theorem raise_taking (s : State) (k : FaultKind) :
    (s.raise k).window.taking = s.window.taking := by
  unfold State.raise; try dsimp only
  repeat' split
  all_goals try simp
  all_goals try (refine (foldl_taking ?_ _ _).trans ?_ <;> (repeat' (first | intro _ | split)) <;> simp)
@[simp] theorem raise_frames_h (s : State) (k : FaultKind) :
    (s.raise k).frames.h = s.frames.h := by
  unfold State.raise; try dsimp only
  repeat' split
  all_goals try simp
  all_goals try (refine (foldl_frames_h ?_ _ _).trans ?_ <;> (repeat' (first | intro _ | split)) <;> simp)
@[simp] theorem raise_frames_channels (s : State) (k : FaultKind) :
    (s.raise k).frames.channels = s.frames.channels := by
  unfold State.raise; try dsimp only
  repeat' split
  all_goals try simp
  all_goals try (refine (foldl_frames_channels ?_ _ _).trans ?_ <;> (repeat' (first | intro _ | split)) <;> simp)
@[simp] theorem clearFault_digest (s : State) (k : FaultKind) :
    (s.clearFault k).window.digest = s.window.digest := by
  unfold State.clearFault; try dsimp only
  repeat' split
  all_goals try simp
  all_goals try (refine (foldl_digest ?_ _ _).trans ?_ <;> (repeat' (first | intro _ | split)) <;> simp)
@[simp] theorem clearFault_taking (s : State) (k : FaultKind) :
    (s.clearFault k).window.taking = s.window.taking := by
  unfold State.clearFault; try dsimp only
  repeat' split
  all_goals try simp
  all_goals try (refine (foldl_taking ?_ _ _).trans ?_ <;> (repeat' (first | intro _ | split)) <;> simp)
@[simp] theorem clearFault_frames_h (s : State) (k : FaultKind) :
    (s.clearFault k).frames.h = s.frames.h := by
  unfold State.clearFault; try dsimp only
  repeat' split
  all_goals try simp
  all_goals try (refine (foldl_frames_h ?_ _ _).trans ?_ <;> (repeat' (first | intro _ | split)) <;> simp)
@[simp] theorem clearFault_frames_channels (s : State) (k : FaultKind) :
    (s.clearFault k).frames.channels = s.frames.channels := by
  unfold State.clearFault; try dsimp only
  repeat' split
  all_goals try simp
  all_goals try (refine (foldl_frames_channels ?_ _ _).trans ?_ <;> (repeat' (first | intro _ | split)) <;> simp)
@[simp] theorem changeState_digest (s : State) (st : StationState) :
    (s.changeState st).window.digest = s.window.digest := by
  unfold State.changeState; try dsimp only
  repeat' split
  all_goals try simp
  all_goals try (refine (foldl_digest ?_ _ _).trans ?_ <;> (repeat' (first | intro _ | split)) <;> simp)
@[simp] theorem changeState_taking (s : State) (st : StationState) :
    (s.changeState st).window.taking = s.window.taking := by
  unfold State.changeState; try dsimp only
  repeat' split
  all_goals try simp
  all_goals try (refine (foldl_taking ?_ _ _).trans ?_ <;> (repeat' (first | intro _ | split)) <;> simp)
@[simp] theorem changeState_frames_h (s : State) (st : StationState) :
    (s.changeState st).frames.h = s.frames.h := by
  unfold State.changeState; try dsimp only
  repeat' split
  all_goals try simp
  all_goals try (refine (foldl_frames_h ?_ _ _).trans ?_ <;> (repeat' (first | intro _ | split)) <;> simp)
@[simp] theorem changeState_frames_channels (s : State) (st : StationState) :
    (s.changeState st).frames.channels = s.frames.channels := by
  unfold State.changeState; try dsimp only
  repeat' split
  all_goals try simp
  all_goals try (refine (foldl_frames_channels ?_ _ _).trans ?_ <;> (repeat' (first | intro _ | split)) <;> simp)
@[simp] theorem answer_digest (s : State) (code : Byte) (r : Result) (value : Word) :
    (s.answer code r value).window.digest = s.window.digest := by
  unfold State.answer; try dsimp only
  repeat' split
  all_goals try simp
  all_goals try (refine (foldl_digest ?_ _ _).trans ?_ <;> (repeat' (first | intro _ | split)) <;> simp)
@[simp] theorem answer_frames_h (s : State) (code : Byte) (r : Result) (value : Word) :
    (s.answer code r value).frames.h = s.frames.h := by
  unfold State.answer; try dsimp only
  repeat' split
  all_goals try simp
  all_goals try (refine (foldl_frames_h ?_ _ _).trans ?_ <;> (repeat' (first | intro _ | split)) <;> simp)
@[simp] theorem answer_frames_channels (s : State) (code : Byte) (r : Result) (value : Word) :
    (s.answer code r value).frames.channels = s.frames.channels := by
  unfold State.answer; try dsimp only
  repeat' split
  all_goals try simp
  all_goals try (refine (foldl_frames_channels ?_ _ _).trans ?_ <;> (repeat' (first | intro _ | split)) <;> simp)
@[simp] theorem collide_digest (s : State) :
    (s.collide).window.digest = s.window.digest := by
  unfold State.collide; try dsimp only
  repeat' split
  all_goals try simp
  all_goals try (refine (foldl_digest ?_ _ _).trans ?_ <;> (repeat' (first | intro _ | split)) <;> simp)
@[simp] theorem collide_taking (s : State) :
    (s.collide).window.taking = s.window.taking := by
  unfold State.collide; try dsimp only
  repeat' split
  all_goals try simp
  all_goals try (refine (foldl_taking ?_ _ _).trans ?_ <;> (repeat' (first | intro _ | split)) <;> simp)
@[simp] theorem collide_frames_h (s : State) :
    (s.collide).frames.h = s.frames.h := by
  unfold State.collide; try dsimp only
  repeat' split
  all_goals try simp
  all_goals try (refine (foldl_frames_h ?_ _ _).trans ?_ <;> (repeat' (first | intro _ | split)) <;> simp)
@[simp] theorem collide_frames_channels (s : State) :
    (s.collide).frames.channels = s.frames.channels := by
  unfold State.collide; try dsimp only
  repeat' split
  all_goals try simp
  all_goals try (refine (foldl_frames_channels ?_ _ _).trans ?_ <;> (repeat' (first | intro _ | split)) <;> simp)
@[simp] theorem setPending_digest (s : State) (k : NoteKind) (l : List Pending) :
    (s.setPending k l).window.digest = s.window.digest := by
  unfold State.setPending; try dsimp only
  repeat' split
  all_goals try simp
  all_goals try (refine (foldl_digest ?_ _ _).trans ?_ <;> (repeat' (first | intro _ | split)) <;> simp)
@[simp] theorem setPending_taking (s : State) (k : NoteKind) (l : List Pending) :
    (s.setPending k l).window.taking = s.window.taking := by
  unfold State.setPending; try dsimp only
  repeat' split
  all_goals try simp
  all_goals try (refine (foldl_taking ?_ _ _).trans ?_ <;> (repeat' (first | intro _ | split)) <;> simp)
@[simp] theorem setPending_frames_h (s : State) (k : NoteKind) (l : List Pending) :
    (s.setPending k l).frames.h = s.frames.h := by
  unfold State.setPending; try dsimp only
  repeat' split
  all_goals try simp
  all_goals try (refine (foldl_frames_h ?_ _ _).trans ?_ <;> (repeat' (first | intro _ | split)) <;> simp)
@[simp] theorem setPending_frames_channels (s : State) (k : NoteKind) (l : List Pending) :
    (s.setPending k l).frames.channels = s.frames.channels := by
  unfold State.setPending; try dsimp only
  repeat' split
  all_goals try simp
  all_goals try (refine (foldl_frames_channels ?_ _ _).trans ?_ <;> (repeat' (first | intro _ | split)) <;> simp)
@[simp] theorem joinList_digest (s : State) (c : Claim) :
    (s.joinList c).window.digest = s.window.digest := by
  unfold State.joinList; try dsimp only
  repeat' split
  all_goals try simp
  all_goals try (refine (foldl_digest ?_ _ _).trans ?_ <;> (repeat' (first | intro _ | split)) <;> simp)
@[simp] theorem joinList_taking (s : State) (c : Claim) :
    (s.joinList c).window.taking = s.window.taking := by
  unfold State.joinList; try dsimp only
  repeat' split
  all_goals try simp
  all_goals try (refine (foldl_taking ?_ _ _).trans ?_ <;> (repeat' (first | intro _ | split)) <;> simp)
@[simp] theorem joinList_frames_h (s : State) (c : Claim) :
    (s.joinList c).frames.h = s.frames.h := by
  unfold State.joinList; try dsimp only
  repeat' split
  all_goals try simp
  all_goals try (refine (foldl_frames_h ?_ _ _).trans ?_ <;> (repeat' (first | intro _ | split)) <;> simp)
@[simp] theorem joinList_frames_channels (s : State) (c : Claim) :
    (s.joinList c).frames.channels = s.frames.channels := by
  unfold State.joinList; try dsimp only
  repeat' split
  all_goals try simp
  all_goals try (refine (foldl_frames_channels ?_ _ _).trans ?_ <;> (repeat' (first | intro _ | split)) <;> simp)
@[simp] theorem claimMet_digest (s : State) :
    (s.claimMet).window.digest = s.window.digest := by
  unfold State.claimMet; try dsimp only
  repeat' split
  all_goals try simp
  all_goals try (refine (foldl_digest ?_ _ _).trans ?_ <;> (repeat' (first | intro _ | split)) <;> simp)
@[simp] theorem claimMet_taking (s : State) :
    (s.claimMet).window.taking = s.window.taking := by
  unfold State.claimMet; try dsimp only
  repeat' split
  all_goals try simp
  all_goals try (refine (foldl_taking ?_ _ _).trans ?_ <;> (repeat' (first | intro _ | split)) <;> simp)
@[simp] theorem claimMet_frames_h (s : State) :
    (s.claimMet).frames.h = s.frames.h := by
  unfold State.claimMet; try dsimp only
  repeat' split
  all_goals try simp
  all_goals try (refine (foldl_frames_h ?_ _ _).trans ?_ <;> (repeat' (first | intro _ | split)) <;> simp)
@[simp] theorem claimMet_frames_channels (s : State) :
    (s.claimMet).frames.channels = s.frames.channels := by
  unfold State.claimMet; try dsimp only
  repeat' split
  all_goals try simp
  all_goals try (refine (foldl_frames_channels ?_ _ _).trans ?_ <;> (repeat' (first | intro _ | split)) <;> simp)
@[simp] theorem claimRefused_digest (s : State) :
    (s.claimRefused).window.digest = s.window.digest := by
  unfold State.claimRefused; try dsimp only
  repeat' split
  all_goals try simp
  all_goals try (refine (foldl_digest ?_ _ _).trans ?_ <;> (repeat' (first | intro _ | split)) <;> simp)
@[simp] theorem claimRefused_taking (s : State) :
    (s.claimRefused).window.taking = s.window.taking := by
  unfold State.claimRefused; try dsimp only
  repeat' split
  all_goals try simp
  all_goals try (refine (foldl_taking ?_ _ _).trans ?_ <;> (repeat' (first | intro _ | split)) <;> simp)
@[simp] theorem claimRefused_frames_h (s : State) :
    (s.claimRefused).frames.h = s.frames.h := by
  unfold State.claimRefused; try dsimp only
  repeat' split
  all_goals try simp
  all_goals try (refine (foldl_frames_h ?_ _ _).trans ?_ <;> (repeat' (first | intro _ | split)) <;> simp)
@[simp] theorem claimRefused_frames_channels (s : State) :
    (s.claimRefused).frames.channels = s.frames.channels := by
  unfold State.claimRefused; try dsimp only
  repeat' split
  all_goals try simp
  all_goals try (refine (foldl_frames_channels ?_ _ _).trans ?_ <;> (repeat' (first | intro _ | split)) <;> simp)
@[simp] theorem claimFifo_digest (s : State) (c : Claim) :
    (s.claimFifo c).window.digest = s.window.digest := by
  unfold State.claimFifo; try dsimp only
  repeat' split
  all_goals try simp
  all_goals try (refine (foldl_digest ?_ _ _).trans ?_ <;> (repeat' (first | intro _ | split)) <;> simp)
@[simp] theorem claimFifo_taking (s : State) (c : Claim) :
    (s.claimFifo c).window.taking = s.window.taking := by
  unfold State.claimFifo; try dsimp only
  repeat' split
  all_goals try simp
  all_goals try (refine (foldl_taking ?_ _ _).trans ?_ <;> (repeat' (first | intro _ | split)) <;> simp)
@[simp] theorem claimFifo_frames_h (s : State) (c : Claim) :
    (s.claimFifo c).frames.h = s.frames.h := by
  unfold State.claimFifo; try dsimp only
  repeat' split
  all_goals try simp
  all_goals try (refine (foldl_frames_h ?_ _ _).trans ?_ <;> (repeat' (first | intro _ | split)) <;> simp)
@[simp] theorem claimFifo_frames_channels (s : State) (c : Claim) :
    (s.claimFifo c).frames.channels = s.frames.channels := by
  unfold State.claimFifo; try dsimp only
  repeat' split
  all_goals try simp
  all_goals try (refine (foldl_frames_channels ?_ _ _).trans ?_ <;> (repeat' (first | intro _ | split)) <;> simp)
@[simp] theorem claimDrop_digest (s : State) (p : Station) :
    (s.claimDrop p).window.digest = s.window.digest := by
  unfold State.claimDrop; try dsimp only
  repeat' split
  all_goals try simp
  all_goals try (refine (foldl_digest ?_ _ _).trans ?_ <;> (repeat' (first | intro _ | split)) <;> simp)
@[simp] theorem claimDrop_taking (s : State) (p : Station) :
    (s.claimDrop p).window.taking = s.window.taking := by
  unfold State.claimDrop; try dsimp only
  repeat' split
  all_goals try simp
  all_goals try (refine (foldl_taking ?_ _ _).trans ?_ <;> (repeat' (first | intro _ | split)) <;> simp)
@[simp] theorem claimDrop_frames_h (s : State) (p : Station) :
    (s.claimDrop p).frames.h = s.frames.h := by
  unfold State.claimDrop; try dsimp only
  repeat' split
  all_goals try simp
  all_goals try (refine (foldl_frames_h ?_ _ _).trans ?_ <;> (repeat' (first | intro _ | split)) <;> simp)
@[simp] theorem claimDrop_frames_channels (s : State) (p : Station) :
    (s.claimDrop p).frames.channels = s.frames.channels := by
  unfold State.claimDrop; try dsimp only
  repeat' split
  all_goals try simp
  all_goals try (refine (foldl_frames_channels ?_ _ _).trans ?_ <;> (repeat' (first | intro _ | split)) <;> simp)
@[simp] theorem claimRoll_digest (s : State) :
    (s.claimRoll).window.digest = s.window.digest := by
  unfold State.claimRoll; try dsimp only
  repeat' split
  all_goals try simp
  all_goals try (refine (foldl_digest ?_ _ _).trans ?_ <;> (repeat' (first | intro _ | split)) <;> simp)
@[simp] theorem claimRoll_taking (s : State) :
    (s.claimRoll).window.taking = s.window.taking := by
  unfold State.claimRoll; try dsimp only
  repeat' split
  all_goals try simp
  all_goals try (refine (foldl_taking ?_ _ _).trans ?_ <;> (repeat' (first | intro _ | split)) <;> simp)
@[simp] theorem claimRoll_frames_h (s : State) :
    (s.claimRoll).frames.h = s.frames.h := by
  unfold State.claimRoll; try dsimp only
  repeat' split
  all_goals try simp
  all_goals try (refine (foldl_frames_h ?_ _ _).trans ?_ <;> (repeat' (first | intro _ | split)) <;> simp)
@[simp] theorem claimRoll_frames_channels (s : State) :
    (s.claimRoll).frames.channels = s.frames.channels := by
  unfold State.claimRoll; try dsimp only
  repeat' split
  all_goals try simp
  all_goals try (refine (foldl_frames_channels ?_ _ _).trans ?_ <;> (repeat' (first | intro _ | split)) <;> simp)
@[simp] theorem lostGrantBy_digest (s : State) (c : Claim) :
    (s.lostGrantBy c).window.digest = s.window.digest := by
  unfold State.lostGrantBy; try dsimp only
  repeat' split
  all_goals try simp
  all_goals try (refine (foldl_digest ?_ _ _).trans ?_ <;> (repeat' (first | intro _ | split)) <;> simp)
@[simp] theorem lostGrantBy_taking (s : State) (c : Claim) :
    (s.lostGrantBy c).window.taking = s.window.taking := by
  unfold State.lostGrantBy; try dsimp only
  repeat' split
  all_goals try simp
  all_goals try (refine (foldl_taking ?_ _ _).trans ?_ <;> (repeat' (first | intro _ | split)) <;> simp)
@[simp] theorem lostGrantBy_frames_h (s : State) (c : Claim) :
    (s.lostGrantBy c).frames.h = s.frames.h := by
  unfold State.lostGrantBy; try dsimp only
  repeat' split
  all_goals try simp
  all_goals try (refine (foldl_frames_h ?_ _ _).trans ?_ <;> (repeat' (first | intro _ | split)) <;> simp)
@[simp] theorem lostGrantBy_frames_channels (s : State) (c : Claim) :
    (s.lostGrantBy c).frames.channels = s.frames.channels := by
  unfold State.lostGrantBy; try dsimp only
  repeat' split
  all_goals try simp
  all_goals try (refine (foldl_frames_channels ?_ _ _).trans ?_ <;> (repeat' (first | intro _ | split)) <;> simp)
@[simp] theorem withdrawn_digest (s : State) (n : Pending) (byReset : Bool) :
    (s.withdrawn n byReset).window.digest = s.window.digest := by
  unfold State.withdrawn; try dsimp only
  repeat' split
  all_goals try simp
  all_goals try (refine (foldl_digest ?_ _ _).trans ?_ <;> (repeat' (first | intro _ | split)) <;> simp)
@[simp] theorem withdrawn_taking (s : State) (n : Pending) (byReset : Bool) :
    (s.withdrawn n byReset).window.taking = s.window.taking := by
  unfold State.withdrawn; try dsimp only
  repeat' split
  all_goals try simp
  all_goals try (refine (foldl_taking ?_ _ _).trans ?_ <;> (repeat' (first | intro _ | split)) <;> simp)
@[simp] theorem withdrawn_frames_h (s : State) (n : Pending) (byReset : Bool) :
    (s.withdrawn n byReset).frames.h = s.frames.h := by
  unfold State.withdrawn; try dsimp only
  repeat' split
  all_goals try simp
  all_goals try (refine (foldl_frames_h ?_ _ _).trans ?_ <;> (repeat' (first | intro _ | split)) <;> simp)
@[simp] theorem withdrawn_frames_channels (s : State) (n : Pending) (byReset : Bool) :
    (s.withdrawn n byReset).frames.channels = s.frames.channels := by
  unfold State.withdrawn; try dsimp only
  repeat' split
  all_goals try simp
  all_goals try (refine (foldl_frames_channels ?_ _ _).trans ?_ <;> (repeat' (first | intro _ | split)) <;> simp)
@[simp] theorem claimOpening_digest (s : State) (k : Nat) :
    (s.claimOpening k).window.digest = s.window.digest := by
  unfold State.claimOpening; try dsimp only
  repeat' split
  all_goals try simp
  all_goals try (refine (foldl_digest ?_ _ _).trans ?_ <;> (repeat' (first | intro _ | split)) <;> simp)
@[simp] theorem claimOpening_taking (s : State) (k : Nat) :
    (s.claimOpening k).window.taking = s.window.taking := by
  unfold State.claimOpening; try dsimp only
  repeat' split
  all_goals try simp
  all_goals try (refine (foldl_taking ?_ _ _).trans ?_ <;> (repeat' (first | intro _ | split)) <;> simp)
@[simp] theorem claimOpening_frames_h (s : State) (k : Nat) :
    (s.claimOpening k).frames.h = s.frames.h := by
  unfold State.claimOpening; try dsimp only
  repeat' split
  all_goals try simp
  all_goals try (refine (foldl_frames_h ?_ _ _).trans ?_ <;> (repeat' (first | intro _ | split)) <;> simp)
@[simp] theorem claimOpening_frames_channels (s : State) (k : Nat) :
    (s.claimOpening k).frames.channels = s.frames.channels := by
  unfold State.claimOpening; try dsimp only
  repeat' split
  all_goals try simp
  all_goals try (refine (foldl_frames_channels ?_ _ _).trans ?_ <;> (repeat' (first | intro _ | split)) <;> simp)
@[simp] theorem claimRoster_digest (s : State) (c : Claim) :
    (s.claimRoster c).window.digest = s.window.digest := by
  unfold State.claimRoster; try dsimp only
  repeat' split
  all_goals try simp
  all_goals try (refine (foldl_digest ?_ _ _).trans ?_ <;> (repeat' (first | intro _ | split)) <;> simp)
@[simp] theorem claimRoster_taking (s : State) (c : Claim) :
    (s.claimRoster c).window.taking = s.window.taking := by
  unfold State.claimRoster; try dsimp only
  repeat' split
  all_goals try simp
  all_goals try (refine (foldl_taking ?_ _ _).trans ?_ <;> (repeat' (first | intro _ | split)) <;> simp)
@[simp] theorem claimRoster_frames_h (s : State) (c : Claim) :
    (s.claimRoster c).frames.h = s.frames.h := by
  unfold State.claimRoster; try dsimp only
  repeat' split
  all_goals try simp
  all_goals try (refine (foldl_frames_h ?_ _ _).trans ?_ <;> (repeat' (first | intro _ | split)) <;> simp)
@[simp] theorem claimRoster_frames_channels (s : State) (c : Claim) :
    (s.claimRoster c).frames.channels = s.frames.channels := by
  unfold State.claimRoster; try dsimp only
  repeat' split
  all_goals try simp
  all_goals try (refine (foldl_frames_channels ?_ _ _).trans ?_ <;> (repeat' (first | intro _ | split)) <;> simp)
@[simp] theorem withdrawFrom_digest (s : State) (k : NoteKind) (doom : Doom) (hit : Pending → Bool) :
    (s.withdrawFrom k doom hit).window.digest = s.window.digest := by
  unfold State.withdrawFrom; try dsimp only
  repeat' split
  all_goals try simp
  all_goals try (refine (foldl_digest ?_ _ _).trans ?_ <;> (repeat' (first | intro _ | split)) <;> simp)
@[simp] theorem withdrawFrom_taking (s : State) (k : NoteKind) (doom : Doom) (hit : Pending → Bool) :
    (s.withdrawFrom k doom hit).window.taking = s.window.taking := by
  unfold State.withdrawFrom; try dsimp only
  repeat' split
  all_goals try simp
  all_goals try (refine (foldl_taking ?_ _ _).trans ?_ <;> (repeat' (first | intro _ | split)) <;> simp)
@[simp] theorem withdrawFrom_frames_h (s : State) (k : NoteKind) (doom : Doom) (hit : Pending → Bool) :
    (s.withdrawFrom k doom hit).frames.h = s.frames.h := by
  unfold State.withdrawFrom; try dsimp only
  repeat' split
  all_goals try simp
  all_goals try (refine (foldl_frames_h ?_ _ _).trans ?_ <;> (repeat' (first | intro _ | split)) <;> simp)
@[simp] theorem withdrawFrom_frames_channels (s : State) (k : NoteKind) (doom : Doom) (hit : Pending → Bool) :
    (s.withdrawFrom k doom hit).frames.channels = s.frames.channels := by
  unfold State.withdrawFrom; try dsimp only
  repeat' split
  all_goals try simp
  all_goals try (refine (foldl_frames_channels ?_ _ _).trans ?_ <;> (repeat' (first | intro _ | split)) <;> simp)
@[simp] theorem withdrawAll_digest (s : State) (doom : Doom) (keepDone : Bool) :
    (s.withdrawAll doom keepDone).window.digest = s.window.digest := by
  unfold State.withdrawAll; try dsimp only
  repeat' split
  all_goals try simp
  all_goals try (refine (foldl_digest ?_ _ _).trans ?_ <;> (repeat' (first | intro _ | split)) <;> simp)
@[simp] theorem withdrawAll_taking (s : State) (doom : Doom) (keepDone : Bool) :
    (s.withdrawAll doom keepDone).window.taking = s.window.taking := by
  unfold State.withdrawAll; try dsimp only
  repeat' split
  all_goals try simp
  all_goals try (refine (foldl_taking ?_ _ _).trans ?_ <;> (repeat' (first | intro _ | split)) <;> simp)
@[simp] theorem withdrawAll_frames_h (s : State) (doom : Doom) (keepDone : Bool) :
    (s.withdrawAll doom keepDone).frames.h = s.frames.h := by
  unfold State.withdrawAll; try dsimp only
  repeat' split
  all_goals try simp
  all_goals try (refine (foldl_frames_h ?_ _ _).trans ?_ <;> (repeat' (first | intro _ | split)) <;> simp)
@[simp] theorem withdrawAll_frames_channels (s : State) (doom : Doom) (keepDone : Bool) :
    (s.withdrawAll doom keepDone).frames.channels = s.frames.channels := by
  unfold State.withdrawAll; try dsimp only
  repeat' split
  all_goals try simp
  all_goals try (refine (foldl_frames_channels ?_ _ _).trans ?_ <;> (repeat' (first | intro _ | split)) <;> simp)
@[simp] theorem keepLeaveClaimed_digest (s : State) :
    (s.keepLeaveClaimed).window.digest = s.window.digest := by
  unfold State.keepLeaveClaimed; try dsimp only
  repeat' split
  all_goals try simp
  all_goals try (refine (foldl_digest ?_ _ _).trans ?_ <;> (repeat' (first | intro _ | split)) <;> simp)
@[simp] theorem keepLeaveClaimed_taking (s : State) :
    (s.keepLeaveClaimed).window.taking = s.window.taking := by
  unfold State.keepLeaveClaimed; try dsimp only
  repeat' split
  all_goals try simp
  all_goals try (refine (foldl_taking ?_ _ _).trans ?_ <;> (repeat' (first | intro _ | split)) <;> simp)
@[simp] theorem keepLeaveClaimed_frames_h (s : State) :
    (s.keepLeaveClaimed).frames.h = s.frames.h := by
  unfold State.keepLeaveClaimed; try dsimp only
  repeat' split
  all_goals try simp
  all_goals try (refine (foldl_frames_h ?_ _ _).trans ?_ <;> (repeat' (first | intro _ | split)) <;> simp)
@[simp] theorem keepLeaveClaimed_frames_channels (s : State) :
    (s.keepLeaveClaimed).frames.channels = s.frames.channels := by
  unfold State.keepLeaveClaimed; try dsimp only
  repeat' split
  all_goals try simp
  all_goals try (refine (foldl_frames_channels ?_ _ _).trans ?_ <;> (repeat' (first | intro _ | split)) <;> simp)
@[simp] theorem tick_digest (s : State) (t : Moment) :
    (s.tick t).window.digest = s.window.digest := by
  unfold State.tick; try dsimp only
  repeat' split
  all_goals try simp
  all_goals try (refine (foldl_digest ?_ _ _).trans ?_ <;> (repeat' (first | intro _ | split)) <;> simp)
@[simp] theorem tick_taking (s : State) (t : Moment) :
    (s.tick t).window.taking = s.window.taking := by
  unfold State.tick; try dsimp only
  repeat' split
  all_goals try simp
  all_goals try (refine (foldl_taking ?_ _ _).trans ?_ <;> (repeat' (first | intro _ | split)) <;> simp)
@[simp] theorem tick_frames_h (s : State) (t : Moment) :
    (s.tick t).frames.h = s.frames.h := by
  unfold State.tick; try dsimp only
  repeat' split
  all_goals try simp
  all_goals try (refine (foldl_frames_h ?_ _ _).trans ?_ <;> (repeat' (first | intro _ | split)) <;> simp)
@[simp] theorem tick_frames_channels (s : State) (t : Moment) :
    (s.tick t).frames.channels = s.frames.channels := by
  unfold State.tick; try dsimp only
  repeat' split
  all_goals try simp
  all_goals try (refine (foldl_frames_channels ?_ _ _).trans ?_ <;> (repeat' (first | intro _ | split)) <;> simp)
@[simp] theorem setTap_digest (s : State) (t : Tap) (x : TapState) :
    (s.setTap t x).window.digest = s.window.digest := by
  unfold State.setTap; try dsimp only
  repeat' split
  all_goals try simp
  all_goals try (refine (foldl_digest ?_ _ _).trans ?_ <;> (repeat' (first | intro _ | split)) <;> simp)
@[simp] theorem setTap_taking (s : State) (t : Tap) (x : TapState) :
    (s.setTap t x).window.taking = s.window.taking := by
  unfold State.setTap; try dsimp only
  repeat' split
  all_goals try simp
  all_goals try (refine (foldl_taking ?_ _ _).trans ?_ <;> (repeat' (first | intro _ | split)) <;> simp)
@[simp] theorem setTap_frames_h (s : State) (t : Tap) (x : TapState) :
    (s.setTap t x).frames.h = s.frames.h := by
  unfold State.setTap; try dsimp only
  repeat' split
  all_goals try simp
  all_goals try (refine (foldl_frames_h ?_ _ _).trans ?_ <;> (repeat' (first | intro _ | split)) <;> simp)
@[simp] theorem setTap_frames_channels (s : State) (t : Tap) (x : TapState) :
    (s.setTap t x).frames.channels = s.frames.channels := by
  unfold State.setTap; try dsimp only
  repeat' split
  all_goals try simp
  all_goals try (refine (foldl_frames_channels ?_ _ _).trans ?_ <;> (repeat' (first | intro _ | split)) <;> simp)
@[simp] theorem slotTaken_digest (s : State) :
    (s.slotTaken).window.digest = s.window.digest := by
  unfold State.slotTaken; try dsimp only
  repeat' split
  all_goals try simp
  all_goals try (refine (foldl_digest ?_ _ _).trans ?_ <;> (repeat' (first | intro _ | split)) <;> simp)
@[simp] theorem slotTaken_taking (s : State) :
    (s.slotTaken).window.taking = s.window.taking := by
  unfold State.slotTaken; try dsimp only
  repeat' split
  all_goals try simp
  all_goals try (refine (foldl_taking ?_ _ _).trans ?_ <;> (repeat' (first | intro _ | split)) <;> simp)
@[simp] theorem slotTaken_frames_h (s : State) :
    (s.slotTaken).frames.h = s.frames.h := by
  unfold State.slotTaken; try dsimp only
  repeat' split
  all_goals try simp
  all_goals try (refine (foldl_frames_h ?_ _ _).trans ?_ <;> (repeat' (first | intro _ | split)) <;> simp)
@[simp] theorem slotTaken_frames_channels (s : State) :
    (s.slotTaken).frames.channels = s.frames.channels := by
  unfold State.slotTaken; try dsimp only
  repeat' split
  all_goals try simp
  all_goals try (refine (foldl_frames_channels ?_ _ _).trans ?_ <;> (repeat' (first | intro _ | split)) <;> simp)
@[simp] theorem setSlot_digest (s : State) (i : Fin 8) (x : Slot) :
    (s.setSlot i x).window.digest = s.window.digest := by
  unfold State.setSlot; try dsimp only
  repeat' split
  all_goals try simp
  all_goals try (refine (foldl_digest ?_ _ _).trans ?_ <;> (repeat' (first | intro _ | split)) <;> simp)
@[simp] theorem setSlot_taking (s : State) (i : Fin 8) (x : Slot) :
    (s.setSlot i x).window.taking = s.window.taking := by
  unfold State.setSlot; try dsimp only
  repeat' split
  all_goals try simp
  all_goals try (refine (foldl_taking ?_ _ _).trans ?_ <;> (repeat' (first | intro _ | split)) <;> simp)
@[simp] theorem setSlot_frames_h (s : State) (i : Fin 8) (x : Slot) :
    (s.setSlot i x).frames.h = s.frames.h := by
  unfold State.setSlot; try dsimp only
  repeat' split
  all_goals try simp
  all_goals try (refine (foldl_frames_h ?_ _ _).trans ?_ <;> (repeat' (first | intro _ | split)) <;> simp)
@[simp] theorem setSlot_frames_channels (s : State) (i : Fin 8) (x : Slot) :
    (s.setSlot i x).frames.channels = s.frames.channels := by
  unfold State.setSlot; try dsimp only
  repeat' split
  all_goals try simp
  all_goals try (refine (foldl_frames_channels ?_ _ _).trans ?_ <;> (repeat' (first | intro _ | split)) <;> simp)
@[simp] theorem modifyLeg_digest (s : State) (i : Fin 8) (j : Fin 2) (f : Leg → Leg) :
    (s.modifyLeg i j f).window.digest = s.window.digest := by
  unfold State.modifyLeg; try dsimp only
  repeat' split
  all_goals try simp
  all_goals try (refine (foldl_digest ?_ _ _).trans ?_ <;> (repeat' (first | intro _ | split)) <;> simp)
@[simp] theorem modifyLeg_taking (s : State) (i : Fin 8) (j : Fin 2) (f : Leg → Leg) :
    (s.modifyLeg i j f).window.taking = s.window.taking := by
  unfold State.modifyLeg; try dsimp only
  repeat' split
  all_goals try simp
  all_goals try (refine (foldl_taking ?_ _ _).trans ?_ <;> (repeat' (first | intro _ | split)) <;> simp)
@[simp] theorem modifyLeg_frames_h (s : State) (i : Fin 8) (j : Fin 2) (f : Leg → Leg) :
    (s.modifyLeg i j f).frames.h = s.frames.h := by
  unfold State.modifyLeg; try dsimp only
  repeat' split
  all_goals try simp
  all_goals try (refine (foldl_frames_h ?_ _ _).trans ?_ <;> (repeat' (first | intro _ | split)) <;> simp)
@[simp] theorem modifyLeg_frames_channels (s : State) (i : Fin 8) (j : Fin 2) (f : Leg → Leg) :
    (s.modifyLeg i j f).frames.channels = s.frames.channels := by
  unfold State.modifyLeg; try dsimp only
  repeat' split
  all_goals try simp
  all_goals try (refine (foldl_frames_channels ?_ _ _).trans ?_ <;> (repeat' (first | intro _ | split)) <;> simp)
@[simp] theorem modifyPart_digest (s : State) (i : Fin 8) (j : Fin 2) (f : OwnPart → OwnPart) :
    (s.modifyPart i j f).window.digest = s.window.digest := by
  unfold State.modifyPart; try dsimp only
  repeat' split
  all_goals try simp
  all_goals try (refine (foldl_digest ?_ _ _).trans ?_ <;> (repeat' (first | intro _ | split)) <;> simp)
@[simp] theorem modifyPart_taking (s : State) (i : Fin 8) (j : Fin 2) (f : OwnPart → OwnPart) :
    (s.modifyPart i j f).window.taking = s.window.taking := by
  unfold State.modifyPart; try dsimp only
  repeat' split
  all_goals try simp
  all_goals try (refine (foldl_taking ?_ _ _).trans ?_ <;> (repeat' (first | intro _ | split)) <;> simp)
@[simp] theorem modifyPart_frames_h (s : State) (i : Fin 8) (j : Fin 2) (f : OwnPart → OwnPart) :
    (s.modifyPart i j f).frames.h = s.frames.h := by
  unfold State.modifyPart; try dsimp only
  repeat' split
  all_goals try simp
  all_goals try (refine (foldl_frames_h ?_ _ _).trans ?_ <;> (repeat' (first | intro _ | split)) <;> simp)
@[simp] theorem modifyPart_frames_channels (s : State) (i : Fin 8) (j : Fin 2) (f : OwnPart → OwnPart) :
    (s.modifyPart i j f).frames.channels = s.frames.channels := by
  unfold State.modifyPart; try dsimp only
  repeat' split
  all_goals try simp
  all_goals try (refine (foldl_frames_channels ?_ _ _).trans ?_ <;> (repeat' (first | intro _ | split)) <;> simp)
@[simp] theorem dropFlush_digest (s : State) (i : Fin 8) (j : Fin 2) :
    (s.dropFlush i j).window.digest = s.window.digest := by
  unfold State.dropFlush; try dsimp only
  repeat' split
  all_goals try simp
  all_goals try (refine (foldl_digest ?_ _ _).trans ?_ <;> (repeat' (first | intro _ | split)) <;> simp)
@[simp] theorem dropFlush_taking (s : State) (i : Fin 8) (j : Fin 2) :
    (s.dropFlush i j).window.taking = s.window.taking := by
  unfold State.dropFlush; try dsimp only
  repeat' split
  all_goals try simp
  all_goals try (refine (foldl_taking ?_ _ _).trans ?_ <;> (repeat' (first | intro _ | split)) <;> simp)
@[simp] theorem dropFlush_frames_h (s : State) (i : Fin 8) (j : Fin 2) :
    (s.dropFlush i j).frames.h = s.frames.h := by
  unfold State.dropFlush; try dsimp only
  repeat' split
  all_goals try simp
  all_goals try (refine (foldl_frames_h ?_ _ _).trans ?_ <;> (repeat' (first | intro _ | split)) <;> simp)
@[simp] theorem dropFlush_frames_channels (s : State) (i : Fin 8) (j : Fin 2) :
    (s.dropFlush i j).frames.channels = s.frames.channels := by
  unfold State.dropFlush; try dsimp only
  repeat' split
  all_goals try simp
  all_goals try (refine (foldl_frames_channels ?_ _ _).trans ?_ <;> (repeat' (first | intro _ | split)) <;> simp)
@[simp] theorem claimDone_digest (s : State) (i : Fin 8) (j : Fin 2) (delivered : Bool) :
    (s.claimDone i j delivered).window.digest = s.window.digest := by
  unfold State.claimDone; try dsimp only
  repeat' split
  all_goals try simp
  all_goals try (refine (foldl_digest ?_ _ _).trans ?_ <;> (repeat' (first | intro _ | split)) <;> simp)
@[simp] theorem claimDone_taking (s : State) (i : Fin 8) (j : Fin 2) (delivered : Bool) :
    (s.claimDone i j delivered).window.taking = s.window.taking := by
  unfold State.claimDone; try dsimp only
  repeat' split
  all_goals try simp
  all_goals try (refine (foldl_taking ?_ _ _).trans ?_ <;> (repeat' (first | intro _ | split)) <;> simp)
@[simp] theorem claimDone_frames_h (s : State) (i : Fin 8) (j : Fin 2) (delivered : Bool) :
    (s.claimDone i j delivered).frames.h = s.frames.h := by
  unfold State.claimDone; try dsimp only
  repeat' split
  all_goals try simp
  all_goals try (refine (foldl_frames_h ?_ _ _).trans ?_ <;> (repeat' (first | intro _ | split)) <;> simp)
@[simp] theorem claimDone_frames_channels (s : State) (i : Fin 8) (j : Fin 2) (delivered : Bool) :
    (s.claimDone i j delivered).frames.channels = s.frames.channels := by
  unfold State.claimDone; try dsimp only
  repeat' split
  all_goals try simp
  all_goals try (refine (foldl_frames_channels ?_ _ _).trans ?_ <;> (repeat' (first | intro _ | split)) <;> simp)
@[simp] theorem markVoid_digest (s : State) (i : Fin 8) (j : Fin 2) :
    (s.markVoid i j).window.digest = s.window.digest := by
  unfold State.markVoid; try dsimp only
  repeat' split
  all_goals try simp
  all_goals try (refine (foldl_digest ?_ _ _).trans ?_ <;> (repeat' (first | intro _ | split)) <;> simp)
@[simp] theorem markVoid_taking (s : State) (i : Fin 8) (j : Fin 2) :
    (s.markVoid i j).window.taking = s.window.taking := by
  unfold State.markVoid; try dsimp only
  repeat' split
  all_goals try simp
  all_goals try (refine (foldl_taking ?_ _ _).trans ?_ <;> (repeat' (first | intro _ | split)) <;> simp)
@[simp] theorem markVoid_frames_h (s : State) (i : Fin 8) (j : Fin 2) :
    (s.markVoid i j).frames.h = s.frames.h := by
  unfold State.markVoid; try dsimp only
  repeat' split
  all_goals try simp
  all_goals try (refine (foldl_frames_h ?_ _ _).trans ?_ <;> (repeat' (first | intro _ | split)) <;> simp)
@[simp] theorem markVoid_frames_channels (s : State) (i : Fin 8) (j : Fin 2) :
    (s.markVoid i j).frames.channels = s.frames.channels := by
  unfold State.markVoid; try dsimp only
  repeat' split
  all_goals try simp
  all_goals try (refine (foldl_frames_channels ?_ _ _).trans ?_ <;> (repeat' (first | intro _ | split)) <;> simp)
@[simp] theorem voidPart_digest (s : State) (i : Fin 8) (j : Fin 2) :
    (s.voidPart i j).window.digest = s.window.digest := by
  unfold State.voidPart; try dsimp only
  repeat' split
  all_goals try simp
  all_goals try (refine (foldl_digest ?_ _ _).trans ?_ <;> (repeat' (first | intro _ | split)) <;> simp)
@[simp] theorem voidPart_taking (s : State) (i : Fin 8) (j : Fin 2) :
    (s.voidPart i j).window.taking = s.window.taking := by
  unfold State.voidPart; try dsimp only
  repeat' split
  all_goals try simp
  all_goals try (refine (foldl_taking ?_ _ _).trans ?_ <;> (repeat' (first | intro _ | split)) <;> simp)
@[simp] theorem voidPart_frames_h (s : State) (i : Fin 8) (j : Fin 2) :
    (s.voidPart i j).frames.h = s.frames.h := by
  unfold State.voidPart; try dsimp only
  repeat' split
  all_goals try simp
  all_goals try (refine (foldl_frames_h ?_ _ _).trans ?_ <;> (repeat' (first | intro _ | split)) <;> simp)
@[simp] theorem voidPart_frames_channels (s : State) (i : Fin 8) (j : Fin 2) :
    (s.voidPart i j).frames.channels = s.frames.channels := by
  unfold State.voidPart; try dsimp only
  repeat' split
  all_goals try simp
  all_goals try (refine (foldl_frames_channels ?_ _ _).trans ?_ <;> (repeat' (first | intro _ | split)) <;> simp)
@[simp] theorem reportPart_digest (s : State) (i : Fin 8) (j : Fin 2) :
    (s.reportPart i j).window.digest = s.window.digest := by
  unfold State.reportPart; try dsimp only
  repeat' split
  all_goals try simp
  all_goals try (refine (foldl_digest ?_ _ _).trans ?_ <;> (repeat' (first | intro _ | split)) <;> simp)
@[simp] theorem reportPart_taking (s : State) (i : Fin 8) (j : Fin 2) :
    (s.reportPart i j).window.taking = s.window.taking := by
  unfold State.reportPart; try dsimp only
  repeat' split
  all_goals try simp
  all_goals try (refine (foldl_taking ?_ _ _).trans ?_ <;> (repeat' (first | intro _ | split)) <;> simp)
@[simp] theorem reportPart_frames_h (s : State) (i : Fin 8) (j : Fin 2) :
    (s.reportPart i j).frames.h = s.frames.h := by
  unfold State.reportPart; try dsimp only
  repeat' split
  all_goals try simp
  all_goals try (refine (foldl_frames_h ?_ _ _).trans ?_ <;> (repeat' (first | intro _ | split)) <;> simp)
@[simp] theorem reportPart_frames_channels (s : State) (i : Fin 8) (j : Fin 2) :
    (s.reportPart i j).frames.channels = s.frames.channels := by
  unfold State.reportPart; try dsimp only
  repeat' split
  all_goals try simp
  all_goals try (refine (foldl_frames_channels ?_ _ _).trans ?_ <;> (repeat' (first | intro _ | split)) <;> simp)
@[simp] theorem startLegTimers_digest (s : State) :
    (s.startLegTimers).window.digest = s.window.digest := by
  unfold State.startLegTimers; try dsimp only
  repeat' split
  all_goals try simp
  all_goals try (refine (foldl_digest ?_ _ _).trans ?_ <;> (repeat' (first | intro _ | split)) <;> simp)
@[simp] theorem startLegTimers_taking (s : State) :
    (s.startLegTimers).window.taking = s.window.taking := by
  unfold State.startLegTimers; try dsimp only
  repeat' split
  all_goals try simp
  all_goals try (refine (foldl_taking ?_ _ _).trans ?_ <;> (repeat' (first | intro _ | split)) <;> simp)
@[simp] theorem startLegTimers_frames_h (s : State) :
    (s.startLegTimers).frames.h = s.frames.h := by
  unfold State.startLegTimers; try dsimp only
  repeat' split
  all_goals try simp
  all_goals try (refine (foldl_frames_h ?_ _ _).trans ?_ <;> (repeat' (first | intro _ | split)) <;> simp)
@[simp] theorem startLegTimers_frames_channels (s : State) :
    (s.startLegTimers).frames.channels = s.frames.channels := by
  unfold State.startLegTimers; try dsimp only
  repeat' split
  all_goals try simp
  all_goals try (refine (foldl_frames_channels ?_ _ _).trans ?_ <;> (repeat' (first | intro _ | split)) <;> simp)
@[simp] theorem dropTurn_digest (s : State) :
    (s.dropTurn).window.digest = s.window.digest := by
  unfold State.dropTurn; try dsimp only
  repeat' split
  all_goals try simp
  all_goals try (refine (foldl_digest ?_ _ _).trans ?_ <;> (repeat' (first | intro _ | split)) <;> simp)
@[simp] theorem dropTurn_taking (s : State) :
    (s.dropTurn).window.taking = s.window.taking := by
  unfold State.dropTurn; try dsimp only
  repeat' split
  all_goals try simp
  all_goals try (refine (foldl_taking ?_ _ _).trans ?_ <;> (repeat' (first | intro _ | split)) <;> simp)
@[simp] theorem dropTurn_frames_h (s : State) :
    (s.dropTurn).frames.h = s.frames.h := by
  unfold State.dropTurn; try dsimp only
  repeat' split
  all_goals try simp
  all_goals try (refine (foldl_frames_h ?_ _ _).trans ?_ <;> (repeat' (first | intro _ | split)) <;> simp)
@[simp] theorem dropTurn_frames_channels (s : State) :
    (s.dropTurn).frames.channels = s.frames.channels := by
  unfold State.dropTurn; try dsimp only
  repeat' split
  all_goals try simp
  all_goals try (refine (foldl_frames_channels ?_ _ _).trans ?_ <;> (repeat' (first | intro _ | split)) <;> simp)
@[simp] theorem beginRecord_digest (s : State) :
    (s.beginRecord).window.digest = s.window.digest := by
  unfold State.beginRecord; try dsimp only
  repeat' split
  all_goals try simp
  all_goals try (refine (foldl_digest ?_ _ _).trans ?_ <;> (repeat' (first | intro _ | split)) <;> simp)
@[simp] theorem beginRecord_taking (s : State) :
    (s.beginRecord).window.taking = s.window.taking := by
  unfold State.beginRecord; try dsimp only
  repeat' split
  all_goals try simp
  all_goals try (refine (foldl_taking ?_ _ _).trans ?_ <;> (repeat' (first | intro _ | split)) <;> simp)
@[simp] theorem beginRecord_frames_h (s : State) :
    (s.beginRecord).frames.h = s.frames.h := by
  unfold State.beginRecord; try dsimp only
  repeat' split
  all_goals try simp
  all_goals try (refine (foldl_frames_h ?_ _ _).trans ?_ <;> (repeat' (first | intro _ | split)) <;> simp)
@[simp] theorem beginRecord_frames_channels (s : State) :
    (s.beginRecord).frames.channels = s.frames.channels := by
  unfold State.beginRecord; try dsimp only
  repeat' split
  all_goals try simp
  all_goals try (refine (foldl_frames_channels ?_ _ _).trans ?_ <;> (repeat' (first | intro _ | split)) <;> simp)
@[simp] theorem offerRecord_digest (s : State) (r : FrameRecord) :
    (s.offerRecord r).window.digest = s.window.digest := by
  unfold State.offerRecord; try dsimp only
  repeat' split
  all_goals try simp
  all_goals try (refine (foldl_digest ?_ _ _).trans ?_ <;> (repeat' (first | intro _ | split)) <;> simp)
@[simp] theorem offerRecord_taking (s : State) (r : FrameRecord) :
    (s.offerRecord r).window.taking = s.window.taking := by
  unfold State.offerRecord; try dsimp only
  repeat' split
  all_goals try simp
  all_goals try (refine (foldl_taking ?_ _ _).trans ?_ <;> (repeat' (first | intro _ | split)) <;> simp)
@[simp] theorem offerRecord_frames_h (s : State) (r : FrameRecord) :
    (s.offerRecord r).frames.h = s.frames.h := by
  unfold State.offerRecord; try dsimp only
  repeat' split
  all_goals try simp
  all_goals try (refine (foldl_frames_h ?_ _ _).trans ?_ <;> (repeat' (first | intro _ | split)) <;> simp)
@[simp] theorem offerRecord_frames_channels (s : State) (r : FrameRecord) :
    (s.offerRecord r).frames.channels = s.frames.channels := by
  unfold State.offerRecord; try dsimp only
  repeat' split
  all_goals try simp
  all_goals try (refine (foldl_frames_channels ?_ _ _).trans ?_ <;> (repeat' (first | intro _ | split)) <;> simp)
@[simp] theorem retireLeg_digest (s : State) (i : Fin 8) (j : Fin 2) :
    (s.retireLeg i j).window.digest = s.window.digest := by
  unfold State.retireLeg; try dsimp only
  repeat' split
  all_goals try simp
  all_goals try (refine (foldl_digest ?_ _ _).trans ?_ <;> (repeat' (first | intro _ | split)) <;> simp)
@[simp] theorem retireLeg_taking (s : State) (i : Fin 8) (j : Fin 2) :
    (s.retireLeg i j).window.taking = s.window.taking := by
  unfold State.retireLeg; try dsimp only
  repeat' split
  all_goals try simp
  all_goals try (refine (foldl_taking ?_ _ _).trans ?_ <;> (repeat' (first | intro _ | split)) <;> simp)
@[simp] theorem retireLeg_frames_h (s : State) (i : Fin 8) (j : Fin 2) :
    (s.retireLeg i j).frames.h = s.frames.h := by
  unfold State.retireLeg; try dsimp only
  repeat' split
  all_goals try simp
  all_goals try (refine (foldl_frames_h ?_ _ _).trans ?_ <;> (repeat' (first | intro _ | split)) <;> simp)
@[simp] theorem retireLeg_frames_channels (s : State) (i : Fin 8) (j : Fin 2) :
    (s.retireLeg i j).frames.channels = s.frames.channels := by
  unfold State.retireLeg; try dsimp only
  repeat' split
  all_goals try simp
  all_goals try (refine (foldl_frames_channels ?_ _ _).trans ?_ <;> (repeat' (first | intro _ | split)) <;> simp)
@[simp] theorem postLeg_digest (s : State) (i : Fin 8) (j : Fin 2) (poster : Option Station) :
    (s.postLeg i j poster).window.digest = s.window.digest := by
  unfold State.postLeg; try dsimp only
  repeat' split
  all_goals try simp
  all_goals try (refine (foldl_digest ?_ _ _).trans ?_ <;> (repeat' (first | intro _ | split)) <;> simp)
@[simp] theorem postLeg_taking (s : State) (i : Fin 8) (j : Fin 2) (poster : Option Station) :
    (s.postLeg i j poster).window.taking = s.window.taking := by
  unfold State.postLeg; try dsimp only
  repeat' split
  all_goals try simp
  all_goals try (refine (foldl_taking ?_ _ _).trans ?_ <;> (repeat' (first | intro _ | split)) <;> simp)
@[simp] theorem postLeg_frames_h (s : State) (i : Fin 8) (j : Fin 2) (poster : Option Station) :
    (s.postLeg i j poster).frames.h = s.frames.h := by
  unfold State.postLeg; try dsimp only
  repeat' split
  all_goals try simp
  all_goals try (refine (foldl_frames_h ?_ _ _).trans ?_ <;> (repeat' (first | intro _ | split)) <;> simp)
@[simp] theorem postLeg_frames_channels (s : State) (i : Fin 8) (j : Fin 2) (poster : Option Station) :
    (s.postLeg i j poster).frames.channels = s.frames.channels := by
  unfold State.postLeg; try dsimp only
  repeat' split
  all_goals try simp
  all_goals try (refine (foldl_frames_channels ?_ _ _).trans ?_ <;> (repeat' (first | intro _ | split)) <;> simp)
@[simp] theorem testLeg_digest (s : State) (i : Fin 8) (j : Fin 2) (poster : Option Station) (byRemoval : Bool) :
    (s.testLeg i j poster byRemoval).window.digest = s.window.digest := by
  unfold State.testLeg; try dsimp only
  repeat' split
  all_goals try simp
  all_goals try (refine (foldl_digest ?_ _ _).trans ?_ <;> (repeat' (first | intro _ | split)) <;> simp)
@[simp] theorem testLeg_taking (s : State) (i : Fin 8) (j : Fin 2) (poster : Option Station) (byRemoval : Bool) :
    (s.testLeg i j poster byRemoval).window.taking = s.window.taking := by
  unfold State.testLeg; try dsimp only
  repeat' split
  all_goals try simp
  all_goals try (refine (foldl_taking ?_ _ _).trans ?_ <;> (repeat' (first | intro _ | split)) <;> simp)
@[simp] theorem testLeg_frames_h (s : State) (i : Fin 8) (j : Fin 2) (poster : Option Station) (byRemoval : Bool) :
    (s.testLeg i j poster byRemoval).frames.h = s.frames.h := by
  unfold State.testLeg; try dsimp only
  repeat' split
  all_goals try simp
  all_goals try (refine (foldl_frames_h ?_ _ _).trans ?_ <;> (repeat' (first | intro _ | split)) <;> simp)
@[simp] theorem testLeg_frames_channels (s : State) (i : Fin 8) (j : Fin 2) (poster : Option Station) (byRemoval : Bool) :
    (s.testLeg i j poster byRemoval).frames.channels = s.frames.channels := by
  unfold State.testLeg; try dsimp only
  repeat' split
  all_goals try simp
  all_goals try (refine (foldl_frames_channels ?_ _ _).trans ?_ <;> (repeat' (first | intro _ | split)) <;> simp)
@[simp] theorem removeFromLegs_digest (s : State) (p : Station) (poster : Option Station) :
    (s.removeFromLegs p poster).window.digest = s.window.digest := by
  unfold State.removeFromLegs; try dsimp only
  repeat' split
  all_goals try simp
  all_goals try (refine (foldl_digest ?_ _ _).trans ?_ <;> (repeat' (first | intro _ | split)) <;> simp)
@[simp] theorem removeFromLegs_taking (s : State) (p : Station) (poster : Option Station) :
    (s.removeFromLegs p poster).window.taking = s.window.taking := by
  unfold State.removeFromLegs; try dsimp only
  repeat' split
  all_goals try simp
  all_goals try (refine (foldl_taking ?_ _ _).trans ?_ <;> (repeat' (first | intro _ | split)) <;> simp)
@[simp] theorem removeFromLegs_frames_h (s : State) (p : Station) (poster : Option Station) :
    (s.removeFromLegs p poster).frames.h = s.frames.h := by
  unfold State.removeFromLegs; try dsimp only
  repeat' split
  all_goals try simp
  all_goals try (refine (foldl_frames_h ?_ _ _).trans ?_ <;> (repeat' (first | intro _ | split)) <;> simp)
@[simp] theorem removeFromLegs_frames_channels (s : State) (p : Station) (poster : Option Station) :
    (s.removeFromLegs p poster).frames.channels = s.frames.channels := by
  unfold State.removeFromLegs; try dsimp only
  repeat' split
  all_goals try simp
  all_goals try (refine (foldl_frames_channels ?_ _ _).trans ?_ <;> (repeat' (first | intro _ | split)) <;> simp)
@[simp] theorem dropHeadRecord_digest (s : State) :
    (s.dropHeadRecord).window.digest = s.window.digest := by
  unfold State.dropHeadRecord; try dsimp only
  repeat' split
  all_goals try simp
  all_goals try (refine (foldl_digest ?_ _ _).trans ?_ <;> (repeat' (first | intro _ | split)) <;> simp)
@[simp] theorem dropHeadRecord_taking (s : State) :
    (s.dropHeadRecord).window.taking = s.window.taking := by
  unfold State.dropHeadRecord; try dsimp only
  repeat' split
  all_goals try simp
  all_goals try (refine (foldl_taking ?_ _ _).trans ?_ <;> (repeat' (first | intro _ | split)) <;> simp)
@[simp] theorem dropHeadRecord_frames_h (s : State) :
    (s.dropHeadRecord).frames.h = s.frames.h := by
  unfold State.dropHeadRecord; try dsimp only
  repeat' split
  all_goals try simp
  all_goals try (refine (foldl_frames_h ?_ _ _).trans ?_ <;> (repeat' (first | intro _ | split)) <;> simp)
@[simp] theorem dropHeadRecord_frames_channels (s : State) :
    (s.dropHeadRecord).frames.channels = s.frames.channels := by
  unfold State.dropHeadRecord; try dsimp only
  repeat' split
  all_goals try simp
  all_goals try (refine (foldl_frames_channels ?_ _ _).trans ?_ <;> (repeat' (first | intro _ | split)) <;> simp)
@[simp] theorem emptyRecords_digest (s : State) :
    (s.emptyRecords).window.digest = s.window.digest := by
  unfold State.emptyRecords; try dsimp only
  repeat' split
  all_goals try simp
  all_goals try (refine (foldl_digest ?_ _ _).trans ?_ <;> (repeat' (first | intro _ | split)) <;> simp)
@[simp] theorem emptyRecords_taking (s : State) :
    (s.emptyRecords).window.taking = s.window.taking := by
  unfold State.emptyRecords; try dsimp only
  repeat' split
  all_goals try simp
  all_goals try (refine (foldl_taking ?_ _ _).trans ?_ <;> (repeat' (first | intro _ | split)) <;> simp)
@[simp] theorem emptyRecords_frames_h (s : State) :
    (s.emptyRecords).frames.h = s.frames.h := by
  unfold State.emptyRecords; try dsimp only
  repeat' split
  all_goals try simp
  all_goals try (refine (foldl_frames_h ?_ _ _).trans ?_ <;> (repeat' (first | intro _ | split)) <;> simp)
@[simp] theorem emptyRecords_frames_channels (s : State) :
    (s.emptyRecords).frames.channels = s.frames.channels := by
  unfold State.emptyRecords; try dsimp only
  repeat' split
  all_goals try simp
  all_goals try (refine (foldl_frames_channels ?_ _ _).trans ?_ <;> (repeat' (first | intro _ | split)) <;> simp)
@[simp] theorem applyDone_digest (s : State) (sender : Station) (frame : BitVec 16) (stream : Fin 2) (delivered : Bool) (gapRows : BitVec 17) :
    (s.applyDone sender frame stream delivered gapRows).window.digest = s.window.digest := by
  unfold State.applyDone; try dsimp only
  repeat' split
  all_goals try simp
  all_goals try (refine (foldl_digest ?_ _ _).trans ?_ <;> (repeat' (first | intro _ | split)) <;> simp)
@[simp] theorem applyDone_taking (s : State) (sender : Station) (frame : BitVec 16) (stream : Fin 2) (delivered : Bool) (gapRows : BitVec 17) :
    (s.applyDone sender frame stream delivered gapRows).window.taking = s.window.taking := by
  unfold State.applyDone; try dsimp only
  repeat' split
  all_goals try simp
  all_goals try (refine (foldl_taking ?_ _ _).trans ?_ <;> (repeat' (first | intro _ | split)) <;> simp)
@[simp] theorem applyDone_frames_h (s : State) (sender : Station) (frame : BitVec 16) (stream : Fin 2) (delivered : Bool) (gapRows : BitVec 17) :
    (s.applyDone sender frame stream delivered gapRows).frames.h = s.frames.h := by
  unfold State.applyDone; try dsimp only
  repeat' split
  all_goals try simp
  all_goals try (refine (foldl_frames_h ?_ _ _).trans ?_ <;> (repeat' (first | intro _ | split)) <;> simp)
@[simp] theorem applyDone_frames_channels (s : State) (sender : Station) (frame : BitVec 16) (stream : Fin 2) (delivered : Bool) (gapRows : BitVec 17) :
    (s.applyDone sender frame stream delivered gapRows).frames.channels = s.frames.channels := by
  unfold State.applyDone; try dsimp only
  repeat' split
  all_goals try simp
  all_goals try (refine (foldl_frames_channels ?_ _ _).trans ?_ <;> (repeat' (first | intro _ | split)) <;> simp)
@[simp] theorem setLines_digest (s : State) (t : Tap) (lines : List Line) :
    (s.setLines t lines).window.digest = s.window.digest := by
  unfold State.setLines; try dsimp only
  repeat' split
  all_goals try simp
  all_goals try (refine (foldl_digest ?_ _ _).trans ?_ <;> (repeat' (first | intro _ | split)) <;> simp)
@[simp] theorem setLines_taking (s : State) (t : Tap) (lines : List Line) :
    (s.setLines t lines).window.taking = s.window.taking := by
  unfold State.setLines; try dsimp only
  repeat' split
  all_goals try simp
  all_goals try (refine (foldl_taking ?_ _ _).trans ?_ <;> (repeat' (first | intro _ | split)) <;> simp)
@[simp] theorem setLines_frames_h (s : State) (t : Tap) (lines : List Line) :
    (s.setLines t lines).frames.h = s.frames.h := by
  unfold State.setLines; try dsimp only
  repeat' split
  all_goals try simp
  all_goals try (refine (foldl_frames_h ?_ _ _).trans ?_ <;> (repeat' (first | intro _ | split)) <;> simp)
@[simp] theorem setLines_frames_channels (s : State) (t : Tap) (lines : List Line) :
    (s.setLines t lines).frames.channels = s.frames.channels := by
  unfold State.setLines; try dsimp only
  repeat' split
  all_goals try simp
  all_goals try (refine (foldl_frames_channels ?_ _ _).trans ?_ <;> (repeat' (first | intro _ | split)) <;> simp)
@[simp] theorem setWaiting_digest (s : State) (t : Tap) (b : Bool) :
    (s.setWaiting t b).window.digest = s.window.digest := by
  unfold State.setWaiting; try dsimp only
  repeat' split
  all_goals try simp
  all_goals try (refine (foldl_digest ?_ _ _).trans ?_ <;> (repeat' (first | intro _ | split)) <;> simp)
@[simp] theorem setWaiting_taking (s : State) (t : Tap) (b : Bool) :
    (s.setWaiting t b).window.taking = s.window.taking := by
  unfold State.setWaiting; try dsimp only
  repeat' split
  all_goals try simp
  all_goals try (refine (foldl_taking ?_ _ _).trans ?_ <;> (repeat' (first | intro _ | split)) <;> simp)
@[simp] theorem setWaiting_frames_h (s : State) (t : Tap) (b : Bool) :
    (s.setWaiting t b).frames.h = s.frames.h := by
  unfold State.setWaiting; try dsimp only
  repeat' split
  all_goals try simp
  all_goals try (refine (foldl_frames_h ?_ _ _).trans ?_ <;> (repeat' (first | intro _ | split)) <;> simp)
@[simp] theorem setWaiting_frames_channels (s : State) (t : Tap) (b : Bool) :
    (s.setWaiting t b).frames.channels = s.frames.channels := by
  unfold State.setWaiting; try dsimp only
  repeat' split
  all_goals try simp
  all_goals try (refine (foldl_frames_channels ?_ _ _).trans ?_ <;> (repeat' (first | intro _ | split)) <;> simp)
@[simp] theorem judgeWait_digest (s : State) (t : Tap) :
    (s.judgeWait t).window.digest = s.window.digest := by
  unfold State.judgeWait; try dsimp only
  repeat' split
  all_goals try simp
  all_goals try (refine (foldl_digest ?_ _ _).trans ?_ <;> (repeat' (first | intro _ | split)) <;> simp)
@[simp] theorem discardHeads_digest (t : Tap) (l : List Line) (s : State) :
    (State.discardHeads t l s).window.digest = s.window.digest := by
  induction l generalizing s with
  | nil => rfl
  | cons a l ih => unfold State.discardHeads; split <;> simp [ih]

@[simp] theorem judgeWait_taking (s : State) (t : Tap) :
    (s.judgeWait t).window.taking = s.window.taking := by
  unfold State.judgeWait; try dsimp only
  repeat' split
  all_goals try simp
  all_goals try (refine (foldl_taking ?_ _ _).trans ?_ <;> (repeat' (first | intro _ | split)) <;> simp)
@[simp] theorem discardHeads_taking (t : Tap) (l : List Line) (s : State) :
    (State.discardHeads t l s).window.taking = s.window.taking := by
  induction l generalizing s with
  | nil => rfl
  | cons a l ih => unfold State.discardHeads; split <;> simp [ih]

@[simp] theorem judgeWait_frames_h (s : State) (t : Tap) :
    (s.judgeWait t).frames.h = s.frames.h := by
  unfold State.judgeWait; try dsimp only
  repeat' split
  all_goals try simp
  all_goals try (refine (foldl_frames_h ?_ _ _).trans ?_ <;> (repeat' (first | intro _ | split)) <;> simp)
@[simp] theorem discardHeads_frames_h (t : Tap) (l : List Line) (s : State) :
    (State.discardHeads t l s).frames.h = s.frames.h := by
  induction l generalizing s with
  | nil => rfl
  | cons a l ih => unfold State.discardHeads; split <;> simp [ih]

@[simp] theorem judgeWait_frames_channels (s : State) (t : Tap) :
    (s.judgeWait t).frames.channels = s.frames.channels := by
  unfold State.judgeWait; try dsimp only
  repeat' split
  all_goals try simp
  all_goals try (refine (foldl_frames_channels ?_ _ _).trans ?_ <;> (repeat' (first | intro _ | split)) <;> simp)
@[simp] theorem discardHeads_frames_channels (t : Tap) (l : List Line) (s : State) :
    (State.discardHeads t l s).frames.channels = s.frames.channels := by
  induction l generalizing s with
  | nil => rfl
  | cons a l ih => unfold State.discardHeads; split <;> simp [ih]

@[simp] theorem tapDone_digest (s : State) (t : Tap) (k : Nat) :
    (s.tapDone t k).window.digest = s.window.digest := by
  unfold State.tapDone; try dsimp only
  repeat' split
  all_goals try simp
  all_goals try (refine (foldl_digest ?_ _ _).trans ?_ <;> (repeat' (first | intro _ | split)) <;> simp)
@[simp] theorem tapDone_taking (s : State) (t : Tap) (k : Nat) :
    (s.tapDone t k).window.taking = s.window.taking := by
  unfold State.tapDone; try dsimp only
  repeat' split
  all_goals try simp
  all_goals try (refine (foldl_taking ?_ _ _).trans ?_ <;> (repeat' (first | intro _ | split)) <;> simp)
@[simp] theorem tapDone_frames_h (s : State) (t : Tap) (k : Nat) :
    (s.tapDone t k).frames.h = s.frames.h := by
  unfold State.tapDone; try dsimp only
  repeat' split
  all_goals try simp
  all_goals try (refine (foldl_frames_h ?_ _ _).trans ?_ <;> (repeat' (first | intro _ | split)) <;> simp)
@[simp] theorem tapDone_frames_channels (s : State) (t : Tap) (k : Nat) :
    (s.tapDone t k).frames.channels = s.frames.channels := by
  unfold State.tapDone; try dsimp only
  repeat' split
  all_goals try simp
  all_goals try (refine (foldl_frames_channels ?_ _ _).trans ?_ <;> (repeat' (first | intro _ | split)) <;> simp)
@[simp] theorem finishMarked_digest (s : State) (t : Tap) :
    (s.finishMarked t).window.digest = s.window.digest := by
  unfold State.finishMarked; try dsimp only
  repeat' split
  all_goals try simp
  all_goals try (refine (foldl_digest ?_ _ _).trans ?_ <;> (repeat' (first | intro _ | split)) <;> simp)
@[simp] theorem finishMarked_taking (s : State) (t : Tap) :
    (s.finishMarked t).window.taking = s.window.taking := by
  unfold State.finishMarked; try dsimp only
  repeat' split
  all_goals try simp
  all_goals try (refine (foldl_taking ?_ _ _).trans ?_ <;> (repeat' (first | intro _ | split)) <;> simp)
@[simp] theorem finishMarked_frames_h (s : State) (t : Tap) :
    (s.finishMarked t).frames.h = s.frames.h := by
  unfold State.finishMarked; try dsimp only
  repeat' split
  all_goals try simp
  all_goals try (refine (foldl_frames_h ?_ _ _).trans ?_ <;> (repeat' (first | intro _ | split)) <;> simp)
@[simp] theorem finishMarked_frames_channels (s : State) (t : Tap) :
    (s.finishMarked t).frames.channels = s.frames.channels := by
  unfold State.finishMarked; try dsimp only
  repeat' split
  all_goals try simp
  all_goals try (refine (foldl_frames_channels ?_ _ _).trans ?_ <;> (repeat' (first | intro _ | split)) <;> simp)
@[simp] theorem startFlushes_digest (s : State) :
    (s.startFlushes).window.digest = s.window.digest := by
  unfold State.startFlushes; try dsimp only
  repeat' split
  all_goals try simp
  all_goals try (refine (foldl_digest ?_ _ _).trans ?_ <;> (repeat' (first | intro _ | split)) <;> simp)
@[simp] theorem startFlushes_taking (s : State) :
    (s.startFlushes).window.taking = s.window.taking := by
  unfold State.startFlushes; try dsimp only
  repeat' split
  all_goals try simp
  all_goals try (refine (foldl_taking ?_ _ _).trans ?_ <;> (repeat' (first | intro _ | split)) <;> simp)
@[simp] theorem startFlushes_frames_h (s : State) :
    (s.startFlushes).frames.h = s.frames.h := by
  unfold State.startFlushes; try dsimp only
  repeat' split
  all_goals try simp
  all_goals try (refine (foldl_frames_h ?_ _ _).trans ?_ <;> (repeat' (first | intro _ | split)) <;> simp)
@[simp] theorem startFlushes_frames_channels (s : State) :
    (s.startFlushes).frames.channels = s.frames.channels := by
  unfold State.startFlushes; try dsimp only
  repeat' split
  all_goals try simp
  all_goals try (refine (foldl_frames_channels ?_ _ _).trans ?_ <;> (repeat' (first | intro _ | split)) <;> simp)
@[simp] theorem endCheck_digest (s : State) (t : Tap) :
    (s.endCheck t).window.digest = s.window.digest := by
  unfold State.endCheck; try dsimp only
  repeat' split
  all_goals try simp
  all_goals try (refine (foldl_digest ?_ _ _).trans ?_ <;> (repeat' (first | intro _ | split)) <;> simp)
@[simp] theorem endCheck_taking (s : State) (t : Tap) :
    (s.endCheck t).window.taking = s.window.taking := by
  unfold State.endCheck; try dsimp only
  repeat' split
  all_goals try simp
  all_goals try (refine (foldl_taking ?_ _ _).trans ?_ <;> (repeat' (first | intro _ | split)) <;> simp)
@[simp] theorem endCheck_frames_h (s : State) (t : Tap) :
    (s.endCheck t).frames.h = s.frames.h := by
  unfold State.endCheck; try dsimp only
  repeat' split
  all_goals try simp
  all_goals try (refine (foldl_frames_h ?_ _ _).trans ?_ <;> (repeat' (first | intro _ | split)) <;> simp)
@[simp] theorem endCheck_frames_channels (s : State) (t : Tap) :
    (s.endCheck t).frames.channels = s.frames.channels := by
  unfold State.endCheck; try dsimp only
  repeat' split
  all_goals try simp
  all_goals try (refine (foldl_frames_channels ?_ _ _).trans ?_ <;> (repeat' (first | intro _ | split)) <;> simp)
@[simp] theorem endChecks_digest (s : State) :
    (s.endChecks).window.digest = s.window.digest := by
  unfold State.endChecks; try dsimp only
  repeat' split
  all_goals try simp
  all_goals try (refine (foldl_digest ?_ _ _).trans ?_ <;> (repeat' (first | intro _ | split)) <;> simp)
@[simp] theorem endChecks_taking (s : State) :
    (s.endChecks).window.taking = s.window.taking := by
  unfold State.endChecks; try dsimp only
  repeat' split
  all_goals try simp
  all_goals try (refine (foldl_taking ?_ _ _).trans ?_ <;> (repeat' (first | intro _ | split)) <;> simp)
@[simp] theorem endChecks_frames_h (s : State) :
    (s.endChecks).frames.h = s.frames.h := by
  unfold State.endChecks; try dsimp only
  repeat' split
  all_goals try simp
  all_goals try (refine (foldl_frames_h ?_ _ _).trans ?_ <;> (repeat' (first | intro _ | split)) <;> simp)
@[simp] theorem endChecks_frames_channels (s : State) :
    (s.endChecks).frames.channels = s.frames.channels := by
  unfold State.endChecks; try dsimp only
  repeat' split
  all_goals try simp
  all_goals try (refine (foldl_frames_channels ?_ _ _).trans ?_ <;> (repeat' (first | intro _ | split)) <;> simp)
@[simp] theorem settleTap_digest (s : State) (t : Tap) :
    (s.settleTap t).window.digest = s.window.digest := by
  unfold State.settleTap; try dsimp only
  repeat' split
  all_goals try simp
  all_goals try (refine (foldl_digest ?_ _ _).trans ?_ <;> (repeat' (first | intro _ | split)) <;> simp)
@[simp] theorem settleTap_taking (s : State) (t : Tap) :
    (s.settleTap t).window.taking = s.window.taking := by
  unfold State.settleTap; try dsimp only
  repeat' split
  all_goals try simp
  all_goals try (refine (foldl_taking ?_ _ _).trans ?_ <;> (repeat' (first | intro _ | split)) <;> simp)
@[simp] theorem settleTap_frames_h (s : State) (t : Tap) :
    (s.settleTap t).frames.h = s.frames.h := by
  unfold State.settleTap; try dsimp only
  repeat' split
  all_goals try simp
  all_goals try (refine (foldl_frames_h ?_ _ _).trans ?_ <;> (repeat' (first | intro _ | split)) <;> simp)
@[simp] theorem settleTap_frames_channels (s : State) (t : Tap) :
    (s.settleTap t).frames.channels = s.frames.channels := by
  unfold State.settleTap; try dsimp only
  repeat' split
  all_goals try simp
  all_goals try (refine (foldl_frames_channels ?_ _ _).trans ?_ <;> (repeat' (first | intro _ | split)) <;> simp)
@[simp] theorem settle_digest (s : State) :
    (s.settle).window.digest = s.window.digest := by
  unfold State.settle; try dsimp only
  repeat' split
  all_goals try simp
  all_goals try (refine (foldl_digest ?_ _ _).trans ?_ <;> (repeat' (first | intro _ | split)) <;> simp)
@[simp] theorem settle_taking (s : State) :
    (s.settle).window.taking = s.window.taking := by
  unfold State.settle; try dsimp only
  repeat' split
  all_goals try simp
  all_goals try (refine (foldl_taking ?_ _ _).trans ?_ <;> (repeat' (first | intro _ | split)) <;> simp)
@[simp] theorem settle_frames_h (s : State) :
    (s.settle).frames.h = s.frames.h := by
  unfold State.settle; try dsimp only
  repeat' split
  all_goals try simp
  all_goals try (refine (foldl_frames_h ?_ _ _).trans ?_ <;> (repeat' (first | intro _ | split)) <;> simp)
@[simp] theorem settle_frames_channels (s : State) :
    (s.settle).frames.channels = s.frames.channels := by
  unfold State.settle; try dsimp only
  repeat' split
  all_goals try simp
  all_goals try (refine (foldl_frames_channels ?_ _ _).trans ?_ <;> (repeat' (first | intro _ | split)) <;> simp)
@[simp] theorem setTurn_digest (s : State) (tu : Option Turn) :
    (s.setTurn tu).window.digest = s.window.digest := by
  unfold State.setTurn; try dsimp only
  repeat' split
  all_goals try simp
  all_goals try (refine (foldl_digest ?_ _ _).trans ?_ <;> (repeat' (first | intro _ | split)) <;> simp)
@[simp] theorem setTurn_taking (s : State) (tu : Option Turn) :
    (s.setTurn tu).window.taking = s.window.taking := by
  unfold State.setTurn; try dsimp only
  repeat' split
  all_goals try simp
  all_goals try (refine (foldl_taking ?_ _ _).trans ?_ <;> (repeat' (first | intro _ | split)) <;> simp)
@[simp] theorem setTurn_frames_h (s : State) (tu : Option Turn) :
    (s.setTurn tu).frames.h = s.frames.h := by
  unfold State.setTurn; try dsimp only
  repeat' split
  all_goals try simp
  all_goals try (refine (foldl_frames_h ?_ _ _).trans ?_ <;> (repeat' (first | intro _ | split)) <;> simp)
@[simp] theorem setTurn_frames_channels (s : State) (tu : Option Turn) :
    (s.setTurn tu).frames.channels = s.frames.channels := by
  unfold State.setTurn; try dsimp only
  repeat' split
  all_goals try simp
  all_goals try (refine (foldl_frames_channels ?_ _ _).trans ?_ <;> (repeat' (first | intro _ | split)) <;> simp)
@[simp] theorem setHandled_digest (s : State) (t : Tap) (n : Nat) :
    (s.setHandled t n).window.digest = s.window.digest := by
  unfold State.setHandled; try dsimp only
  repeat' split
  all_goals try simp
  all_goals try (refine (foldl_digest ?_ _ _).trans ?_ <;> (repeat' (first | intro _ | split)) <;> simp)
@[simp] theorem setHandled_taking (s : State) (t : Tap) (n : Nat) :
    (s.setHandled t n).window.taking = s.window.taking := by
  unfold State.setHandled; try dsimp only
  repeat' split
  all_goals try simp
  all_goals try (refine (foldl_taking ?_ _ _).trans ?_ <;> (repeat' (first | intro _ | split)) <;> simp)
@[simp] theorem setHandled_frames_h (s : State) (t : Tap) (n : Nat) :
    (s.setHandled t n).frames.h = s.frames.h := by
  unfold State.setHandled; try dsimp only
  repeat' split
  all_goals try simp
  all_goals try (refine (foldl_frames_h ?_ _ _).trans ?_ <;> (repeat' (first | intro _ | split)) <;> simp)
@[simp] theorem setHandled_frames_channels (s : State) (t : Tap) (n : Nat) :
    (s.setHandled t n).frames.channels = s.frames.channels := by
  unfold State.setHandled; try dsimp only
  repeat' split
  all_goals try simp
  all_goals try (refine (foldl_frames_channels ?_ _ _).trans ?_ <;> (repeat' (first | intro _ | split)) <;> simp)
@[simp] theorem rowFilled_digest (s : State) (t : Tap) (r : Nat) :
    (s.rowFilled t r).window.digest = s.window.digest := by
  unfold State.rowFilled; try dsimp only
  repeat' split
  all_goals try simp
  all_goals try (refine (foldl_digest ?_ _ _).trans ?_ <;> (repeat' (first | intro _ | split)) <;> simp)
@[simp] theorem rowFilled_taking (s : State) (t : Tap) (r : Nat) :
    (s.rowFilled t r).window.taking = s.window.taking := by
  unfold State.rowFilled; try dsimp only
  repeat' split
  all_goals try simp
  all_goals try (refine (foldl_taking ?_ _ _).trans ?_ <;> (repeat' (first | intro _ | split)) <;> simp)
@[simp] theorem rowFilled_frames_h (s : State) (t : Tap) (r : Nat) :
    (s.rowFilled t r).frames.h = s.frames.h := by
  unfold State.rowFilled; try dsimp only
  repeat' split
  all_goals try simp
  all_goals try (refine (foldl_frames_h ?_ _ _).trans ?_ <;> (repeat' (first | intro _ | split)) <;> simp)
@[simp] theorem rowFilled_frames_channels (s : State) (t : Tap) (r : Nat) :
    (s.rowFilled t r).frames.channels = s.frames.channels := by
  unfold State.rowFilled; try dsimp only
  repeat' split
  all_goals try simp
  all_goals try (refine (foldl_frames_channels ?_ _ _).trans ?_ <;> (repeat' (first | intro _ | split)) <;> simp)
@[simp] theorem startTurn_digest (s : State) (t : Tap) :
    (s.startTurn t).window.digest = s.window.digest := by
  unfold State.startTurn; try dsimp only
  repeat' split
  all_goals try simp
  all_goals try (refine (foldl_digest ?_ _ _).trans ?_ <;> (repeat' (first | intro _ | split)) <;> simp)
@[simp] theorem startTurn_taking (s : State) (t : Tap) :
    (s.startTurn t).window.taking = s.window.taking := by
  unfold State.startTurn; try dsimp only
  repeat' split
  all_goals try simp
  all_goals try (refine (foldl_taking ?_ _ _).trans ?_ <;> (repeat' (first | intro _ | split)) <;> simp)
@[simp] theorem startTurn_frames_h (s : State) (t : Tap) :
    (s.startTurn t).frames.h = s.frames.h := by
  unfold State.startTurn; try dsimp only
  repeat' split
  all_goals try simp
  all_goals try (refine (foldl_frames_h ?_ _ _).trans ?_ <;> (repeat' (first | intro _ | split)) <;> simp)
@[simp] theorem startTurn_frames_channels (s : State) (t : Tap) :
    (s.startTurn t).frames.channels = s.frames.channels := by
  unfold State.startTurn; try dsimp only
  repeat' split
  all_goals try simp
  all_goals try (refine (foldl_frames_channels ?_ _ _).trans ?_ <;> (repeat' (first | intro _ | split)) <;> simp)
@[simp] theorem endTurn_digest (s : State) (tu : Turn) :
    (s.endTurn tu).window.digest = s.window.digest := by
  unfold State.endTurn; try dsimp only
  repeat' split
  all_goals try simp
  all_goals try (refine (foldl_digest ?_ _ _).trans ?_ <;> (repeat' (first | intro _ | split)) <;> simp)
@[simp] theorem endTurn_taking (s : State) (tu : Turn) :
    (s.endTurn tu).window.taking = s.window.taking := by
  unfold State.endTurn; try dsimp only
  repeat' split
  all_goals try simp
  all_goals try (refine (foldl_taking ?_ _ _).trans ?_ <;> (repeat' (first | intro _ | split)) <;> simp)
@[simp] theorem endTurn_frames_h (s : State) (tu : Turn) :
    (s.endTurn tu).frames.h = s.frames.h := by
  unfold State.endTurn; try dsimp only
  repeat' split
  all_goals try simp
  all_goals try (refine (foldl_frames_h ?_ _ _).trans ?_ <;> (repeat' (first | intro _ | split)) <;> simp)
@[simp] theorem endTurn_frames_channels (s : State) (tu : Turn) :
    (s.endTurn tu).frames.channels = s.frames.channels := by
  unfold State.endTurn; try dsimp only
  repeat' split
  all_goals try simp
  all_goals try (refine (foldl_frames_channels ?_ _ _).trans ?_ <;> (repeat' (first | intro _ | split)) <;> simp)
@[simp] theorem storeRow_digest (s : State) (t : Tap) (l : Line) :
    (s.storeRow t l).window.digest = s.window.digest := by
  unfold State.storeRow; try dsimp only
  repeat' split
  all_goals try simp
  all_goals try (refine (foldl_digest ?_ _ _).trans ?_ <;> (repeat' (first | intro _ | split)) <;> simp)
@[simp] theorem storeRow_taking (s : State) (t : Tap) (l : Line) :
    (s.storeRow t l).window.taking = s.window.taking := by
  unfold State.storeRow; try dsimp only
  repeat' split
  all_goals try simp
  all_goals try (refine (foldl_taking ?_ _ _).trans ?_ <;> (repeat' (first | intro _ | split)) <;> simp)
@[simp] theorem storeRow_frames_h (s : State) (t : Tap) (l : Line) :
    (s.storeRow t l).frames.h = s.frames.h := by
  unfold State.storeRow; try dsimp only
  repeat' split
  all_goals try simp
  all_goals try (refine (foldl_frames_h ?_ _ _).trans ?_ <;> (repeat' (first | intro _ | split)) <;> simp)
@[simp] theorem storeRow_frames_channels (s : State) (t : Tap) (l : Line) :
    (s.storeRow t l).frames.channels = s.frames.channels := by
  unfold State.storeRow; try dsimp only
  repeat' split
  all_goals try simp
  all_goals try (refine (foldl_frames_channels ?_ _ _).trans ?_ <;> (repeat' (first | intro _ | split)) <;> simp)
@[simp] theorem lineWritten_digest (s : State) (t : Tap) (l : Line) (i : Fin 8) (j : Fin 2) :
    (s.lineWritten t l i j).window.digest = s.window.digest := by
  unfold State.lineWritten; try dsimp only
  repeat' split
  all_goals try simp
  all_goals try (refine (foldl_digest ?_ _ _).trans ?_ <;> (repeat' (first | intro _ | split)) <;> simp)
@[simp] theorem lineWritten_taking (s : State) (t : Tap) (l : Line) (i : Fin 8) (j : Fin 2) :
    (s.lineWritten t l i j).window.taking = s.window.taking := by
  unfold State.lineWritten; try dsimp only
  repeat' split
  all_goals try simp
  all_goals try (refine (foldl_taking ?_ _ _).trans ?_ <;> (repeat' (first | intro _ | split)) <;> simp)
@[simp] theorem lineWritten_frames_h (s : State) (t : Tap) (l : Line) (i : Fin 8) (j : Fin 2) :
    (s.lineWritten t l i j).frames.h = s.frames.h := by
  unfold State.lineWritten; try dsimp only
  repeat' split
  all_goals try simp
  all_goals try (refine (foldl_frames_h ?_ _ _).trans ?_ <;> (repeat' (first | intro _ | split)) <;> simp)
@[simp] theorem lineWritten_frames_channels (s : State) (t : Tap) (l : Line) (i : Fin 8) (j : Fin 2) :
    (s.lineWritten t l i j).frames.channels = s.frames.channels := by
  unfold State.lineWritten; try dsimp only
  repeat' split
  all_goals try simp
  all_goals try (refine (foldl_frames_channels ?_ _ _).trans ?_ <;> (repeat' (first | intro _ | split)) <;> simp)
@[simp] theorem issueFlush_digest (s : State) :
    (s.issueFlush).window.digest = s.window.digest := by
  unfold State.issueFlush; try dsimp only
  repeat' split
  all_goals try simp
  all_goals try (refine (foldl_digest ?_ _ _).trans ?_ <;> (repeat' (first | intro _ | split)) <;> simp)
@[simp] theorem issueFlush_taking (s : State) :
    (s.issueFlush).window.taking = s.window.taking := by
  unfold State.issueFlush; try dsimp only
  repeat' split
  all_goals try simp
  all_goals try (refine (foldl_taking ?_ _ _).trans ?_ <;> (repeat' (first | intro _ | split)) <;> simp)
@[simp] theorem issueFlush_frames_h (s : State) :
    (s.issueFlush).frames.h = s.frames.h := by
  unfold State.issueFlush; try dsimp only
  repeat' split
  all_goals try simp
  all_goals try (refine (foldl_frames_h ?_ _ _).trans ?_ <;> (repeat' (first | intro _ | split)) <;> simp)
@[simp] theorem issueFlush_frames_channels (s : State) :
    (s.issueFlush).frames.channels = s.frames.channels := by
  unfold State.issueFlush; try dsimp only
  repeat' split
  all_goals try simp
  all_goals try (refine (foldl_frames_channels ?_ _ _).trans ?_ <;> (repeat' (first | intro _ | split)) <;> simp)
@[simp] theorem issueMessage_digest (s : State) (address : Nat) (data : Word) :
    (s.issueMessage address data).window.digest = s.window.digest := by
  unfold State.issueMessage; try dsimp only
  repeat' split
  all_goals try simp
  all_goals try (refine (foldl_digest ?_ _ _).trans ?_ <;> (repeat' (first | intro _ | split)) <;> simp)
@[simp] theorem issueMessage_taking (s : State) (address : Nat) (data : Word) :
    (s.issueMessage address data).window.taking = s.window.taking := by
  unfold State.issueMessage; try dsimp only
  repeat' split
  all_goals try simp
  all_goals try (refine (foldl_taking ?_ _ _).trans ?_ <;> (repeat' (first | intro _ | split)) <;> simp)
@[simp] theorem issueMessage_frames_h (s : State) (address : Nat) (data : Word) :
    (s.issueMessage address data).frames.h = s.frames.h := by
  unfold State.issueMessage; try dsimp only
  repeat' split
  all_goals try simp
  all_goals try (refine (foldl_frames_h ?_ _ _).trans ?_ <;> (repeat' (first | intro _ | split)) <;> simp)
@[simp] theorem issueMessage_frames_channels (s : State) (address : Nat) (data : Word) :
    (s.issueMessage address data).frames.channels = s.frames.channels := by
  unfold State.issueMessage; try dsimp only
  repeat' split
  all_goals try simp
  all_goals try (refine (foldl_frames_channels ?_ _ _).trans ?_ <;> (repeat' (first | intro _ | split)) <;> simp)
@[simp] theorem issueRecordClass_digest (s : State) (r : PortRequest) :
    (s.issueRecordClass r).window.digest = s.window.digest := by
  unfold State.issueRecordClass; try dsimp only
  repeat' split
  all_goals try simp
  all_goals try (refine (foldl_digest ?_ _ _).trans ?_ <;> (repeat' (first | intro _ | split)) <;> simp)
@[simp] theorem issueRecordClass_taking (s : State) (r : PortRequest) :
    (s.issueRecordClass r).window.taking = s.window.taking := by
  unfold State.issueRecordClass; try dsimp only
  repeat' split
  all_goals try simp
  all_goals try (refine (foldl_taking ?_ _ _).trans ?_ <;> (repeat' (first | intro _ | split)) <;> simp)
@[simp] theorem issueRecordClass_frames_h (s : State) (r : PortRequest) :
    (s.issueRecordClass r).frames.h = s.frames.h := by
  unfold State.issueRecordClass; try dsimp only
  repeat' split
  all_goals try simp
  all_goals try (refine (foldl_frames_h ?_ _ _).trans ?_ <;> (repeat' (first | intro _ | split)) <;> simp)
@[simp] theorem issueRecordClass_frames_channels (s : State) (r : PortRequest) :
    (s.issueRecordClass r).frames.channels = s.frames.channels := by
  unfold State.issueRecordClass; try dsimp only
  repeat' split
  all_goals try simp
  all_goals try (refine (foldl_frames_channels ?_ _ _).trans ?_ <;> (repeat' (first | intro _ | split)) <;> simp)
@[simp] theorem cutTurn_digest (s : State) (i : Fin 8) (j : Fin 2) :
    (s.cutTurn i j).window.digest = s.window.digest := by
  unfold State.cutTurn; try dsimp only
  repeat' split
  all_goals try simp
  all_goals try (refine (foldl_digest ?_ _ _).trans ?_ <;> (repeat' (first | intro _ | split)) <;> simp)
@[simp] theorem cutTurn_taking (s : State) (i : Fin 8) (j : Fin 2) :
    (s.cutTurn i j).window.taking = s.window.taking := by
  unfold State.cutTurn; try dsimp only
  repeat' split
  all_goals try simp
  all_goals try (refine (foldl_taking ?_ _ _).trans ?_ <;> (repeat' (first | intro _ | split)) <;> simp)
@[simp] theorem cutTurn_frames_h (s : State) (i : Fin 8) (j : Fin 2) :
    (s.cutTurn i j).frames.h = s.frames.h := by
  unfold State.cutTurn; try dsimp only
  repeat' split
  all_goals try simp
  all_goals try (refine (foldl_frames_h ?_ _ _).trans ?_ <;> (repeat' (first | intro _ | split)) <;> simp)
@[simp] theorem cutTurn_frames_channels (s : State) (i : Fin 8) (j : Fin 2) :
    (s.cutTurn i j).frames.channels = s.frames.channels := by
  unfold State.cutTurn; try dsimp only
  repeat' split
  all_goals try simp
  all_goals try (refine (foldl_frames_channels ?_ _ _).trans ?_ <;> (repeat' (first | intro _ | split)) <;> simp)
@[simp] theorem voidParts_digest (s : State) :
    (s.voidParts).window.digest = s.window.digest := by
  unfold State.voidParts; try dsimp only
  repeat' split
  all_goals try simp
  all_goals try (refine (foldl_digest ?_ _ _).trans ?_ <;> (repeat' (first | intro _ | split)) <;> simp)
@[simp] theorem voidParts_taking (s : State) :
    (s.voidParts).window.taking = s.window.taking := by
  unfold State.voidParts; try dsimp only
  repeat' split
  all_goals try simp
  all_goals try (refine (foldl_taking ?_ _ _).trans ?_ <;> (repeat' (first | intro _ | split)) <;> simp)
@[simp] theorem voidParts_frames_h (s : State) :
    (s.voidParts).frames.h = s.frames.h := by
  unfold State.voidParts; try dsimp only
  repeat' split
  all_goals try simp
  all_goals try (refine (foldl_frames_h ?_ _ _).trans ?_ <;> (repeat' (first | intro _ | split)) <;> simp)
@[simp] theorem voidParts_frames_channels (s : State) :
    (s.voidParts).frames.channels = s.frames.channels := by
  unfold State.voidParts; try dsimp only
  repeat' split
  all_goals try simp
  all_goals try (refine (foldl_frames_channels ?_ _ _).trans ?_ <;> (repeat' (first | intro _ | split)) <;> simp)
@[simp] theorem setOutputState_digest (s : State) (j : Fin 4) (o : Output) :
    (s.setOutputState j o).window.digest = s.window.digest := by
  unfold State.setOutputState; try dsimp only
  repeat' split
  all_goals try simp
  all_goals try (refine (foldl_digest ?_ _ _).trans ?_ <;> (repeat' (first | intro _ | split)) <;> simp)
@[simp] theorem setOutputState_taking (s : State) (j : Fin 4) (o : Output) :
    (s.setOutputState j o).window.taking = s.window.taking := by
  unfold State.setOutputState; try dsimp only
  repeat' split
  all_goals try simp
  all_goals try (refine (foldl_taking ?_ _ _).trans ?_ <;> (repeat' (first | intro _ | split)) <;> simp)
@[simp] theorem setOutputState_frames_h (s : State) (j : Fin 4) (o : Output) :
    (s.setOutputState j o).frames.h = s.frames.h := by
  unfold State.setOutputState; try dsimp only
  repeat' split
  all_goals try simp
  all_goals try (refine (foldl_frames_h ?_ _ _).trans ?_ <;> (repeat' (first | intro _ | split)) <;> simp)
@[simp] theorem setOutputState_frames_channels (s : State) (j : Fin 4) (o : Output) :
    (s.setOutputState j o).frames.channels = s.frames.channels := by
  unfold State.setOutputState; try dsimp only
  repeat' split
  all_goals try simp
  all_goals try (refine (foldl_frames_channels ?_ _ _).trans ?_ <;> (repeat' (first | intro _ | split)) <;> simp)
@[simp] theorem advanceOutputs_digest (s : State) :
    (s.advanceOutputs).window.digest = s.window.digest := by
  unfold State.advanceOutputs; try dsimp only
  repeat' split
  all_goals try simp
  all_goals try (refine (foldl_digest ?_ _ _).trans ?_ <;> (repeat' (first | intro _ | split)) <;> simp)
@[simp] theorem advanceOutputs_taking (s : State) :
    (s.advanceOutputs).window.taking = s.window.taking := by
  unfold State.advanceOutputs; try dsimp only
  repeat' split
  all_goals try simp
  all_goals try (refine (foldl_taking ?_ _ _).trans ?_ <;> (repeat' (first | intro _ | split)) <;> simp)
@[simp] theorem advanceOutputs_frames_h (s : State) :
    (s.advanceOutputs).frames.h = s.frames.h := by
  unfold State.advanceOutputs; try dsimp only
  repeat' split
  all_goals try simp
  all_goals try (refine (foldl_frames_h ?_ _ _).trans ?_ <;> (repeat' (first | intro _ | split)) <;> simp)
@[simp] theorem advanceOutputs_frames_channels (s : State) :
    (s.advanceOutputs).frames.channels = s.frames.channels := by
  unfold State.advanceOutputs; try dsimp only
  repeat' split
  all_goals try simp
  all_goals try (refine (foldl_frames_channels ?_ _ _).trans ?_ <;> (repeat' (first | intro _ | split)) <;> simp)
@[simp] theorem takePulse_digest (s : State) (j : Fin 4) (x : Nat) :
    (s.takePulse j x).window.digest = s.window.digest := by
  unfold State.takePulse; try dsimp only
  repeat' split
  all_goals try simp
  all_goals try (refine (foldl_digest ?_ _ _).trans ?_ <;> (repeat' (first | intro _ | split)) <;> simp)
@[simp] theorem takePulse_taking (s : State) (j : Fin 4) (x : Nat) :
    (s.takePulse j x).window.taking = s.window.taking := by
  unfold State.takePulse; try dsimp only
  repeat' split
  all_goals try simp
  all_goals try (refine (foldl_taking ?_ _ _).trans ?_ <;> (repeat' (first | intro _ | split)) <;> simp)
@[simp] theorem takePulse_frames_h (s : State) (j : Fin 4) (x : Nat) :
    (s.takePulse j x).frames.h = s.frames.h := by
  unfold State.takePulse; try dsimp only
  repeat' split
  all_goals try simp
  all_goals try (refine (foldl_frames_h ?_ _ _).trans ?_ <;> (repeat' (first | intro _ | split)) <;> simp)
@[simp] theorem takePulse_frames_channels (s : State) (j : Fin 4) (x : Nat) :
    (s.takePulse j x).frames.channels = s.frames.channels := by
  unfold State.takePulse; try dsimp only
  repeat' split
  all_goals try simp
  all_goals try (refine (foldl_frames_channels ?_ _ _).trans ?_ <;> (repeat' (first | intro _ | split)) <;> simp)
@[simp] theorem takeFollow_digest (s : State) (j : Fin 4) (x : Nat) (v : Bool) :
    (s.takeFollow j x v).window.digest = s.window.digest := by
  unfold State.takeFollow; try dsimp only
  repeat' split
  all_goals try simp
  all_goals try (refine (foldl_digest ?_ _ _).trans ?_ <;> (repeat' (first | intro _ | split)) <;> simp)
@[simp] theorem takeFollow_taking (s : State) (j : Fin 4) (x : Nat) (v : Bool) :
    (s.takeFollow j x v).window.taking = s.window.taking := by
  unfold State.takeFollow; try dsimp only
  repeat' split
  all_goals try simp
  all_goals try (refine (foldl_taking ?_ _ _).trans ?_ <;> (repeat' (first | intro _ | split)) <;> simp)
@[simp] theorem takeFollow_frames_h (s : State) (j : Fin 4) (x : Nat) (v : Bool) :
    (s.takeFollow j x v).frames.h = s.frames.h := by
  unfold State.takeFollow; try dsimp only
  repeat' split
  all_goals try simp
  all_goals try (refine (foldl_frames_h ?_ _ _).trans ?_ <;> (repeat' (first | intro _ | split)) <;> simp)
@[simp] theorem takeFollow_frames_channels (s : State) (j : Fin 4) (x : Nat) (v : Bool) :
    (s.takeFollow j x v).frames.channels = s.frames.channels := by
  unfold State.takeFollow; try dsimp only
  repeat' split
  all_goals try simp
  all_goals try (refine (foldl_frames_channels ?_ _ _).trans ?_ <;> (repeat' (first | intro _ | split)) <;> simp)
@[simp] theorem takeSignal_digest (s : State) (j : Fin 4) (id : BitVec 4) (level : Bool) (x : Nat) :
    (s.takeSignal j id level x).window.digest = s.window.digest := by
  unfold State.takeSignal; try dsimp only
  repeat' split
  all_goals try simp
  all_goals try (refine (foldl_digest ?_ _ _).trans ?_ <;> (repeat' (first | intro _ | split)) <;> simp)
@[simp] theorem takeSignal_taking (s : State) (j : Fin 4) (id : BitVec 4) (level : Bool) (x : Nat) :
    (s.takeSignal j id level x).window.taking = s.window.taking := by
  unfold State.takeSignal; try dsimp only
  repeat' split
  all_goals try simp
  all_goals try (refine (foldl_taking ?_ _ _).trans ?_ <;> (repeat' (first | intro _ | split)) <;> simp)
@[simp] theorem takeSignal_frames_h (s : State) (j : Fin 4) (id : BitVec 4) (level : Bool) (x : Nat) :
    (s.takeSignal j id level x).frames.h = s.frames.h := by
  unfold State.takeSignal; try dsimp only
  repeat' split
  all_goals try simp
  all_goals try (refine (foldl_frames_h ?_ _ _).trans ?_ <;> (repeat' (first | intro _ | split)) <;> simp)
@[simp] theorem takeSignal_frames_channels (s : State) (j : Fin 4) (id : BitVec 4) (level : Bool) (x : Nat) :
    (s.takeSignal j id level x).frames.channels = s.frames.channels := by
  unfold State.takeSignal; try dsimp only
  repeat' split
  all_goals try simp
  all_goals try (refine (foldl_frames_channels ?_ _ _).trans ?_ <;> (repeat' (first | intro _ | split)) <;> simp)
@[simp] theorem setFlag_digest (s : State) (i : Nat) (x : Nat) :
    (s.setFlag i x).window.digest = s.window.digest := by
  unfold State.setFlag; try dsimp only
  repeat' split
  all_goals try simp
  all_goals try (refine (foldl_digest ?_ _ _).trans ?_ <;> (repeat' (first | intro _ | split)) <;> simp)
@[simp] theorem setFlag_taking (s : State) (i : Nat) (x : Nat) :
    (s.setFlag i x).window.taking = s.window.taking := by
  unfold State.setFlag; try dsimp only
  repeat' split
  all_goals try simp
  all_goals try (refine (foldl_taking ?_ _ _).trans ?_ <;> (repeat' (first | intro _ | split)) <;> simp)
@[simp] theorem setFlag_frames_h (s : State) (i : Nat) (x : Nat) :
    (s.setFlag i x).frames.h = s.frames.h := by
  unfold State.setFlag; try dsimp only
  repeat' split
  all_goals try simp
  all_goals try (refine (foldl_frames_h ?_ _ _).trans ?_ <;> (repeat' (first | intro _ | split)) <;> simp)
@[simp] theorem setFlag_frames_channels (s : State) (i : Nat) (x : Nat) :
    (s.setFlag i x).frames.channels = s.frames.channels := by
  unfold State.setFlag; try dsimp only
  repeat' split
  all_goals try simp
  all_goals try (refine (foldl_frames_channels ?_ _ _).trans ?_ <;> (repeat' (first | intro _ | split)) <;> simp)
@[simp] theorem applySignal_digest (s : State) (id : BitVec 4) (level : Bool) (line : Word) :
    (s.applySignal id level line).window.digest = s.window.digest := by
  unfold State.applySignal; try dsimp only
  repeat' split
  all_goals try simp
  all_goals try (refine (foldl_digest ?_ _ _).trans ?_ <;> (repeat' (first | intro _ | split)) <;> simp)
@[simp] theorem applySignal_taking (s : State) (id : BitVec 4) (level : Bool) (line : Word) :
    (s.applySignal id level line).window.taking = s.window.taking := by
  unfold State.applySignal; try dsimp only
  repeat' split
  all_goals try simp
  all_goals try (refine (foldl_taking ?_ _ _).trans ?_ <;> (repeat' (first | intro _ | split)) <;> simp)
@[simp] theorem applySignal_frames_h (s : State) (id : BitVec 4) (level : Bool) (line : Word) :
    (s.applySignal id level line).frames.h = s.frames.h := by
  unfold State.applySignal; try dsimp only
  repeat' split
  all_goals try simp
  all_goals try (refine (foldl_frames_h ?_ _ _).trans ?_ <;> (repeat' (first | intro _ | split)) <;> simp)
@[simp] theorem applySignal_frames_channels (s : State) (id : BitVec 4) (level : Bool) (line : Word) :
    (s.applySignal id level line).frames.channels = s.frames.channels := by
  unfold State.applySignal; try dsimp only
  repeat' split
  all_goals try simp
  all_goals try (refine (foldl_frames_channels ?_ _ _).trans ?_ <;> (repeat' (first | intro _ | split)) <;> simp)
@[simp] theorem claimEdge_digest (s : State) (i : Fin 4) (level : Bool) :
    (s.claimEdge i level).window.digest = s.window.digest := by
  unfold State.claimEdge; try dsimp only
  repeat' split
  all_goals try simp
  all_goals try (refine (foldl_digest ?_ _ _).trans ?_ <;> (repeat' (first | intro _ | split)) <;> simp)
@[simp] theorem claimEdge_taking (s : State) (i : Fin 4) (level : Bool) :
    (s.claimEdge i level).window.taking = s.window.taking := by
  unfold State.claimEdge; try dsimp only
  repeat' split
  all_goals try simp
  all_goals try (refine (foldl_taking ?_ _ _).trans ?_ <;> (repeat' (first | intro _ | split)) <;> simp)
@[simp] theorem claimEdge_frames_h (s : State) (i : Fin 4) (level : Bool) :
    (s.claimEdge i level).frames.h = s.frames.h := by
  unfold State.claimEdge; try dsimp only
  repeat' split
  all_goals try simp
  all_goals try (refine (foldl_frames_h ?_ _ _).trans ?_ <;> (repeat' (first | intro _ | split)) <;> simp)
@[simp] theorem claimEdge_frames_channels (s : State) (i : Fin 4) (level : Bool) :
    (s.claimEdge i level).frames.channels = s.frames.channels := by
  unfold State.claimEdge; try dsimp only
  repeat' split
  all_goals try simp
  all_goals try (refine (foldl_frames_channels ?_ _ _).trans ?_ <;> (repeat' (first | intro _ | split)) <;> simp)
@[simp] theorem setFiltered_digest (s : State) (i : Fin 4) (level : Bool) :
    (s.setFiltered i level).window.digest = s.window.digest := by
  unfold State.setFiltered; try dsimp only
  repeat' split
  all_goals try simp
  all_goals try (refine (foldl_digest ?_ _ _).trans ?_ <;> (repeat' (first | intro _ | split)) <;> simp)
@[simp] theorem setFiltered_taking (s : State) (i : Fin 4) (level : Bool) :
    (s.setFiltered i level).window.taking = s.window.taking := by
  unfold State.setFiltered; try dsimp only
  repeat' split
  all_goals try simp
  all_goals try (refine (foldl_taking ?_ _ _).trans ?_ <;> (repeat' (first | intro _ | split)) <;> simp)
@[simp] theorem setFiltered_frames_h (s : State) (i : Fin 4) (level : Bool) :
    (s.setFiltered i level).frames.h = s.frames.h := by
  unfold State.setFiltered; try dsimp only
  repeat' split
  all_goals try simp
  all_goals try (refine (foldl_frames_h ?_ _ _).trans ?_ <;> (repeat' (first | intro _ | split)) <;> simp)
@[simp] theorem setFiltered_frames_channels (s : State) (i : Fin 4) (level : Bool) :
    (s.setFiltered i level).frames.channels = s.frames.channels := by
  unfold State.setFiltered; try dsimp only
  repeat' split
  all_goals try simp
  all_goals try (refine (foldl_frames_channels ?_ _ _).trans ?_ <;> (repeat' (first | intro _ | split)) <;> simp)
@[simp] theorem countDropped_digest (s : State) :
    (s.countDropped).window.digest = s.window.digest := by
  unfold State.countDropped; try dsimp only
  repeat' split
  all_goals try simp
  all_goals try (refine (foldl_digest ?_ _ _).trans ?_ <;> (repeat' (first | intro _ | split)) <;> simp)
@[simp] theorem countDropped_taking (s : State) :
    (s.countDropped).window.taking = s.window.taking := by
  unfold State.countDropped; try dsimp only
  repeat' split
  all_goals try simp
  all_goals try (refine (foldl_taking ?_ _ _).trans ?_ <;> (repeat' (first | intro _ | split)) <;> simp)
@[simp] theorem countDropped_frames_h (s : State) :
    (s.countDropped).frames.h = s.frames.h := by
  unfold State.countDropped; try dsimp only
  repeat' split
  all_goals try simp
  all_goals try (refine (foldl_frames_h ?_ _ _).trans ?_ <;> (repeat' (first | intro _ | split)) <;> simp)
@[simp] theorem countDropped_frames_channels (s : State) :
    (s.countDropped).frames.channels = s.frames.channels := by
  unfold State.countDropped; try dsimp only
  repeat' split
  all_goals try simp
  all_goals try (refine (foldl_frames_channels ?_ _ _).trans ?_ <;> (repeat' (first | intro _ | split)) <;> simp)
@[simp] theorem unitsToConfigured_digest (s : State) (byReset : Bool) :
    (s.unitsToConfigured byReset).window.digest = s.window.digest := by
  unfold State.unitsToConfigured; try dsimp only
  repeat' split
  all_goals try simp
  all_goals try (refine (foldl_digest ?_ _ _).trans ?_ <;> (repeat' (first | intro _ | split)) <;> simp)
@[simp] theorem unitsToConfigured_taking (s : State) (byReset : Bool) :
    (s.unitsToConfigured byReset).window.taking = s.window.taking := by
  unfold State.unitsToConfigured; try dsimp only
  repeat' split
  all_goals try simp
  all_goals try (refine (foldl_taking ?_ _ _).trans ?_ <;> (repeat' (first | intro _ | split)) <;> simp)
@[simp] theorem enterUnconfigured_taking (s : State) :
    (s.enterUnconfigured).window.taking = s.window.taking := by
  unfold State.enterUnconfigured; try dsimp only
  repeat' split
  all_goals try simp
  all_goals try (refine (foldl_taking ?_ _ _).trans ?_ <;> (repeat' (first | intro _ | split)) <;> simp)
@[simp] theorem enterUnconfigured_frames_h (s : State) :
    (s.enterUnconfigured).frames.h = s.frames.h := by
  unfold State.enterUnconfigured; try dsimp only
  repeat' split
  all_goals try simp
  all_goals try (refine (foldl_frames_h ?_ _ _).trans ?_ <;> (repeat' (first | intro _ | split)) <;> simp)
@[simp] theorem enterUnconfigured_frames_channels (s : State) :
    (s.enterUnconfigured).frames.channels = s.frames.channels := by
  unfold State.enterUnconfigured; try dsimp only
  repeat' split
  all_goals try simp
  all_goals try (refine (foldl_frames_channels ?_ _ _).trans ?_ <;> (repeat' (first | intro _ | split)) <;> simp)
@[simp] theorem enterConfigured_taking (s : State) (byReset : Bool) :
    (s.enterConfigured byReset).window.taking = s.window.taking := by
  unfold State.enterConfigured; try dsimp only
  repeat' split
  all_goals try simp
  all_goals try (refine (foldl_taking ?_ _ _).trans ?_ <;> (repeat' (first | intro _ | split)) <;> simp)
@[simp] theorem enterListening_digest (s : State) :
    (s.enterListening).window.digest = s.window.digest := by
  unfold State.enterListening; try dsimp only
  repeat' split
  all_goals try simp
  all_goals try (refine (foldl_digest ?_ _ _).trans ?_ <;> (repeat' (first | intro _ | split)) <;> simp)
@[simp] theorem enterListening_taking (s : State) :
    (s.enterListening).window.taking = s.window.taking := by
  unfold State.enterListening; try dsimp only
  repeat' split
  all_goals try simp
  all_goals try (refine (foldl_taking ?_ _ _).trans ?_ <;> (repeat' (first | intro _ | split)) <;> simp)
@[simp] theorem enterListening_frames_h (s : State) :
    (s.enterListening).frames.h = s.frames.h := by
  unfold State.enterListening; try dsimp only
  repeat' split
  all_goals try simp
  all_goals try (refine (foldl_frames_h ?_ _ _).trans ?_ <;> (repeat' (first | intro _ | split)) <;> simp)
@[simp] theorem enterListening_frames_channels (s : State) :
    (s.enterListening).frames.channels = s.frames.channels := by
  unfold State.enterListening; try dsimp only
  repeat' split
  all_goals try simp
  all_goals try (refine (foldl_frames_channels ?_ _ _).trans ?_ <;> (repeat' (first | intro _ | split)) <;> simp)
@[simp] theorem enterLeaving_digest (s : State) :
    (s.enterLeaving).window.digest = s.window.digest := by
  unfold State.enterLeaving; try dsimp only
  repeat' split
  all_goals try simp
  all_goals try (refine (foldl_digest ?_ _ _).trans ?_ <;> (repeat' (first | intro _ | split)) <;> simp)
@[simp] theorem enterLeaving_taking (s : State) :
    (s.enterLeaving).window.taking = s.window.taking := by
  unfold State.enterLeaving; try dsimp only
  repeat' split
  all_goals try simp
  all_goals try (refine (foldl_taking ?_ _ _).trans ?_ <;> (repeat' (first | intro _ | split)) <;> simp)
@[simp] theorem enterLeaving_frames_h (s : State) :
    (s.enterLeaving).frames.h = s.frames.h := by
  unfold State.enterLeaving; try dsimp only
  repeat' split
  all_goals try simp
  all_goals try (refine (foldl_frames_h ?_ _ _).trans ?_ <;> (repeat' (first | intro _ | split)) <;> simp)
@[simp] theorem enterLeaving_frames_channels (s : State) :
    (s.enterLeaving).frames.channels = s.frames.channels := by
  unfold State.enterLeaving; try dsimp only
  repeat' split
  all_goals try simp
  all_goals try (refine (foldl_frames_channels ?_ _ _).trans ?_ <;> (repeat' (first | intro _ | split)) <;> simp)
@[simp] theorem stopLegTimers_digest (s : State) :
    (s.stopLegTimers).window.digest = s.window.digest := by
  unfold State.stopLegTimers; try dsimp only
  repeat' split
  all_goals try simp
  all_goals try (refine (foldl_digest ?_ _ _).trans ?_ <;> (repeat' (first | intro _ | split)) <;> simp)
@[simp] theorem stopLegTimers_taking (s : State) :
    (s.stopLegTimers).window.taking = s.window.taking := by
  unfold State.stopLegTimers; try dsimp only
  repeat' split
  all_goals try simp
  all_goals try (refine (foldl_taking ?_ _ _).trans ?_ <;> (repeat' (first | intro _ | split)) <;> simp)
@[simp] theorem stopLegTimers_frames_h (s : State) :
    (s.stopLegTimers).frames.h = s.frames.h := by
  unfold State.stopLegTimers; try dsimp only
  repeat' split
  all_goals try simp
  all_goals try (refine (foldl_frames_h ?_ _ _).trans ?_ <;> (repeat' (first | intro _ | split)) <;> simp)
@[simp] theorem stopLegTimers_frames_channels (s : State) :
    (s.stopLegTimers).frames.channels = s.frames.channels := by
  unfold State.stopLegTimers; try dsimp only
  repeat' split
  all_goals try simp
  all_goals try (refine (foldl_frames_channels ?_ _ _).trans ?_ <;> (repeat' (first | intro _ | split)) <;> simp)
@[simp] theorem lapse_digest (s : State) :
    (s.lapse).window.digest = s.window.digest := by
  unfold State.lapse; try dsimp only
  repeat' split
  all_goals try simp
  all_goals try (refine (foldl_digest ?_ _ _).trans ?_ <;> (repeat' (first | intro _ | split)) <;> simp)
@[simp] theorem lapse_taking (s : State) :
    (s.lapse).window.taking = s.window.taking := by
  unfold State.lapse; try dsimp only
  repeat' split
  all_goals try simp
  all_goals try (refine (foldl_taking ?_ _ _).trans ?_ <;> (repeat' (first | intro _ | split)) <;> simp)
@[simp] theorem lapse_frames_h (s : State) :
    (s.lapse).frames.h = s.frames.h := by
  unfold State.lapse; try dsimp only
  repeat' split
  all_goals try simp
  all_goals try (refine (foldl_frames_h ?_ _ _).trans ?_ <;> (repeat' (first | intro _ | split)) <;> simp)
@[simp] theorem lapse_frames_channels (s : State) :
    (s.lapse).frames.channels = s.frames.channels := by
  unfold State.lapse; try dsimp only
  repeat' split
  all_goals try simp
  all_goals try (refine (foldl_frames_channels ?_ _ _).trans ?_ <;> (repeat' (first | intro _ | split)) <;> simp)
@[simp] theorem lapseFrom_digest (s : State) (from_ : List StationState) :
    (s.lapseFrom from_).window.digest = s.window.digest := by
  unfold State.lapseFrom; try dsimp only
  repeat' split
  all_goals try simp
  all_goals try (refine (foldl_digest ?_ _ _).trans ?_ <;> (repeat' (first | intro _ | split)) <;> simp)
@[simp] theorem lapseFrom_taking (s : State) (from_ : List StationState) :
    (s.lapseFrom from_).window.taking = s.window.taking := by
  unfold State.lapseFrom; try dsimp only
  repeat' split
  all_goals try simp
  all_goals try (refine (foldl_taking ?_ _ _).trans ?_ <;> (repeat' (first | intro _ | split)) <;> simp)
@[simp] theorem lapseFrom_frames_h (s : State) (from_ : List StationState) :
    (s.lapseFrom from_).frames.h = s.frames.h := by
  unfold State.lapseFrom; try dsimp only
  repeat' split
  all_goals try simp
  all_goals try (refine (foldl_frames_h ?_ _ _).trans ?_ <;> (repeat' (first | intro _ | split)) <;> simp)
@[simp] theorem lapseFrom_frames_channels (s : State) (from_ : List StationState) :
    (s.lapseFrom from_).frames.channels = s.frames.channels := by
  unfold State.lapseFrom; try dsimp only
  repeat' split
  all_goals try simp
  all_goals try (refine (foldl_frames_channels ?_ _ _).trans ?_ <;> (repeat' (first | intro _ | split)) <;> simp)
@[simp] theorem leaveLapsed_taking (s : State) :
    (s.leaveLapsed).window.taking = s.window.taking := by
  unfold State.leaveLapsed; try dsimp only
  repeat' split
  all_goals try simp
  all_goals try (refine (foldl_taking ?_ _ _).trans ?_ <;> (repeat' (first | intro _ | split)) <;> simp)
@[simp] theorem setChannel_digest (s : State) (c : Fin 8) (x : Channel) :
    (s.setChannel c x).window.digest = s.window.digest := by
  unfold State.setChannel; try dsimp only
  repeat' split
  all_goals try simp
  all_goals try (refine (foldl_digest ?_ _ _).trans ?_ <;> (repeat' (first | intro _ | split)) <;> simp)
@[simp] theorem setChannel_taking (s : State) (c : Fin 8) (x : Channel) :
    (s.setChannel c x).window.taking = s.window.taking := by
  unfold State.setChannel; try dsimp only
  repeat' split
  all_goals try simp
  all_goals try (refine (foldl_taking ?_ _ _).trans ?_ <;> (repeat' (first | intro _ | split)) <;> simp)
@[simp] theorem setChannel_frames_h (s : State) (c : Fin 8) (x : Channel) :
    (s.setChannel c x).frames.h = s.frames.h := by
  unfold State.setChannel; try dsimp only
  repeat' split
  all_goals try simp
  all_goals try (refine (foldl_frames_h ?_ _ _).trans ?_ <;> (repeat' (first | intro _ | split)) <;> simp)
@[simp] theorem orphanRule_digest (s : State) :
    (s.orphanRule).window.digest = s.window.digest := by
  unfold State.orphanRule; try dsimp only
  repeat' split
  all_goals try simp
  all_goals try (refine (foldl_digest ?_ _ _).trans ?_ <;> (repeat' (first | intro _ | split)) <;> simp)
@[simp] theorem orphanRule_taking (s : State) :
    (s.orphanRule).window.taking = s.window.taking := by
  unfold State.orphanRule; try dsimp only
  repeat' split
  all_goals try simp
  all_goals try (refine (foldl_taking ?_ _ _).trans ?_ <;> (repeat' (first | intro _ | split)) <;> simp)
@[simp] theorem orphanRule_frames_h (s : State) :
    (s.orphanRule).frames.h = s.frames.h := by
  unfold State.orphanRule; try dsimp only
  repeat' split
  all_goals try simp
  all_goals try (refine (foldl_frames_h ?_ _ _).trans ?_ <;> (repeat' (first | intro _ | split)) <;> simp)
@[simp] theorem soleRule_digest (s : State) :
    (s.soleRule).window.digest = s.window.digest := by
  unfold State.soleRule; try dsimp only
  repeat' split
  all_goals try simp
  all_goals try (refine (foldl_digest ?_ _ _).trans ?_ <;> (repeat' (first | intro _ | split)) <;> simp)
@[simp] theorem soleRule_taking (s : State) :
    (s.soleRule).window.taking = s.window.taking := by
  unfold State.soleRule; try dsimp only
  repeat' split
  all_goals try simp
  all_goals try (refine (foldl_taking ?_ _ _).trans ?_ <;> (repeat' (first | intro _ | split)) <;> simp)
@[simp] theorem soleRule_frames_h (s : State) :
    (s.soleRule).frames.h = s.frames.h := by
  unfold State.soleRule; try dsimp only
  repeat' split
  all_goals try simp
  all_goals try (refine (foldl_frames_h ?_ _ _).trans ?_ <;> (repeat' (first | intro _ | split)) <;> simp)
@[simp] theorem memberChecks_digest (s : State) :
    (s.memberChecks).window.digest = s.window.digest := by
  unfold State.memberChecks; try dsimp only
  repeat' split
  all_goals try simp
  all_goals try (refine (foldl_digest ?_ _ _).trans ?_ <;> (repeat' (first | intro _ | split)) <;> simp)
@[simp] theorem memberChecks_taking (s : State) :
    (s.memberChecks).window.taking = s.window.taking := by
  unfold State.memberChecks; try dsimp only
  repeat' split
  all_goals try simp
  all_goals try (refine (foldl_taking ?_ _ _).trans ?_ <;> (repeat' (first | intro _ | split)) <;> simp)
@[simp] theorem memberChecks_frames_h (s : State) :
    (s.memberChecks).frames.h = s.frames.h := by
  unfold State.memberChecks; try dsimp only
  repeat' split
  all_goals try simp
  all_goals try (refine (foldl_frames_h ?_ _ _).trans ?_ <;> (repeat' (first | intro _ | split)) <;> simp)
@[simp] theorem dropFromRoster_digest (s : State) (p : Station) :
    (s.dropFromRoster p).window.digest = s.window.digest := by
  unfold State.dropFromRoster; try dsimp only
  repeat' split
  all_goals try simp
  all_goals try (refine (foldl_digest ?_ _ _).trans ?_ <;> (repeat' (first | intro _ | split)) <;> simp)
@[simp] theorem dropFromRoster_taking (s : State) (p : Station) :
    (s.dropFromRoster p).window.taking = s.window.taking := by
  unfold State.dropFromRoster; try dsimp only
  repeat' split
  all_goals try simp
  all_goals try (refine (foldl_taking ?_ _ _).trans ?_ <;> (repeat' (first | intro _ | split)) <;> simp)
@[simp] theorem dropFromRoster_frames_h (s : State) (p : Station) :
    (s.dropFromRoster p).frames.h = s.frames.h := by
  unfold State.dropFromRoster; try dsimp only
  repeat' split
  all_goals try simp
  all_goals try (refine (foldl_frames_h ?_ _ _).trans ?_ <;> (repeat' (first | intro _ | split)) <;> simp)
@[simp] theorem dropFromRoster_frames_channels (s : State) (p : Station) :
    (s.dropFromRoster p).frames.channels = s.frames.channels := by
  unfold State.dropFromRoster; try dsimp only
  repeat' split
  all_goals try simp
  all_goals try (refine (foldl_frames_channels ?_ _ _).trans ?_ <;> (repeat' (first | intro _ | split)) <;> simp)
@[simp] theorem removeStation_digest (s : State) (p : Station) (dropSender : Option Station) :
    (s.removeStation p dropSender).window.digest = s.window.digest := by
  unfold State.removeStation; try dsimp only
  repeat' split
  all_goals try simp
  all_goals try (refine (foldl_digest ?_ _ _).trans ?_ <;> (repeat' (first | intro _ | split)) <;> simp)
@[simp] theorem removeStation_taking (s : State) (p : Station) (dropSender : Option Station) :
    (s.removeStation p dropSender).window.taking = s.window.taking := by
  unfold State.removeStation; try dsimp only
  repeat' split
  all_goals try simp
  all_goals try (refine (foldl_taking ?_ _ _).trans ?_ <;> (repeat' (first | intro _ | split)) <;> simp)
@[simp] theorem removeStation_frames_h (s : State) (p : Station) (dropSender : Option Station) :
    (s.removeStation p dropSender).frames.h = s.frames.h := by
  unfold State.removeStation; try dsimp only
  repeat' split
  all_goals try simp
  all_goals try (refine (foldl_frames_h ?_ _ _).trans ?_ <;> (repeat' (first | intro _ | split)) <;> simp)
@[simp] theorem claimAtAdvance_digest (s : State) :
    (s.claimAtAdvance).window.digest = s.window.digest := by
  unfold State.claimAtAdvance; try dsimp only
  repeat' split
  all_goals try simp
  all_goals try (refine (foldl_digest ?_ _ _).trans ?_ <;> (repeat' (first | intro _ | split)) <;> simp)
@[simp] theorem claimAtAdvance_taking (s : State) :
    (s.claimAtAdvance).window.taking = s.window.taking := by
  unfold State.claimAtAdvance; try dsimp only
  repeat' split
  all_goals try simp
  all_goals try (refine (foldl_taking ?_ _ _).trans ?_ <;> (repeat' (first | intro _ | split)) <;> simp)
@[simp] theorem claimAtAdvance_frames_h (s : State) :
    (s.claimAtAdvance).frames.h = s.frames.h := by
  unfold State.claimAtAdvance; try dsimp only
  repeat' split
  all_goals try simp
  all_goals try (refine (foldl_frames_h ?_ _ _).trans ?_ <;> (repeat' (first | intro _ | split)) <;> simp)
@[simp] theorem claimAtAdvance_frames_channels (s : State) :
    (s.claimAtAdvance).frames.channels = s.frames.channels := by
  unfold State.claimAtAdvance; try dsimp only
  repeat' split
  all_goals try simp
  all_goals try (refine (foldl_frames_channels ?_ _ _).trans ?_ <;> (repeat' (first | intro _ | split)) <;> simp)
@[simp] theorem pruneFlushes_digest (s : State) :
    (s.pruneFlushes).window.digest = s.window.digest := by
  unfold State.pruneFlushes; try dsimp only
  repeat' split
  all_goals try simp
  all_goals try (refine (foldl_digest ?_ _ _).trans ?_ <;> (repeat' (first | intro _ | split)) <;> simp)
@[simp] theorem pruneFlushes_taking (s : State) :
    (s.pruneFlushes).window.taking = s.window.taking := by
  unfold State.pruneFlushes; try dsimp only
  repeat' split
  all_goals try simp
  all_goals try (refine (foldl_taking ?_ _ _).trans ?_ <;> (repeat' (first | intro _ | split)) <;> simp)
@[simp] theorem pruneFlushes_frames_h (s : State) :
    (s.pruneFlushes).frames.h = s.frames.h := by
  unfold State.pruneFlushes; try dsimp only
  repeat' split
  all_goals try simp
  all_goals try (refine (foldl_frames_h ?_ _ _).trans ?_ <;> (repeat' (first | intro _ | split)) <;> simp)
@[simp] theorem pruneFlushes_frames_channels (s : State) :
    (s.pruneFlushes).frames.channels = s.frames.channels := by
  unfold State.pruneFlushes; try dsimp only
  repeat' split
  all_goals try simp
  all_goals try (refine (foldl_frames_channels ?_ _ _).trans ?_ <;> (repeat' (first | intro _ | split)) <;> simp)
@[simp] theorem found_digest (s : State) :
    (s.found).window.digest = s.window.digest := by
  unfold State.found; try dsimp only
  repeat' split
  all_goals try simp
  all_goals try (refine (foldl_digest ?_ _ _).trans ?_ <;> (repeat' (first | intro _ | split)) <;> simp)
@[simp] theorem found_taking (s : State) :
    (s.found).window.taking = s.window.taking := by
  unfold State.found; try dsimp only
  repeat' split
  all_goals try simp
  all_goals try (refine (foldl_taking ?_ _ _).trans ?_ <;> (repeat' (first | intro _ | split)) <;> simp)
@[simp] theorem consumeSteer_digest (s : State) (j : Fin 2) (e : Steer) :
    (s.consumeSteer j e).window.digest = s.window.digest := by
  unfold State.consumeSteer; try dsimp only
  repeat' split
  all_goals try simp
  all_goals try (refine (foldl_digest ?_ _ _).trans ?_ <;> (repeat' (first | intro _ | split)) <;> simp)
@[simp] theorem consumeSteer_taking (s : State) (j : Fin 2) (e : Steer) :
    (s.consumeSteer j e).window.taking = s.window.taking := by
  unfold State.consumeSteer; try dsimp only
  repeat' split
  all_goals try simp
  all_goals try (refine (foldl_taking ?_ _ _).trans ?_ <;> (repeat' (first | intro _ | split)) <;> simp)
@[simp] theorem consumeSteer_frames_h (s : State) (j : Fin 2) (e : Steer) :
    (s.consumeSteer j e).frames.h = s.frames.h := by
  unfold State.consumeSteer; try dsimp only
  repeat' split
  all_goals try simp
  all_goals try (refine (foldl_frames_h ?_ _ _).trans ?_ <;> (repeat' (first | intro _ | split)) <;> simp)
@[simp] theorem desync_digest (s : State) :
    (s.desync).window.digest = s.window.digest := by
  unfold State.desync; try dsimp only
  repeat' split
  all_goals try simp
  all_goals try (refine (foldl_digest ?_ _ _).trans ?_ <;> (repeat' (first | intro _ | split)) <;> simp)
@[simp] theorem desync_taking (s : State) :
    (s.desync).window.taking = s.window.taking := by
  unfold State.desync; try dsimp only
  repeat' split
  all_goals try simp
  all_goals try (refine (foldl_taking ?_ _ _).trans ?_ <;> (repeat' (first | intro _ | split)) <;> simp)
@[simp] theorem desync_frames_h (s : State) :
    (s.desync).frames.h = s.frames.h := by
  unfold State.desync; try dsimp only
  repeat' split
  all_goals try simp
  all_goals try (refine (foldl_frames_h ?_ _ _).trans ?_ <;> (repeat' (first | intro _ | split)) <;> simp)
@[simp] theorem desync_frames_channels (s : State) :
    (s.desync).frames.channels = s.frames.channels := by
  unfold State.desync; try dsimp only
  repeat' split
  all_goals try simp
  all_goals try (refine (foldl_frames_channels ?_ _ _).trans ?_ <;> (repeat' (first | intro _ | split)) <;> simp)
@[simp] theorem applyGrant_digest (s : State) (c : Fin 8) (seq : Byte) (base : Page) :
    (s.applyGrant c seq base).window.digest = s.window.digest := by
  unfold State.applyGrant; try dsimp only
  repeat' split
  all_goals try simp
  all_goals try (refine (foldl_digest ?_ _ _).trans ?_ <;> (repeat' (first | intro _ | split)) <;> simp)
@[simp] theorem applyGrant_taking (s : State) (c : Fin 8) (seq : Byte) (base : Page) :
    (s.applyGrant c seq base).window.taking = s.window.taking := by
  unfold State.applyGrant; try dsimp only
  repeat' split
  all_goals try simp
  all_goals try (refine (foldl_taking ?_ _ _).trans ?_ <;> (repeat' (first | intro _ | split)) <;> simp)
@[simp] theorem applyGrant_frames_h (s : State) (c : Fin 8) (seq : Byte) (base : Page) :
    (s.applyGrant c seq base).frames.h = s.frames.h := by
  unfold State.applyGrant; try dsimp only
  repeat' split
  all_goals try simp
  all_goals try (refine (foldl_frames_h ?_ _ _).trans ?_ <;> (repeat' (first | intro _ | split)) <;> simp)
@[simp] theorem bornVoid_digest (s : State) (i : Fin 8) (j : Fin 2) :
    (s.bornVoid i j).window.digest = s.window.digest := by
  unfold State.bornVoid; try dsimp only
  repeat' split
  all_goals try simp
  all_goals try (refine (foldl_digest ?_ _ _).trans ?_ <;> (repeat' (first | intro _ | split)) <;> simp)
@[simp] theorem bornVoid_taking (s : State) (i : Fin 8) (j : Fin 2) :
    (s.bornVoid i j).window.taking = s.window.taking := by
  unfold State.bornVoid; try dsimp only
  repeat' split
  all_goals try simp
  all_goals try (refine (foldl_taking ?_ _ _).trans ?_ <;> (repeat' (first | intro _ | split)) <;> simp)
@[simp] theorem bornVoid_frames_h (s : State) (i : Fin 8) (j : Fin 2) :
    (s.bornVoid i j).frames.h = s.frames.h := by
  unfold State.bornVoid; try dsimp only
  repeat' split
  all_goals try simp
  all_goals try (refine (foldl_frames_h ?_ _ _).trans ?_ <;> (repeat' (first | intro _ | split)) <;> simp)
@[simp] theorem bornVoid_frames_channels (s : State) (i : Fin 8) (j : Fin 2) :
    (s.bornVoid i j).frames.channels = s.frames.channels := by
  unfold State.bornVoid; try dsimp only
  repeat' split
  all_goals try simp
  all_goals try (refine (foldl_frames_channels ?_ _ _).trans ?_ <;> (repeat' (first | intro _ | split)) <;> simp)
@[simp] theorem enterFrame_digest (s : State) (k : Nat) (mask : StationSet) (entries : StreamEntries) :
    (s.enterFrame k mask entries).window.digest = s.window.digest := by
  unfold State.enterFrame; try dsimp only
  repeat' split
  all_goals try simp
  all_goals try (refine (foldl_digest ?_ _ _).trans ?_ <;> (repeat' (first | intro _ | split)) <;> simp)
@[simp] theorem enterFrame_taking (s : State) (k : Nat) (mask : StationSet) (entries : StreamEntries) :
    (s.enterFrame k mask entries).window.taking = s.window.taking := by
  unfold State.enterFrame; try dsimp only
  repeat' split
  all_goals try simp
  all_goals try (refine (foldl_taking ?_ _ _).trans ?_ <;> (repeat' (first | intro _ | split)) <;> simp)
@[simp] theorem enterFrame_frames_h (s : State) (k : Nat) (mask : StationSet) (entries : StreamEntries) :
    (s.enterFrame k mask entries).frames.h = s.frames.h := by
  unfold State.enterFrame; try dsimp only
  repeat' split
  all_goals try simp
  all_goals try (refine (foldl_frames_h ?_ _ _).trans ?_ <;> (repeat' (first | intro _ | split)) <;> simp)
@[simp] theorem enterFrame_frames_channels (s : State) (k : Nat) (mask : StationSet) (entries : StreamEntries) :
    (s.enterFrame k mask entries).frames.channels = s.frames.channels := by
  unfold State.enterFrame; try dsimp only
  repeat' split
  all_goals try simp
  all_goals try (refine (foldl_frames_channels ?_ _ _).trans ?_ <;> (repeat' (first | intro _ | split)) <;> simp)
@[simp] theorem raiseH_digest (s : State) (k : Nat) :
    (s.raiseH k).window.digest = s.window.digest := by
  unfold State.raiseH; try dsimp only
  repeat' split
  all_goals try simp
  all_goals try (refine (foldl_digest ?_ _ _).trans ?_ <;> (repeat' (first | intro _ | split)) <;> simp)
@[simp] theorem raiseH_taking (s : State) (k : Nat) :
    (s.raiseH k).window.taking = s.window.taking := by
  unfold State.raiseH; try dsimp only
  repeat' split
  all_goals try simp
  all_goals try (refine (foldl_taking ?_ _ _).trans ?_ <;> (repeat' (first | intro _ | split)) <;> simp)
@[simp] theorem raiseH_frames_channels (s : State) (k : Nat) :
    (s.raiseH k).frames.channels = s.frames.channels := by
  unfold State.raiseH; try dsimp only
  repeat' split
  all_goals try simp
  all_goals try (refine (foldl_frames_channels ?_ _ _).trans ?_ <;> (repeat' (first | intro _ | split)) <;> simp)
@[simp] theorem clearForeign_digest (s : State) (i : Fin 8) :
    (s.clearForeign i).window.digest = s.window.digest := by
  unfold State.clearForeign; try dsimp only
  repeat' split
  all_goals try simp
  all_goals try (refine (foldl_digest ?_ _ _).trans ?_ <;> (repeat' (first | intro _ | split)) <;> simp)
@[simp] theorem clearForeign_taking (s : State) (i : Fin 8) :
    (s.clearForeign i).window.taking = s.window.taking := by
  unfold State.clearForeign; try dsimp only
  repeat' split
  all_goals try simp
  all_goals try (refine (foldl_taking ?_ _ _).trans ?_ <;> (repeat' (first | intro _ | split)) <;> simp)
@[simp] theorem clearForeign_frames_h (s : State) (i : Fin 8) :
    (s.clearForeign i).frames.h = s.frames.h := by
  unfold State.clearForeign; try dsimp only
  repeat' split
  all_goals try simp
  all_goals try (refine (foldl_frames_h ?_ _ _).trans ?_ <;> (repeat' (first | intro _ | split)) <;> simp)
@[simp] theorem clearForeign_frames_channels (s : State) (i : Fin 8) :
    (s.clearForeign i).frames.channels = s.frames.channels := by
  unfold State.clearForeign; try dsimp only
  repeat' split
  all_goals try simp
  all_goals try (refine (foldl_frames_channels ?_ _ _).trans ?_ <;> (repeat' (first | intro _ | split)) <;> simp)
@[simp] theorem applyOpening_digest (s : State) (frame : BitVec 16) (mask : StationSet) (entries : StreamEntries) :
    (s.applyOpening frame mask entries).window.digest = s.window.digest := by
  unfold State.applyOpening; try dsimp only
  repeat' split
  all_goals try simp
  all_goals try (refine (foldl_digest ?_ _ _).trans ?_ <;> (repeat' (first | intro _ | split)) <;> simp)
@[simp] theorem applyOpening_taking (s : State) (frame : BitVec 16) (mask : StationSet) (entries : StreamEntries) :
    (s.applyOpening frame mask entries).window.taking = s.window.taking := by
  unfold State.applyOpening; try dsimp only
  repeat' split
  all_goals try simp
  all_goals try (refine (foldl_taking ?_ _ _).trans ?_ <;> (repeat' (first | intro _ | split)) <;> simp)
@[simp] theorem applyGate_digest (s : State) (isOpen : Bool) (frame : BitVec 16) :
    (s.applyGate isOpen frame).window.digest = s.window.digest := by
  unfold State.applyGate; try dsimp only
  repeat' split
  all_goals try simp
  all_goals try (refine (foldl_digest ?_ _ _).trans ?_ <;> (repeat' (first | intro _ | split)) <;> simp)
@[simp] theorem applyGate_taking (s : State) (isOpen : Bool) (frame : BitVec 16) :
    (s.applyGate isOpen frame).window.taking = s.window.taking := by
  unfold State.applyGate; try dsimp only
  repeat' split
  all_goals try simp
  all_goals try (refine (foldl_taking ?_ _ _).trans ?_ <;> (repeat' (first | intro _ | split)) <;> simp)
@[simp] theorem learnFrames_digest (s : State) (r : Roll) :
    (s.learnFrames r).window.digest = s.window.digest := by
  unfold State.learnFrames; try dsimp only
  repeat' split
  all_goals try simp
  all_goals try (refine (foldl_digest ?_ _ _).trans ?_ <;> (repeat' (first | intro _ | split)) <;> simp)
@[simp] theorem learnFrames_taking (s : State) (r : Roll) :
    (s.learnFrames r).window.taking = s.window.taking := by
  unfold State.learnFrames; try dsimp only
  repeat' split
  all_goals try simp
  all_goals try (refine (foldl_taking ?_ _ _).trans ?_ <;> (repeat' (first | intro _ | split)) <;> simp)
@[simp] theorem learnFrames_frames_channels (s : State) (r : Roll) :
    (s.learnFrames r).frames.channels = s.frames.channels := by
  unfold State.learnFrames; try dsimp only
  repeat' split
  all_goals try simp
  all_goals try (refine (foldl_frames_channels ?_ _ _).trans ?_ <;> (repeat' (first | intro _ | split)) <;> simp)
@[simp] theorem forgetForeign_digest (s : State) (r : Roll) :
    (s.forgetForeign r).window.digest = s.window.digest := by
  unfold State.forgetForeign; try dsimp only
  repeat' split
  all_goals try simp
  all_goals try (refine (foldl_digest ?_ _ _).trans ?_ <;> (repeat' (first | intro _ | split)) <;> simp)
@[simp] theorem forgetForeign_taking (s : State) (r : Roll) :
    (s.forgetForeign r).window.taking = s.window.taking := by
  unfold State.forgetForeign; try dsimp only
  repeat' split
  all_goals try simp
  all_goals try (refine (foldl_taking ?_ _ _).trans ?_ <;> (repeat' (first | intro _ | split)) <;> simp)
@[simp] theorem forgetForeign_frames_h (s : State) (r : Roll) :
    (s.forgetForeign r).frames.h = s.frames.h := by
  unfold State.forgetForeign; try dsimp only
  repeat' split
  all_goals try simp
  all_goals try (refine (foldl_frames_h ?_ _ _).trans ?_ <;> (repeat' (first | intro _ | split)) <;> simp)
@[simp] theorem forgetForeign_frames_channels (s : State) (r : Roll) :
    (s.forgetForeign r).frames.channels = s.frames.channels := by
  unfold State.forgetForeign; try dsimp only
  repeat' split
  all_goals try simp
  all_goals try (refine (foldl_frames_channels ?_ _ _).trans ?_ <;> (repeat' (first | intro _ | split)) <;> simp)
@[simp] theorem takeCompleteness_digest (s : State) (r : Roll) :
    (s.takeCompleteness r).window.digest = s.window.digest := by
  unfold State.takeCompleteness; try dsimp only
  repeat' split
  all_goals try simp
  all_goals try (refine (foldl_digest ?_ _ _).trans ?_ <;> (repeat' (first | intro _ | split)) <;> simp)
@[simp] theorem takeCompleteness_taking (s : State) (r : Roll) :
    (s.takeCompleteness r).window.taking = s.window.taking := by
  unfold State.takeCompleteness; try dsimp only
  repeat' split
  all_goals try simp
  all_goals try (refine (foldl_taking ?_ _ _).trans ?_ <;> (repeat' (first | intro _ | split)) <;> simp)
@[simp] theorem takeCompleteness_frames_h (s : State) (r : Roll) :
    (s.takeCompleteness r).frames.h = s.frames.h := by
  unfold State.takeCompleteness; try dsimp only
  repeat' split
  all_goals try simp
  all_goals try (refine (foldl_frames_h ?_ _ _).trans ?_ <;> (repeat' (first | intro _ | split)) <;> simp)
@[simp] theorem takeLive_digest (s : State) (t : Tap) (r : Trigger) :
    (s.takeLive t r).window.digest = s.window.digest := by
  unfold State.takeLive; try dsimp only
  repeat' split
  all_goals try simp
  all_goals try (refine (foldl_digest ?_ _ _).trans ?_ <;> (repeat' (first | intro _ | split)) <;> simp)
@[simp] theorem takeLive_taking (s : State) (t : Tap) (r : Trigger) :
    (s.takeLive t r).window.taking = s.window.taking := by
  unfold State.takeLive; try dsimp only
  repeat' split
  all_goals try simp
  all_goals try (refine (foldl_taking ?_ _ _).trans ?_ <;> (repeat' (first | intro _ | split)) <;> simp)
@[simp] theorem takeLive_frames_h (s : State) (t : Tap) (r : Trigger) :
    (s.takeLive t r).frames.h = s.frames.h := by
  unfold State.takeLive; try dsimp only
  repeat' split
  all_goals try simp
  all_goals try (refine (foldl_frames_h ?_ _ _).trans ?_ <;> (repeat' (first | intro _ | split)) <;> simp)
@[simp] theorem takeLive_frames_channels (s : State) (t : Tap) (r : Trigger) :
    (s.takeLive t r).frames.channels = s.frames.channels := by
  unfold State.takeLive; try dsimp only
  repeat' split
  all_goals try simp
  all_goals try (refine (foldl_frames_channels ?_ _ _).trans ?_ <;> (repeat' (first | intro _ | split)) <;> simp)
@[simp] theorem takePattern_digest (s : State) (t : Tap) (r : Trigger) :
    (s.takePattern t r).window.digest = s.window.digest := by
  unfold State.takePattern; try dsimp only
  repeat' split
  all_goals try simp
  all_goals try (refine (foldl_digest ?_ _ _).trans ?_ <;> (repeat' (first | intro _ | split)) <;> simp)
@[simp] theorem takePattern_taking (s : State) (t : Tap) (r : Trigger) :
    (s.takePattern t r).window.taking = s.window.taking := by
  unfold State.takePattern; try dsimp only
  repeat' split
  all_goals try simp
  all_goals try (refine (foldl_taking ?_ _ _).trans ?_ <;> (repeat' (first | intro _ | split)) <;> simp)
@[simp] theorem takePattern_frames_h (s : State) (t : Tap) (r : Trigger) :
    (s.takePattern t r).frames.h = s.frames.h := by
  unfold State.takePattern; try dsimp only
  repeat' split
  all_goals try simp
  all_goals try (refine (foldl_frames_h ?_ _ _).trans ?_ <;> (repeat' (first | intro _ | split)) <;> simp)
@[simp] theorem takePattern_frames_channels (s : State) (t : Tap) (r : Trigger) :
    (s.takePattern t r).frames.channels = s.frames.channels := by
  unfold State.takePattern; try dsimp only
  repeat' split
  all_goals try simp
  all_goals try (refine (foldl_frames_channels ?_ _ _).trans ?_ <;> (repeat' (first | intro _ | split)) <;> simp)
@[simp] theorem handRecord_digest (s : State) (t : Tap) (r : Trigger) :
    (s.handRecord t r).window.digest = s.window.digest := by
  unfold State.handRecord; try dsimp only
  repeat' split
  all_goals try simp
  all_goals try (refine (foldl_digest ?_ _ _).trans ?_ <;> (repeat' (first | intro _ | split)) <;> simp)
@[simp] theorem handRecord_taking (s : State) (t : Tap) (r : Trigger) :
    (s.handRecord t r).window.taking = s.window.taking := by
  unfold State.handRecord; try dsimp only
  repeat' split
  all_goals try simp
  all_goals try (refine (foldl_taking ?_ _ _).trans ?_ <;> (repeat' (first | intro _ | split)) <;> simp)
@[simp] theorem handRecord_frames_h (s : State) (t : Tap) (r : Trigger) :
    (s.handRecord t r).frames.h = s.frames.h := by
  unfold State.handRecord; try dsimp only
  repeat' split
  all_goals try simp
  all_goals try (refine (foldl_frames_h ?_ _ _).trans ?_ <;> (repeat' (first | intro _ | split)) <;> simp)
@[simp] theorem handRecord_frames_channels (s : State) (t : Tap) (r : Trigger) :
    (s.handRecord t r).frames.channels = s.frames.channels := by
  unfold State.handRecord; try dsimp only
  repeat' split
  all_goals try simp
  all_goals try (refine (foldl_frames_channels ?_ _ _).trans ?_ <;> (repeat' (first | intro _ | split)) <;> simp)
@[simp] theorem handRecords_digest (s : State) (r : Trigger) :
    (s.handRecords r).window.digest = s.window.digest := by
  unfold State.handRecords; try dsimp only
  repeat' split
  all_goals try simp
  all_goals try (refine (foldl_digest ?_ _ _).trans ?_ <;> (repeat' (first | intro _ | split)) <;> simp)
@[simp] theorem handRecords_taking (s : State) (r : Trigger) :
    (s.handRecords r).window.taking = s.window.taking := by
  unfold State.handRecords; try dsimp only
  repeat' split
  all_goals try simp
  all_goals try (refine (foldl_taking ?_ _ _).trans ?_ <;> (repeat' (first | intro _ | split)) <;> simp)
@[simp] theorem handRecords_frames_h (s : State) (r : Trigger) :
    (s.handRecords r).frames.h = s.frames.h := by
  unfold State.handRecords; try dsimp only
  repeat' split
  all_goals try simp
  all_goals try (refine (foldl_frames_h ?_ _ _).trans ?_ <;> (repeat' (first | intro _ | split)) <;> simp)
@[simp] theorem handRecords_frames_channels (s : State) (r : Trigger) :
    (s.handRecords r).frames.channels = s.frames.channels := by
  unfold State.handRecords; try dsimp only
  repeat' split
  all_goals try simp
  all_goals try (refine (foldl_frames_channels ?_ _ _).trans ?_ <;> (repeat' (first | intro _ | split)) <;> simp)
@[simp] theorem beginPacket_digest (s : State) (t : Tap) :
    (s.beginPacket t).window.digest = s.window.digest := by
  unfold State.beginPacket; try dsimp only
  repeat' split
  all_goals try simp
  all_goals try (refine (foldl_digest ?_ _ _).trans ?_ <;> (repeat' (first | intro _ | split)) <;> simp)
@[simp] theorem beginPacket_taking (s : State) (t : Tap) :
    (s.beginPacket t).window.taking = s.window.taking := by
  unfold State.beginPacket; try dsimp only
  repeat' split
  all_goals try simp
  all_goals try (refine (foldl_taking ?_ _ _).trans ?_ <;> (repeat' (first | intro _ | split)) <;> simp)
@[simp] theorem beginPacket_frames_h (s : State) (t : Tap) :
    (s.beginPacket t).frames.h = s.frames.h := by
  unfold State.beginPacket; try dsimp only
  repeat' split
  all_goals try simp
  all_goals try (refine (foldl_frames_h ?_ _ _).trans ?_ <;> (repeat' (first | intro _ | split)) <;> simp)
@[simp] theorem beginPacket_frames_channels (s : State) (t : Tap) :
    (s.beginPacket t).frames.channels = s.frames.channels := by
  unfold State.beginPacket; try dsimp only
  repeat' split
  all_goals try simp
  all_goals try (refine (foldl_frames_channels ?_ _ _).trans ?_ <;> (repeat' (first | intro _ | split)) <;> simp)
@[simp] theorem badPacket_digest (s : State) (t : Tap) (bytes : List Byte) :
    (s.badPacket t bytes).window.digest = s.window.digest := by
  unfold State.badPacket; try dsimp only
  repeat' split
  all_goals try simp
  all_goals try (refine (foldl_digest ?_ _ _).trans ?_ <;> (repeat' (first | intro _ | split)) <;> simp)
@[simp] theorem badPacket_taking (s : State) (t : Tap) (bytes : List Byte) :
    (s.badPacket t bytes).window.taking = s.window.taking := by
  unfold State.badPacket; try dsimp only
  repeat' split
  all_goals try simp
  all_goals try (refine (foldl_taking ?_ _ _).trans ?_ <;> (repeat' (first | intro _ | split)) <;> simp)
@[simp] theorem badPacket_frames_h (s : State) (t : Tap) (bytes : List Byte) :
    (s.badPacket t bytes).frames.h = s.frames.h := by
  unfold State.badPacket; try dsimp only
  repeat' split
  all_goals try simp
  all_goals try (refine (foldl_frames_h ?_ _ _).trans ?_ <;> (repeat' (first | intro _ | split)) <;> simp)
@[simp] theorem badPacket_frames_channels (s : State) (t : Tap) (bytes : List Byte) :
    (s.badPacket t bytes).frames.channels = s.frames.channels := by
  unfold State.badPacket; try dsimp only
  repeat' split
  all_goals try simp
  all_goals try (refine (foldl_frames_channels ?_ _ _).trans ?_ <;> (repeat' (first | intro _ | split)) <;> simp)
@[simp] theorem overrun_digest (s : State) (t : Tap) :
    (s.overrun t).window.digest = s.window.digest := by
  unfold State.overrun; try dsimp only
  repeat' split
  all_goals try simp
  all_goals try (refine (foldl_digest ?_ _ _).trans ?_ <;> (repeat' (first | intro _ | split)) <;> simp)
@[simp] theorem overrun_taking (s : State) (t : Tap) :
    (s.overrun t).window.taking = s.window.taking := by
  unfold State.overrun; try dsimp only
  repeat' split
  all_goals try simp
  all_goals try (refine (foldl_taking ?_ _ _).trans ?_ <;> (repeat' (first | intro _ | split)) <;> simp)
@[simp] theorem overrun_frames_h (s : State) (t : Tap) :
    (s.overrun t).frames.h = s.frames.h := by
  unfold State.overrun; try dsimp only
  repeat' split
  all_goals try simp
  all_goals try (refine (foldl_frames_h ?_ _ _).trans ?_ <;> (repeat' (first | intro _ | split)) <;> simp)
@[simp] theorem overrun_frames_channels (s : State) (t : Tap) :
    (s.overrun t).frames.channels = s.frames.channels := by
  unfold State.overrun; try dsimp only
  repeat' split
  all_goals try simp
  all_goals try (refine (foldl_frames_channels ?_ _ _).trans ?_ <;> (repeat' (first | intro _ | split)) <;> simp)
@[simp] theorem setPort_digest (s : State) (t : Tap) (p : LinePort) :
    (s.setPort t p).window.digest = s.window.digest := by
  unfold State.setPort; try dsimp only
  repeat' split
  all_goals try simp
  all_goals try (refine (foldl_digest ?_ _ _).trans ?_ <;> (repeat' (first | intro _ | split)) <;> simp)
@[simp] theorem setPort_taking (s : State) (t : Tap) (p : LinePort) :
    (s.setPort t p).window.taking = s.window.taking := by
  unfold State.setPort; try dsimp only
  repeat' split
  all_goals try simp
  all_goals try (refine (foldl_taking ?_ _ _).trans ?_ <;> (repeat' (first | intro _ | split)) <;> simp)
@[simp] theorem setPort_frames_h (s : State) (t : Tap) (p : LinePort) :
    (s.setPort t p).frames.h = s.frames.h := by
  unfold State.setPort; try dsimp only
  repeat' split
  all_goals try simp
  all_goals try (refine (foldl_frames_h ?_ _ _).trans ?_ <;> (repeat' (first | intro _ | split)) <;> simp)
@[simp] theorem setPort_frames_channels (s : State) (t : Tap) (p : LinePort) :
    (s.setPort t p).frames.channels = s.frames.channels := by
  unfold State.setPort; try dsimp only
  repeat' split
  all_goals try simp
  all_goals try (refine (foldl_frames_channels ?_ _ _).trans ?_ <;> (repeat' (first | intro _ | split)) <;> simp)
@[simp] theorem reconcile_digest (s : State) (t : Tap) (slot : Fin 256) (c : Byte) (pixels : List Byte) :
    (s.reconcile t slot c pixels).window.digest = s.window.digest := by
  unfold State.reconcile; try dsimp only
  repeat' split
  all_goals try simp
  all_goals try (refine (foldl_digest ?_ _ _).trans ?_ <;> (repeat' (first | intro _ | split)) <;> simp)
@[simp] theorem reconcile_taking (s : State) (t : Tap) (slot : Fin 256) (c : Byte) (pixels : List Byte) :
    (s.reconcile t slot c pixels).window.taking = s.window.taking := by
  unfold State.reconcile; try dsimp only
  repeat' split
  all_goals try simp
  all_goals try (refine (foldl_taking ?_ _ _).trans ?_ <;> (repeat' (first | intro _ | split)) <;> simp)
@[simp] theorem reconcile_frames_h (s : State) (t : Tap) (slot : Fin 256) (c : Byte) (pixels : List Byte) :
    (s.reconcile t slot c pixels).frames.h = s.frames.h := by
  unfold State.reconcile; try dsimp only
  repeat' split
  all_goals try simp
  all_goals try (refine (foldl_frames_h ?_ _ _).trans ?_ <;> (repeat' (first | intro _ | split)) <;> simp)
@[simp] theorem reconcile_frames_channels (s : State) (t : Tap) (slot : Fin 256) (c : Byte) (pixels : List Byte) :
    (s.reconcile t slot c pixels).frames.channels = s.frames.channels := by
  unfold State.reconcile; try dsimp only
  repeat' split
  all_goals try simp
  all_goals try (refine (foldl_frames_channels ?_ _ _).trans ?_ <;> (repeat' (first | intro _ | split)) <;> simp)
@[simp] theorem arrive_digest (s : State) (t : Tap) (slot : Fin 256) (bytes : List Byte) :
    (s.arrive t slot bytes).window.digest = s.window.digest := by
  unfold State.arrive; try dsimp only
  repeat' split
  all_goals try simp
  all_goals try (refine (foldl_digest ?_ _ _).trans ?_ <;> (repeat' (first | intro _ | split)) <;> simp)
@[simp] theorem arrive_taking (s : State) (t : Tap) (slot : Fin 256) (bytes : List Byte) :
    (s.arrive t slot bytes).window.taking = s.window.taking := by
  unfold State.arrive; try dsimp only
  repeat' split
  all_goals try simp
  all_goals try (refine (foldl_taking ?_ _ _).trans ?_ <;> (repeat' (first | intro _ | split)) <;> simp)
@[simp] theorem arrive_frames_h (s : State) (t : Tap) (slot : Fin 256) (bytes : List Byte) :
    (s.arrive t slot bytes).frames.h = s.frames.h := by
  unfold State.arrive; try dsimp only
  repeat' split
  all_goals try simp
  all_goals try (refine (foldl_frames_h ?_ _ _).trans ?_ <;> (repeat' (first | intro _ | split)) <;> simp)
@[simp] theorem arrive_frames_channels (s : State) (t : Tap) (slot : Fin 256) (bytes : List Byte) :
    (s.arrive t slot bytes).frames.channels = s.frames.channels := by
  unfold State.arrive; try dsimp only
  repeat' split
  all_goals try simp
  all_goals try (refine (foldl_frames_channels ?_ _ _).trans ?_ <;> (repeat' (first | intro _ | split)) <;> simp)
@[simp] theorem afterTap_digest (s : State) :
    (s.afterTap).window.digest = s.window.digest := by
  unfold State.afterTap; try dsimp only
  repeat' split
  all_goals try simp
  all_goals try (refine (foldl_digest ?_ _ _).trans ?_ <;> (repeat' (first | intro _ | split)) <;> simp)
@[simp] theorem afterTap_taking (s : State) :
    (s.afterTap).window.taking = s.window.taking := by
  unfold State.afterTap; try dsimp only
  repeat' split
  all_goals try simp
  all_goals try (refine (foldl_taking ?_ _ _).trans ?_ <;> (repeat' (first | intro _ | split)) <;> simp)
@[simp] theorem afterTap_frames_h (s : State) :
    (s.afterTap).frames.h = s.frames.h := by
  unfold State.afterTap; try dsimp only
  repeat' split
  all_goals try simp
  all_goals try (refine (foldl_frames_h ?_ _ _).trans ?_ <;> (repeat' (first | intro _ | split)) <;> simp)
@[simp] theorem afterTap_frames_channels (s : State) :
    (s.afterTap).frames.channels = s.frames.channels := by
  unfold State.afterTap; try dsimp only
  repeat' split
  all_goals try simp
  all_goals try (refine (foldl_frames_channels ?_ _ _).trans ?_ <;> (repeat' (first | intro _ | split)) <;> simp)
@[simp] theorem presentAdvance_digest (s : State) :
    (s.presentAdvance).window.digest = s.window.digest := by
  unfold State.presentAdvance; try dsimp only
  repeat' split
  all_goals try simp
  all_goals try (refine (foldl_digest ?_ _ _).trans ?_ <;> (repeat' (first | intro _ | split)) <;> simp)
@[simp] theorem presentAdvance_taking (s : State) :
    (s.presentAdvance).window.taking = s.window.taking := by
  unfold State.presentAdvance; try dsimp only
  repeat' split
  all_goals try simp
  all_goals try (refine (foldl_taking ?_ _ _).trans ?_ <;> (repeat' (first | intro _ | split)) <;> simp)
@[simp] theorem presentAdvance_frames_h (s : State) :
    (s.presentAdvance).frames.h = s.frames.h := by
  unfold State.presentAdvance; try dsimp only
  repeat' split
  all_goals try simp
  all_goals try (refine (foldl_frames_h ?_ _ _).trans ?_ <;> (repeat' (first | intro _ | split)) <;> simp)
@[simp] theorem presentAdvance_frames_channels (s : State) :
    (s.presentAdvance).frames.channels = s.frames.channels := by
  unfold State.presentAdvance; try dsimp only
  repeat' split
  all_goals try simp
  all_goals try (refine (foldl_frames_channels ?_ _ _).trans ?_ <;> (repeat' (first | intro _ | split)) <;> simp)
@[simp] theorem fireStrobes_digest (s : State) (phase : Nat) :
    (s.fireStrobes phase).window.digest = s.window.digest := by
  unfold State.fireStrobes; try dsimp only
  repeat' split
  all_goals try simp
  all_goals try (refine (foldl_digest ?_ _ _).trans ?_ <;> (repeat' (first | intro _ | split)) <;> simp)
@[simp] theorem fireStrobes_taking (s : State) (phase : Nat) :
    (s.fireStrobes phase).window.taking = s.window.taking := by
  unfold State.fireStrobes; try dsimp only
  repeat' split
  all_goals try simp
  all_goals try (refine (foldl_taking ?_ _ _).trans ?_ <;> (repeat' (first | intro _ | split)) <;> simp)
@[simp] theorem fireStrobes_frames_h (s : State) (phase : Nat) :
    (s.fireStrobes phase).frames.h = s.frames.h := by
  unfold State.fireStrobes; try dsimp only
  repeat' split
  all_goals try simp
  all_goals try (refine (foldl_frames_h ?_ _ _).trans ?_ <;> (repeat' (first | intro _ | split)) <;> simp)
@[simp] theorem fireStrobes_frames_channels (s : State) (phase : Nat) :
    (s.fireStrobes phase).frames.channels = s.frames.channels := by
  unfold State.fireStrobes; try dsimp only
  repeat' split
  all_goals try simp
  all_goals try (refine (foldl_frames_channels ?_ _ _).trans ?_ <;> (repeat' (first | intro _ | split)) <;> simp)
@[simp] theorem issueLine_digest (s : State) (n : Nat) :
    (s.issueLine n).window.digest = s.window.digest := by
  unfold State.issueLine; try dsimp only
  repeat' split
  all_goals try simp
  all_goals try (refine (foldl_digest ?_ _ _).trans ?_ <;> (repeat' (first | intro _ | split)) <;> simp)
@[simp] theorem issueLine_taking (s : State) (n : Nat) :
    (s.issueLine n).window.taking = s.window.taking := by
  unfold State.issueLine; try dsimp only
  repeat' split
  all_goals try simp
  all_goals try (refine (foldl_taking ?_ _ _).trans ?_ <;> (repeat' (first | intro _ | split)) <;> simp)
@[simp] theorem issueLine_frames_h (s : State) (n : Nat) :
    (s.issueLine n).frames.h = s.frames.h := by
  unfold State.issueLine; try dsimp only
  repeat' split
  all_goals try simp
  all_goals try (refine (foldl_frames_h ?_ _ _).trans ?_ <;> (repeat' (first | intro _ | split)) <;> simp)
@[simp] theorem issueLine_frames_channels (s : State) (n : Nat) :
    (s.issueLine n).frames.channels = s.frames.channels := by
  unfold State.issueLine; try dsimp only
  repeat' split
  all_goals try simp
  all_goals try (refine (foldl_frames_channels ?_ _ _).trans ?_ <;> (repeat' (first | intro _ | split)) <;> simp)
@[simp] theorem takeDue_digest (s : State) (n : Nat) :
    (s.takeDue n).window.digest = s.window.digest := by
  unfold State.takeDue; try dsimp only
  repeat' split
  all_goals try simp
  all_goals try (refine (foldl_digest ?_ _ _).trans ?_ <;> (repeat' (first | intro _ | split)) <;> simp)
@[simp] theorem takeDue_taking (s : State) (n : Nat) :
    (s.takeDue n).window.taking = s.window.taking := by
  unfold State.takeDue; try dsimp only
  repeat' split
  all_goals try simp
  all_goals try (refine (foldl_taking ?_ _ _).trans ?_ <;> (repeat' (first | intro _ | split)) <;> simp)
@[simp] theorem takeDue_frames_h (s : State) (n : Nat) :
    (s.takeDue n).frames.h = s.frames.h := by
  unfold State.takeDue; try dsimp only
  repeat' split
  all_goals try simp
  all_goals try (refine (foldl_frames_h ?_ _ _).trans ?_ <;> (repeat' (first | intro _ | split)) <;> simp)
@[simp] theorem takeDue_frames_channels (s : State) (n : Nat) :
    (s.takeDue n).frames.channels = s.frames.channels := by
  unfold State.takeDue; try dsimp only
  repeat' split
  all_goals try simp
  all_goals try (refine (foldl_frames_channels ?_ _ _).trans ?_ <;> (repeat' (first | intro _ | split)) <;> simp)
@[simp] theorem lineDue_digest (s : State) :
    (s.lineDue).window.digest = s.window.digest := by
  unfold State.lineDue; try dsimp only
  repeat' split
  all_goals try simp
  all_goals try (refine (foldl_digest ?_ _ _).trans ?_ <;> (repeat' (first | intro _ | split)) <;> simp)
@[simp] theorem lineDue_taking (s : State) :
    (s.lineDue).window.taking = s.window.taking := by
  unfold State.lineDue; try dsimp only
  repeat' split
  all_goals try simp
  all_goals try (refine (foldl_taking ?_ _ _).trans ?_ <;> (repeat' (first | intro _ | split)) <;> simp)
@[simp] theorem lineDue_frames_h (s : State) :
    (s.lineDue).frames.h = s.frames.h := by
  unfold State.lineDue; try dsimp only
  repeat' split
  all_goals try simp
  all_goals try (refine (foldl_frames_h ?_ _ _).trans ?_ <;> (repeat' (first | intro _ | split)) <;> simp)
@[simp] theorem lineDue_frames_channels (s : State) :
    (s.lineDue).frames.channels = s.frames.channels := by
  unfold State.lineDue; try dsimp only
  repeat' split
  all_goals try simp
  all_goals try (refine (foldl_frames_channels ?_ _ _).trans ?_ <;> (repeat' (first | intro _ | split)) <;> simp)
@[simp] theorem countUp_digest (s : State) :
    (s.countUp).window.digest = s.window.digest := by
  unfold State.countUp; try dsimp only
  repeat' split
  all_goals try simp
  all_goals try (refine (foldl_digest ?_ _ _).trans ?_ <;> (repeat' (first | intro _ | split)) <;> simp)
@[simp] theorem countUp_taking (s : State) :
    (s.countUp).window.taking = s.window.taking := by
  unfold State.countUp; try dsimp only
  repeat' split
  all_goals try simp
  all_goals try (refine (foldl_taking ?_ _ _).trans ?_ <;> (repeat' (first | intro _ | split)) <;> simp)
@[simp] theorem countUp_frames_h (s : State) :
    (s.countUp).frames.h = s.frames.h := by
  unfold State.countUp; try dsimp only
  repeat' split
  all_goals try simp
  all_goals try (refine (foldl_frames_h ?_ _ _).trans ?_ <;> (repeat' (first | intro _ | split)) <;> simp)
@[simp] theorem countUp_frames_channels (s : State) :
    (s.countUp).frames.channels = s.frames.channels := by
  unfold State.countUp; try dsimp only
  repeat' split
  all_goals try simp
  all_goals try (refine (foldl_frames_channels ?_ _ _).trans ?_ <;> (repeat' (first | intro _ | split)) <;> simp)
@[simp] theorem encoderError_digest (s : State) :
    (s.encoderError).window.digest = s.window.digest := by
  unfold State.encoderError; try dsimp only
  repeat' split
  all_goals try simp
  all_goals try (refine (foldl_digest ?_ _ _).trans ?_ <;> (repeat' (first | intro _ | split)) <;> simp)
@[simp] theorem encoderError_taking (s : State) :
    (s.encoderError).window.taking = s.window.taking := by
  unfold State.encoderError; try dsimp only
  repeat' split
  all_goals try simp
  all_goals try (refine (foldl_taking ?_ _ _).trans ?_ <;> (repeat' (first | intro _ | split)) <;> simp)
@[simp] theorem encoderError_frames_h (s : State) :
    (s.encoderError).frames.h = s.frames.h := by
  unfold State.encoderError; try dsimp only
  repeat' split
  all_goals try simp
  all_goals try (refine (foldl_frames_h ?_ _ _).trans ?_ <;> (repeat' (first | intro _ | split)) <;> simp)
@[simp] theorem encoderError_frames_channels (s : State) :
    (s.encoderError).frames.channels = s.frames.channels := by
  unfold State.encoderError; try dsimp only
  repeat' split
  all_goals try simp
  all_goals try (refine (foldl_frames_channels ?_ _ _).trans ?_ <;> (repeat' (first | intro _ | split)) <;> simp)
@[simp] theorem align_digest (s : State) (offset : Word) :
    (s.align offset).window.digest = s.window.digest := by
  unfold State.align; try dsimp only
  repeat' split
  all_goals try simp
  all_goals try (refine (foldl_digest ?_ _ _).trans ?_ <;> (repeat' (first | intro _ | split)) <;> simp)
@[simp] theorem align_taking (s : State) (offset : Word) :
    (s.align offset).window.taking = s.window.taking := by
  unfold State.align; try dsimp only
  repeat' split
  all_goals try simp
  all_goals try (refine (foldl_taking ?_ _ _).trans ?_ <;> (repeat' (first | intro _ | split)) <;> simp)
@[simp] theorem align_frames_h (s : State) (offset : Word) :
    (s.align offset).frames.h = s.frames.h := by
  unfold State.align; try dsimp only
  repeat' split
  all_goals try simp
  all_goals try (refine (foldl_frames_h ?_ _ _).trans ?_ <;> (repeat' (first | intro _ | split)) <;> simp)
@[simp] theorem align_frames_channels (s : State) (offset : Word) :
    (s.align offset).frames.channels = s.frames.channels := by
  unfold State.align; try dsimp only
  repeat' split
  all_goals try simp
  all_goals try (refine (foldl_frames_channels ?_ _ _).trans ?_ <;> (repeat' (first | intro _ | split)) <;> simp)
@[simp] theorem enterIssuing_digest (s : State) :
    (s.enterIssuing).window.digest = s.window.digest := by
  unfold State.enterIssuing; try dsimp only
  repeat' split
  all_goals try simp
  all_goals try (refine (foldl_digest ?_ _ _).trans ?_ <;> (repeat' (first | intro _ | split)) <;> simp)
@[simp] theorem enterIssuing_taking (s : State) :
    (s.enterIssuing).window.taking = s.window.taking := by
  unfold State.enterIssuing; try dsimp only
  repeat' split
  all_goals try simp
  all_goals try (refine (foldl_taking ?_ _ _).trans ?_ <;> (repeat' (first | intro _ | split)) <;> simp)
@[simp] theorem enterIssuing_frames_h (s : State) :
    (s.enterIssuing).frames.h = s.frames.h := by
  unfold State.enterIssuing; try dsimp only
  repeat' split
  all_goals try simp
  all_goals try (refine (foldl_frames_h ?_ _ _).trans ?_ <;> (repeat' (first | intro _ | split)) <;> simp)
@[simp] theorem enterIssuing_frames_channels (s : State) :
    (s.enterIssuing).frames.channels = s.frames.channels := by
  unfold State.enterIssuing; try dsimp only
  repeat' split
  all_goals try simp
  all_goals try (refine (foldl_frames_channels ?_ _ _).trans ?_ <;> (repeat' (first | intro _ | split)) <;> simp)

end Sys2Proof.Machine
end

