-- ==== Sys2Proof/Laws/Memory.lean ====
section
/-! SUPPORT. The laws of the configuration area: its canonical form through every write, and what is read after one. -/

namespace Sys2Proof.Machine

theorem Memory.wf_cons (a : Nat) (v : Byte) (rest : Memory) :
    Memory.wf ((a, v) :: rest) = true
      ↔ v ≠ Memory.unlisted ∧ (∀ c ∈ rest, a < c.1) ∧ Memory.wf rest = true := by
  simp [Memory.wf, and_assoc]

/-- An offset below every listed one reads as an unlisted one. -/
theorem Memory.read_below (m : Memory) (a : Nat) (h : ∀ c ∈ m, a < c.1) : Memory.read m a = Memory.unlisted := by
  induction m with
  | nil => rfl
  | cons c rest ih =>
    obtain ⟨b, w⟩ := c
    have hb : a < b := h (b, w) (by simp)
    rw [Memory.read, if_neg (by omega)]
    exact ih fun c hc => h c (by simp [hc])

/-- A write lists no offset but its own and those listed before. -/
theorem Memory.mem_write (m : Memory) (a : Nat) (v : Byte) (c : Host.Cell) (h : c ∈ Memory.write m a v) :
    c = (a, v) ∨ c ∈ m := by
  induction m with
  | nil => unfold Memory.write at h; split at h <;> simp_all
  | cons d rest ih =>
    obtain ⟨b, w⟩ := d
    unfold Memory.write at h
    split at h
    · split at h <;> simp_all
    · split at h
      · split at h
        · exact .inr (by simp [h])
        · simp only [List.mem_cons] at h ⊢; tauto
      · simp only [List.mem_cons] at h ⊢
        rcases h with h | h
        · exact .inr (.inl h)
        · rcases ih h with h | h
          · exact .inl h
          · exact .inr (.inr h)

/-- A write keeps the canonical form. -/
theorem Memory.write_wf (m : Memory) (a : Nat) (v : Byte) (h : Memory.wf m = true) :
    Memory.wf (Memory.write m a v) = true := by
  induction m with
  | nil => unfold Memory.write; split <;> simp_all [Memory.wf]
  | cons d rest ih =>
    obtain ⟨b, w⟩ := d
    obtain ⟨hw, hlow, hrest⟩ := (Memory.wf_cons b w rest).1 h
    unfold Memory.write
    split
    · split
      · exact h
      · rename_i hab hv
        refine (Memory.wf_cons _ _ _).2 ⟨hv, ?_, h⟩
        intro c hc
        rcases List.mem_cons.1 hc with rfl | hc
        · exact hab
        · exact Nat.lt_trans hab (hlow c hc)
    · split
      · split
        · exact hrest
        · rename_i hab hv
          refine (Memory.wf_cons _ _ _).2 ⟨hv, ?_, hrest⟩
          intro c hc
          have := hlow c hc
          omega
      · refine (Memory.wf_cons _ _ _).2 ⟨hw, ?_, ih hrest⟩
        intro c hc
        rcases Memory.mem_write rest a v c hc with rfl | hc
        · simp only; omega
        · exact hlow c hc

theorem Memory.writeAll_wf (m : Memory) (cells : List Host.Cell) (h : Memory.wf m = true) :
    Memory.wf (Memory.writeAll m cells) = true := by
  induction cells generalizing m with
  | nil => exact h
  | cons c rest ih => exact ih _ (Memory.write_wf m c.1 c.2 h)

theorem Memory.reset_wf : Memory.wf State.reset.window.area = true := rfl

/-- What is read after a write. -/
theorem Memory.read_write (m : Memory) (a b : Nat) (v : Byte) (h : Memory.wf m = true) :
    Memory.read (Memory.write m a v) b = if b = a then v else Memory.read m b := by
  induction m with
  | nil =>
    unfold Memory.write
    split <;> simp_all [Memory.read]
  | cons d rest ih =>
    obtain ⟨c, w⟩ := d
    obtain ⟨_, hlow, hrest⟩ := (Memory.wf_cons c w rest).1 h
    unfold Memory.write
    split
    · rename_i hac
      split
      · rename_i hv
        by_cases hb : b = a
        · rw [if_pos hb, hb, hv]
          refine Memory.read_below _ _ ?_
          intro e he
          rcases List.mem_cons.1 he with rfl | he
          · exact hac
          · exact Nat.lt_trans hac (hlow e he)
        · rw [if_neg hb]
      · rfl
    · split
      · rename_i hac
        subst hac
        split
        · rename_i hv
          by_cases hb : b = a
          · rw [if_pos hb, hb, hv]; exact Memory.read_below _ _ hlow
          · rw [if_neg hb, Memory.read, if_neg hb]
        · by_cases hb : b = a <;> simp [Memory.read, hb]
      · by_cases hb : b = c
        · have : b ≠ a := by omega
          rw [if_neg this, Memory.read, if_pos hb, Memory.read, if_pos hb]
        · rw [Memory.read, if_neg hb, ih hrest, Memory.read, if_neg hb]

/-- Writes to other offsets leave an offset as it was. -/
theorem Memory.read_writeAll_other (m : Memory) (cells : List Host.Cell) (b : Nat) (h : Memory.wf m = true)
    (hb : ∀ c ∈ cells, c.1 ≠ b) : Memory.read (Memory.writeAll m cells) b = Memory.read m b := by
  induction cells generalizing m with
  | nil => rfl
  | cons c rest ih =>
    have hc : b ≠ c.1 := fun e => hb c (by simp) e.symm
    refine (ih (Memory.write m c.1 c.2) (Memory.write_wf m c.1 c.2 h) fun d hd => hb d (by simp [hd])).trans ?_
    rw [Memory.read_write m c.1 b c.2 h, if_neg hc]

/-- Two areas in canonical form that read alike everywhere are equal data. -/
theorem Memory.ext_of_wf (m n : Memory) (hm : Memory.wf m = true) (hn : Memory.wf n = true)
    (h : ∀ a, Memory.read m a = Memory.read n a) : m = n := by
  induction m generalizing n with
  | nil =>
    cases n with
    | nil => rfl
    | cons d rest =>
      obtain ⟨b, w⟩ := d
      have hw := ((Memory.wf_cons b w rest).1 hn).1
      have := h b
      simp [Memory.read] at this
      exact absurd this.symm hw
  | cons c mr ih =>
    obtain ⟨a, v⟩ := c
    obtain ⟨hv, hal, hmr⟩ := (Memory.wf_cons a v mr).1 hm
    cases n with
    | nil =>
      have := h a
      simp [Memory.read] at this
      exact absurd this hv
    | cons d nr =>
      obtain ⟨b, w⟩ := d
      obtain ⟨hw, hbl, hnr⟩ := (Memory.wf_cons b w nr).1 hn
      have hab : a = b := by
        rcases Nat.lt_trichotomy a b with hlt | heq | hgt
        · exfalso
          have h1 := h a
          rw [Memory.read, if_pos rfl, Memory.read_below ((b, w) :: nr) a (by
            intro e he
            rcases List.mem_cons.1 he with rfl | he
            · exact hlt
            · exact Nat.lt_trans hlt (hbl e he))] at h1
          exact hv h1
        · exact heq
        · exfalso
          have h1 := h b
          rw [Memory.read_below ((a, v) :: mr) b (by
            intro e he
            rcases List.mem_cons.1 he with rfl | he
            · exact hgt
            · exact Nat.lt_trans hgt (hal e he)), Memory.read, if_pos rfl] at h1
          exact hw h1.symm
      subst hab
      have hvw : v = w := by have := h a; simpa [Memory.read] using this
      subst hvw
      congr 1
      refine ih nr hmr hnr fun x => ?_
      by_cases hx : x = a
      · subst hx; rw [Memory.read_below _ _ hal, Memory.read_below _ _ hbl]
      · have := h x
        rwa [Memory.read, if_neg hx, Memory.read, if_neg hx] at this

end Sys2Proof.Machine
end

