-- ==== Sys2Proof/Tests/Slice0.lean ====
section
/-! SUPPORT. Small tests of the model: the check of ill-formed commands, the manual's worked examples, and for every
statement that has hypotheses a state and operands that meet them, clause by clause. -/

namespace Sys2Proof.Tests

-- One theorem after another: checked side by side they take too many threads.
set_option Elab.async false

open Sys2Proof Sys2Proof.Machine

/-! ### Commands that their rows do not describe -/

theorem test_wf_unknown_code_that_names_a_command : (Instr.unknownCommand 0 11).wf = false := rfl

theorem test_wf_unknown_codes : (Instr.unknownCommand 0 0).wf = true ∧ (Instr.unknownCommand 0 12).wf = true := ⟨rfl, rfl⟩

theorem test_wf_config_write_past_the_area :
    (Instr.configWrite 0 148 1).wf = false ∧ (Instr.configWrite 0 147 1).wf = true := ⟨rfl, rfl⟩

theorem test_wf_ignored_write_into_area_or_command_words :
    (Instr.ignoredWrite 0 147 1).wf = false ∧ (Instr.ignoredWrite 0 192 1).wf = false
      ∧ (Instr.ignoredWrite 0 196 1).wf = false ∧ (Instr.ignoredWrite 0 197 1).wf = true := ⟨rfl, rfl, rfl, rfl⟩

theorem test_wf_upset_past_the_area :
    (Instr.configCheck 0 [(0x250, 1)]).wf = false ∧ (Instr.configCheck 0 [(0x24F, 1)]).wf = true := ⟨rfl, rfl⟩

theorem test_ill_formed_commands_change_nothing (s : State) (v : Word) :
    exec (.unknownCommand 0 11) s = .next (s.tick 0) ∧ exec (.configWrite 0 148 v) s = .next (s.tick 0) := ⟨rfl, rfl⟩

theorem test_no_word_spells_a_command : decodeTableWord 8 0 = none := rfl

/-! ### Worked examples of the manual -/

/-- R187: the check value of the nine bytes "123456789". -/
theorem test_crc16_check_value : crc16 [0x31, 0x32, 0x33, 0x34, 0x35, 0x36, 0x37, 0x38, 0x39] = 0x29B1#16 := by decide +kernel

/-- R132: 1,024 bytes from 3,648 into a page, maximum payload 256. -/
theorem test_burst_example :
    burstLength 256 3648 1024 = 256 ∧ burstLength 256 3904 768 = 192 ∧ burstLength 256 4096 576 = 256
      ∧ burstLength 256 4352 320 = 256 ∧ burstLength 256 4608 64 = 64 := by decide +kernel

/-- R9: line 3,605 with L = 1,200 and P = 3. -/
theorem test_line_3605 :
    frameOf [(0x002, 0xB0), (0x003, 4), (0x004, 3)] 3605 = 3 ∧ phaseOf [(0x002, 0xB0), (0x003, 4), (0x004, 3)] 3605 = 2 :=
  by decide +kernel

/-- R11: the last line with D = 1 and L = 32,768 or 100. -/
theorem test_last_lines :
    lastLine [(0x000, 1), (0x003, 0x80)] = 4294967295 ∧ lastLine [(0x000, 1), (0x002, 100)] = 4294967199 := by
  decide +kernel

/-- The numbers of data cells that 11_formats.md gives for whole notes. -/
theorem test_note_lengths :
    let e : Option Steer := some { channel := 0, seq := 0, base := 0 }
    let c : RollChannel := { complete := true, nextSeq := 0, queueLength := 0 }
    let r : Roll :=
      { groupCount := 0, roster := 3, gateOpen := true, gateFrame := 0, h := 0, digest := 0, faultSummary := false
        occupied := [1, 2, 3], channels := [c, c, c, c] }
    (noteCells 0 (.drop 1)).length = 17 ∧ (noteCells 0 (.opening 0 3 (.two e e))).length = 144
      ∧ (noteCells 0 (.opening 0 3 (.two none none))).length = 42
      ∧ (noteCells 0 (.roll r)).length = 217 := by
  decide +kernel

/-- The codes of kinds and the cells of a note: GATE OPEN for frame 5 of station 3 (11_formats.md). -/
theorem test_gate_note_cells :
    bodyCells 3 (.gate true 5) =
      [true, false, false, false, true, true, true, false] ++ List.replicate 13 false ++ [true, false, true] := by decide +kernel

theorem test_note_read_back : readNote (noteCells 3 (.gate true 5)) = some (3, .gate true 5) := by decide +kernel

/-- A damaged cell, a reserved code and a short note are faulty (R46, R73). -/
theorem test_faulty_notes :
    readNote ((noteCells 3 (.gate true 5)).set 20 true) = none ∧ readNote [] = none
      ∧ readCode12 [true, true] = none ∧ readCode12 [false, false] = none := by decide +kernel

/-! ### A configured station -/

/-- A record that passes every check: 4 counts a line, 16 lines a frame, one phase, one stream, one channel of home 1,
one tap of 16 pixels at station 1. -/
def area : Memory :=
  [(0x000, 4), (0x002, 16), (0x004, 1), (0x005, 1), (0x009, 255), (0x00A, 255), (0x00B, 255), (0x00C, 8), (0x00D, 1),
   (0x00E, 2), (0x00F, 1), (0x010, 10), (0x012, 10), (0x014, 232), (0x015, 3), (0x016, 10), (0x018, 64), (0x021, 1)]
  ++ [(0x024, 7), (0x029, 4), (0x030, 4), (0x0F8, 1), (0x0FA, 16), (0x200, 255), (0x201, 1), (0x208, 1), (0x221, 1),
      (0x230, 1), (0x236, 5), (0x238, 2), (0x23E, 5), (0x240, 3), (0x246, 5), (0x24E, 5)]

theorem test_area_canonical : Memory.wf area = true := by decide +kernel

theorem test_area_passes_every_check : configChecks area = List.replicate 10 true := by decide +kernel

theorem test_first_failed_check : failedCheck (Memory.write area 0x004 3) = some 1 ∧ failedCheck [] = some 1 := by decide +kernel

theorem test_last_line : lastLine area = 1073741823 := by decide +kernel

/-- The state that a command leaves. -/
def ran (c : Instr) (s : State) : State :=
  match exec c s with
  | .next u => u
  | .fault _ | .refused _ => s

/-- Station 1 of the roster {0, 1}, in a state. -/
def seat (st : StationState) : State :=
  { State.reset with
    mem := { Membership.reset with state := st, number := some 1, roster := 3 }
    trunk := { Trunk.reset with view := .idle }
    window := { Window.reset with area := area } }

def member : State := seat .member

def taking (code : Byte) (s : State) : State :=
  { s with window := { s.window with command := code, taking := some { code, args := s.window.args } } }

def withArgs (a b c : Word) (s : State) : State := { s with window := { s.window with args := #v[a, b, c, 0] } }

def steer0 : Steer := { channel := 0, seq := 4, base := 9 }

def part : OwnPart := OwnPart.new

def leg (own : Option OwnPart) : Leg :=
  { status := .pending, steer := some steer0, mask := 3, delivered := 1, void := 0, removed := 0, gapTotal := 0,
    flags := 0, own := own }

def unsteered : Leg :=
  { status := .unsteered, steer := none, mask := 3, delivered := 0, void := 0, removed := 0, gapTotal := 0, flags := 0,
    own := none }

/-- Frame 2 in its slot, with an own part. -/
def framed (p : OwnPart) (s : State) : State :=
  s.setSlot 2 (.known { frame := 2, resumed := false, legs := #v[leg (some p), unsteered] })

def flushing : OwnPart := { part with state := .flushing, flush := .issued 1 0 }

/-- The line of index 33, of frame 2, in slot 0 of the pool. -/
def line0 : Line := { index := 33, phase := 0, slot := 0, pixels := List.replicate 16 5 }

/-- The line waits at the head of tap 0, the rows up to 31 handled. -/
def lined (s : State) : State :=
  { s.setLines 0 [line0] with delivery := { s.delivery with handled := #v[31, 0] }, pos := { s.pos with lineIndex := 34 } }

theorem test_invariants_met_by_a_member :
    (framed part member).areaCanonical ∧ (framed part member).triggersBounded ∧ (framed part member).placesBounded
      ∧ (framed part member).recordsBounded ∧ (framed part member).eventsBounded ∧ (framed part member).grantsBounded
      ∧ (framed part member).schedulesBounded := by
  refine ⟨test_area_canonical, ?_, (by decide +kernel : (framed part member).placesTaken ≤ 8),
    (by decide +kernel : (framed part member).records.queue.length ≤ 16),
    ⟨by decide +kernel, by decide +kernel⟩, ?_, ?_⟩
  · intro t; revert t; decide +kernel
  · intro c; revert c; decide +kernel
  · intro j; revert j; decide +kernel

theorem test_pool_accounted_with_a_line :
    (lined (framed part member)).heldSlots.Nodup ∧ (∀ t : Tap, (lined (framed part member)).tapHolds t ≤ 192)
      ∧ (lined (framed part member)).tapHolds 0 = 1 := by
  and_intros <;> decide +kernel

theorem test_slots_placed_with_an_entry : (framed part member).slotsPlaced := by
  intro i k h
  revert h
  fin_cases i <;> simp [framed, State.setSlot, member, seat, State.reset, FrameUnit.reset, Slot.frame]
  rintro rfl; rfl

theorem test_legs_sound_with_an_entry : (framed part member).legsSound := by
  intro i j l h
  revert h
  fin_cases i <;> fin_cases j <;>
    simp (config := { contextual := true }) [framed, State.setSlot, member, seat, State.reset, FrameUnit.reset,
      State.legAt, Slot.entry, leg, unsteered, Leg.setsSound, eq_comm]

theorem test_quotas_kept_with_a_drop : (member.joinList (.drop 0)).quotasKept := by
  refine ⟨fun k => by cases k <;> decide, by decide +kernel, ?_⟩
  intro c h; simp [member, seat, State.reset, TransmitQueue.reset, State.joinList, State.setPending, State.bump] at h

theorem test_outsiders_empty : ({ seat .configured with mem := { (seat .configured).mem with roster := 0 } } : State).outsidersEmpty := by
  intro _; refine ⟨rfl, rfl, rfl, rfl, ?_⟩; intro p; revert p; decide

/-! ### Witnesses: the step, resets, frames -/

theorem test_StepRunsFrontCommand_met :
    { member with pending := [.trunkIdle 0, .mark 0] }.pending = [.trunkIdle 0, .mark 0]
      ∧ member.pending = [] := by
  and_intros <;> decide +kernel

theorem test_ResetsOfTheWholeStation_met :
    member.window.taking = none
      ∧ (taking 11 member).takingCode = some 11
      ∧ (taking 11 member).window.command = 11 := by
  and_intros <;> decide +kernel

theorem test_AcquisitionReset_met :
    State.reset.window.taking = none
      ∧ State.reset.mem.state = .unconfigured
      ∧ member.window.taking = none
      ∧ member.mem.state ≠ .unconfigured ∧ (seat .listening).mem.state ≠ .member
      ∧ member.onWire .signal = false ∧ member.trunk.wire = none
      ∧ (framed part member).partAt 2 0 = some part := by
  and_intros <;> decide +kernel

theorem test_step_from_met_invariants :
    step (framed part member) = .next (framed part member) := rfl

theorem test_AreaFrame_met :
    Instr.writesArea (.trunkIdle 0) = false
      ∧ exec (.linkUp 0) member = .next (member.tick 0) := ⟨rfl, rfl⟩

theorem test_UnitFrames_met :
    exec (.linkUp 5) member = .next (member.tick 5)
      ∧ exec (.trigPulseEnd 5 0) member = .next (member.tick 5)
      ∧ exec (.processGate 5) member = .next (member.tick 5) := ⟨rfl, rfl, rfl⟩

/-! ### Witnesses: notes, counts, formats -/

def fullRoll : Roll :=
  { groupCount := 7, roster := 3, gateOpen := true, gateFrame := 2, h := 1, digest := 5, faultSummary := false
    occupied := List.replicate 8 9
    channels := List.replicate 8 { complete := true, nextSeq := 1, queueLength := 16 } }

theorem test_NotesReadAsWritten_met : Note.wf (.roll fullRoll) = true ∧ Note.wf .rosterLeave = true := by decide +kernel

def patterned : State := { member with window := { member.window with area := Memory.write area 0x201 2 } }

theorem test_PatternBytes_met :
    (3 < 16 ∧ 4 < 16 ∧ 5 < 16 ∧ 6 < 16) ∧ (patternLine true 3 1 7 300)[256]? = some 0
      ∧ patterned.tapMode 0 = .pattern ∧ patterned.slotGranted 0 = true := by
  and_intros <;> decide +kernel

theorem test_FramesExtended_met :
    131073 ≤ frameOf area (lastLine area)
      ∧ 40000 ≤ frameOf area (lastLine area) ∧ 72768 ≤ 40000 + 32768 ∧ 40000 ≤ 72768 + 32767
      ∧ 7233 + 32767 = 40000 := by
  and_intros <;> decide +kernel

/-! ### Witnesses: position unit -/

/-- Between counts, with the reference pair low; `due` says whether the next up-count brings the next line. -/
def counting (mode : PositionMode) (nextDue : Word) (last : Option Moment) : State :=
  { member with
    pos := { member.pos with reference := some (false, false), mode := mode, nextDue := nextDue, lastIssue := last } }

theorem test_EncoderCounts_met :
    member.pos.reference = none
      ∧ (counting .stopped 4 none).pos.reference = some (false, false)
      ∧ ((false, true), (false, false)) ∈ forwardSteps
      ∧ ((false, false), (true, false)) ∈ forwardSteps
      ∧ (counting .stopped 4 none).pos.mode = .stopped
      ∧ { counting .issuing 4 none with pos := { (counting .issuing 4 none).pos with raw := 5 } }.groupCount
          ≠ (counting .issuing 4 none).pos.w := by
  and_intros <;> decide +kernel

theorem test_IllegalEncoderStep_met :
    (counting .issuing 4 none).pos.reference = some (!true, !true)
      ∧ (counting .issuing 4 none).mem.state = .member
      ∧ { seat .leaving with pos := (counting .tracking 4 none).pos }.pos.reference
        = some (!true, !true) := by
  and_intros <;> decide +kernel

theorem test_DueLineAdvances_met :
    (counting .tracking 1 none).pos.mode ≠ .stopped
      ∧ (counting .tracking 1 none).groupCount = (counting .tracking 1 none).pos.w
      ∧ 0 ≤ ((counting .tracking 1 none).pos.w + 1 - (counting .tracking 1 none).pos.nextDue).toInt
      ∧ (counting .tracking 1 none).pos.lineIndex < lastLine (counting .tracking 1 none).area
      ∧ ¬ 0 ≤ ((counting .tracking 2 none).pos.w + 1 - (counting .tracking 2 none).pos.nextDue).toInt := by
  and_intros <;> decide +kernel

/-- A founder at the last line of frame 0, frame 1 allowed, an output about to reach its range. -/
def opener : State :=
  let s := counting .tracking 1 none
  { s.setOutputState 0 { Output.reset with ranges := [(3, 16), (16, 21)] } with
    pos := { s.pos with lineIndex := 15 }, frames := { s.frames with founded := true, gateFrame := 9 } }

theorem test_DueLineAdvances_opens_met :
    (15 + 1) / cfgL opener.area = 1 ∧ opener.openerEligible 1 = true ∧ opener.frames.h < 1 ∧ opener.allowed 1 = true
      ∧ opener.pendingOf .opening = [] ∧ (counting .tracking 1 none).openerEligible 0 = false
      ∧ cfgOutputMode opener.area 0 = .pulse
      ∧ (ran (.encoderEvent 0 true false) opener).pendingOf .opening = [{ claim := .opening 1, attempts := 0, doom := .none }]
      ∧ (ran (.encoderEvent 0 true false) opener).asserted 0 = true := by
  and_intros <;> decide +kernel

theorem test_DueLineIssuedOrSuppressed_met :
    (counting .issuing 1 (some 0)).pos.mode = .issuing
      ∧ (counting .issuing 1 (some 0)).groupCount = (counting .issuing 1 (some 0)).pos.w
      ∧ 0 ≤ ((counting .issuing 1 (some 0)).pos.w + 1 - (counting .issuing 1 (some 0)).pos.nextDue).toInt
      ∧ (counting .issuing 1 (some 0)).pos.lineIndex < lastLine (counting .issuing 1 (some 0)).area
      ∧ max (counting .issuing 1 (some 0)).now 999 < 0 + cfgLinePeriod (counting .issuing 1 (some 0)).area
      ∧ 0 + cfgLinePeriod (counting .issuing 1 (some 0)).area ≤ max (counting .issuing 1 (some 0)).now 1000
      ∧ (counting .issuing 1 none).pos.lastIssue = none
      ∧ (counting .issuing 1 none).tapMode 0 = .live ∧ ((counting .issuing 1 none).taps[0]).triggers.length < 4
      ∧ (counting .issuing 1 none).tapMode 1 = .off
      ∧ 4 ≤ (List.replicate 4 ({ index := 1, phase := 0, issued := 0 } : Trigger)).length := by
  and_intros <;> decide +kernel

def pulsing : State :=
  { member with pos := { member.pos with strobes := member.pos.strobes.set 2 (some 9) },
                taps := member.taps.set 1 { member.taps[1] with pulse := some 9 } }

theorem test_PulsesEnd_met :
    pulsing.pos.strobes[2] = some 9
      ∧ (pulsing.taps[1]).pulse = some 9
      ∧ 9 ≤ max pulsing.now 9 := by
  and_intros <;> decide +kernel

/-! ### Witnesses: camera taps -/

/-- Tap 0, LIVE, with triggers, a port and an expected counter. -/
def tapped (triggers : List Trigger) (port : LinePort) (expected : Byte) : State :=
  { member with taps := member.taps.set 0 { member.taps[0] with
      triggers := triggers, port := port, expected := expected, primed := true } }

def trigger (n : Nat) : Trigger := { index := n, phase := 0, issued := n }

/-- A good packet of counter 7. -/
def goodPacket : List Byte := [7, 16, 0, 0] ++ List.replicate 16 0 ++ [0x4E, 0xFC]

theorem test_TriggersTimeOut_met :
    (tapped [trigger 0, trigger 5] .idle 0).tapMode 0 = .live
      ∧ ((tapped [trigger 0, trigger 5] .idle 0).taps[0]).triggers = [trigger 0] ++ [trigger 5]
      ∧ 0 + cfgTriggerTimeout member.area ≤ max member.now 1000000
      ∧ max member.now 1000000 < 5 + cfgTriggerTimeout member.area := by
  and_intros <;> decide +kernel

theorem test_SyncWordBeginsPacket_met :
    (tapped [] .idle 0).tapMode 0 = .live
      ∧ ((tapped [] .idle 0).taps[0]).port = .idle
      ∧ 0 < (tapped [] .idle 0).freeCount
      ∧ (tapped [] .idle 0).tapHolds 0 < 192
      ∧ ((tapped [] (.filling 3) 0).taps[0]).port = .filling 3
      ∧ ((tapped [] .nowhere 0).taps[0]).port = .nowhere := by
  and_intros <;> decide +kernel

def crowded : State :=
  (tapped [] .idle 0).setLines 0 (List.replicate 192 { index := 1, phase := 0, slot := 0, pixels := [] })

theorem test_SyncWordBeginsPacket_full_met :
    crowded.tapMode 0 = .live
      ∧ (crowded.taps[0]).port = .idle
      ∧ 192 ≤ crowded.tapHolds 0 := by
  and_intros <;> decide +kernel

theorem test_GoodPacketReconciled_met :
    packetGood ((tapped [] (.filling 3) 7).tapWidth 0) goodPacket = true
      ∧ goodPacket[0]? = some 7 ∧ goodPacket[3]? = some 0
      ∧ (7 - 7 : Byte).toNat ≤ 3 ∧ [trigger 1].drop (7 - 7 : Byte).toNat = trigger 1 :: []
      ∧ (7 - 4 : Byte).toNat ≤ 3 ∧ [trigger 1, trigger 2].length ≤ (7 - 4 : Byte).toNat
      ∧ (7 - 8 : Byte).toNat = 255
      ∧ 4 ≤ (7 - 3 : Byte).toNat ∧ (7 - 9 : Byte).toNat ≤ 254
      ∧ ((tapped [] (.filling 3) 7).taps[0]).port = .filling 3 := by
  and_intros <;> decide +kernel

theorem test_BadPacketMissesHead_met :
    packetGood 16 [] = false ∧ packetGood 16 (goodPacket.set 5 1) = false
      ∧ ((tapped [trigger 1] (.filling 3) 7).taps[0]).port = .filling 3
      ∧ ((tapped [trigger 1] .nowhere 7).taps[0]).port = .nowhere := by
  and_intros <;> decide +kernel

/-! ### Witnesses: trunk port -/

def onWire (w : Wire) (s : State) : State := { s with trunk := { s.trunk with view := .busy, wire := some w } }

def wire (role : WireRole) : Wire :=
  { role := role, latch := { raw := 0, group := 0 }, reserved := true, stretch := none, released := false }

def queued (n : Received) (s : State) : State := { s with trunk := { s.trunk with queue := [n] } }

def got (sender : Station) (note : Note) : Received := { sender := sender, note := note, latch := { raw := 0, group := 0 } }

def fullQueue : State := { member with trunk := { member.trunk with queue := List.replicate 8 (got 0 .rosterLeave) } }

/-- The sender of GATE OPEN for frame 2, with so many attempts made. -/
def sending (attempts : Nat) (st : StationState) : State :=
  (onWire (wire (.sender .gate (.gate true 2) (noteCells 1 (.gate true 2)))) (seat st)).setPending .gate
    [{ claim := .gate true, attempts := attempts, doom := .none }]

/-- Channel 0 with a head grant of sequence 4, in an open gate. -/
def channelled (ch : Channel) (s : State) : State :=
  { s with frames := { s.frames with gateOpen := true, gateFrame := 0, channels := s.frames.channels.set 0 ch } }

def granted (s : State) : State :=
  channelled { Channel.reset with queue := [{ seq := 4, base := 9 }], complete := true, nextSeq := 5 } s

theorem test_OfferedNoteStarts_met :
    (member.joinList (.gate true)).trunk.view = .idle
      ∧ (member.joinList (.gate true)).trunk.queue = [] ∧ (member.joinList (.gate true)).trunk.wire = none
      ∧ (member.joinList (.gate true)).trunk.stalled = false
      ∧ (member.joinList (.gate true)).offer = some (.gate true)
      ∧ ((seat .joining).joinList .rosterJoin).offer = some .rosterJoin
      ∧ (((seat .joining).joinList .rosterJoin).compose .rosterJoin).founds
        = true
      ∧ ((granted member).joinList (.opening 1)).offer = some (.opening 1)
      ∧ (granted member).compose (.opening 1) = .opening 1 3 (.one (some steer0))
      ∧ member.compose (.gate true) = .gate true 2 ∧ member.compose (.gate false) = .gate false 1
      ∧ (member.joinList .roll).offer = some .roll ∧ (member.joinList (.drop 0)).offer = some (.drop 0)
      ∧ (framed part member).composeRoll.occupied = [2] ∧ (granted member).composeRoll.channels.length = 1
      ∧ ((framed part (granted member)).frames.slots[slotOf 2]).occupied = true := by
  and_intros <;> decide +kernel

theorem test_LeadMarkReservesOrStretches_met :
    member.trunk.view = .idle ∧ member.trunk.wire = none ∧ member.trunk.stalled = false
      ∧ member.trunk.queue.length < 8
      ∧ fullQueue.trunk.view = .idle ∧ fullQueue.trunk.wire = none ∧ fullQueue.trunk.stalled = false
      ∧ 8 ≤ fullQueue.trunk.queue.length
      ∧ { wire .receiver with stretch := some 0 }.stretch = some 0
      ∧ 0 + 2000000 ≤ max member.now 2000000 := by
  and_intros <;> decide +kernel

theorem test_ReceiverConfirms_met :
    (onWire (wire .receiver) member).trunk.wire = some (wire .receiver)
      ∧ (wire .receiver).role = .receiver ∧ (wire .receiver).reserved = true
      ∧ readNote (noteCells 0 .rosterLeave) = some (0, .rosterLeave)
      ∧ readNote (noteCells 1 .rosterLeave) = some (member.self, .rosterLeave)
      ∧ readNote [] = none
      ∧ mayVeto member.mem.state = true
      ∧ (seat .lapsed).mem.state = .lapsed := by
  and_intros <;> decide +kernel

theorem test_SenderConfirms_met :
    (sending 2 .member).trunk.wire = some (wire (.sender .gate (.gate true 2) (noteCells 1 (.gate true 2))))
      ∧ (sending 2 .member).pendingOf .gate = [{ claim := .gate true, attempts := 2, doom := .none }]
      ∧ (sending 2 .member).tx.held = none ∧ (sending 2 .member).trunk.stalled = false
      ∧ lossAt (noteCells 1 (.gate true 2)) (noteCells 1 (.gate true 2)) = none
      ∧ lossAt (noteCells 1 (.gate true 2)) (noteCells 0 (.gate true 2)) = some 5
      ∧ readNote (noteCells 0 (.gate true 2)) = some (0, .gate true 2) ∧ (0 : Station) ≠ member.self
      ∧ lossAt (noteCells 1 (.gate true 2)) (noteCells 1 (.gate false 2)) = some 6
      ∧ readNote (noteCells 1 (.gate false 2))
        = some (1, .gate false 2) := by
  and_intros <;> decide +kernel

/-- A claim of any kind, its fourth attempt on the wire. -/
def exhausting (st : StationState) (c : Claim) : State :=
  (onWire (wire (.sender c.kind (member.compose c) (noteCells 1 (member.compose c)))) (seat st)).setPending c.kind
    [{ claim := c, attempts := 3, doom := .none }]

theorem test_FourthFailureDiscards_met :
    (exhausting .member (.gate true)).pendingOf (Claim.kind (.gate true))
      = [{ claim := .gate true, attempts := 3, doom := .none }]
      ∧ (exhausting .member (.gate true)).mem.state = .member
      ∧ (exhausting .member (.grant 0 4 9)).pendingOf (Claim.kind (.grant 0 4 9))
        = [{ claim := .grant 0 4 9, attempts := 3, doom := .none }]
      ∧ (exhausting .member (.grant 0 4 9)).mem.state = .member
      ∧ (exhausting .member (.done 2 0 true 0)).pendingOf (Claim.kind (.done 2 0 true 0))
        = [{ claim := .done 2 0 true 0, attempts := 3, doom := .none }]
      ∧ (exhausting .member (.done 2 0 true 0)).mem.state = .member
      ∧ (exhausting .leaving (.done 2 0 true 0)).pendingOf (Claim.kind (.done 2 0 true 0))
        = [{ claim := .done 2 0 true 0, attempts := 3, doom := .none }]
      ∧ (exhausting .leaving (.done 2 0 true 0)).mem.state = .leaving
      ∧ (exhausting .joining (.rosterJoin)).pendingOf (Claim.kind (.rosterJoin))
        = [{ claim := .rosterJoin, attempts := 3, doom := .none }]
      ∧ (exhausting .joining (.rosterJoin)).mem.state = .joining
      ∧ (exhausting .leaving (.rosterLeave)).pendingOf (Claim.kind (.rosterLeave))
        = [{ claim := .rosterLeave, attempts := 3, doom := .none }]
      ∧ (exhausting .leaving (.rosterLeave)).mem.state = .leaving
      ∧ (exhausting .lapsed (.rosterLeave)).pendingOf (Claim.kind (.rosterLeave))
        = [{ claim := .rosterLeave, attempts := 3, doom := .none }]
      ∧ (exhausting .lapsed (.rosterLeave)).mem.state = .lapsed
      ∧ readNote (noteCells 1 (.gate true 2)) ≠ none
      ∧ lossAt (noteCells 1 (.gate true 2)) (noteCells 1 (.gate true 2))
        = none := by
  and_intros <;> decide +kernel

theorem test_NotesAbandonedAndTrunkIdle_met :
    (wire .receiver).role = .receiver ∧ (wire .receiver).stretch = none
      ∧ (sending 2 .member).pendingOf .gate = [{ claim := .gate true, attempts := 2, doom := .none }]
      ∧ lossAt (noteCells 1 (.gate true 2)) [] = none
      ∧ { member.trunk with view := .settling }.view = .settling ∧ member.trunk.wire = none
      ∧ member.trunk.view = .idle := by
  and_intros <;> decide +kernel

def stalledMember : State :=
  { member with trunk := { member.trunk with stalled := true },
                mem := { member.mem with silence := member.mem.silence.set 0 (.held 5), listen := .held 3 } }

theorem test_StallBeginsAndEnds_met :
    takesPart member.mem.state = true ∧ member.trunk.stalled = false ∧ member.trunk.wire = none
      ∧ takesPart (sending 2 .member).mem.state = true
      ∧ lossAt (noteCells 1 (.gate true 2)) [true] = none
      ∧ stalledMember.trunk.stalled = true ∧ stalledMember.trunk.wire = none
      ∧ stalledMember.mem.silence[0] = .held 5
        ∧ stalledMember.mem.listen = .held 3 := by
  and_intros <;> decide +kernel

/-! ### Witnesses: processed notes -/

theorem test_SignalApplied_met :
    (queued (got 0 (.signal 7 true .host 32)) (member)).trunk.queue
      = { sender := 0, note := .signal 7 true .host 32, latch := { raw := 0, group := 0 } } :: []
      ∧ member.mem.state = .member ∧ hasStation member.mem.roster 0 = true
      ∧ (framed part member).entryFor (32 / cfgL (framed part member).area) ≠ none
      ∧ member.entryFor (32 / cfgL member.area) = none
      ∧ (framed part member).legAt (slotOf 2) 0
        = some (leg (some part))
      ∧ member.closed = false ∧ { seat .leaving with mem := { (seat .leaving).mem with leavingByReset := true } }.closed = true := by
  and_intros <;> decide +kernel

/-- Output 1, a FOLLOW output of ID 0, at line 4. -/
def following (o : Output) : State :=
  { member.setOutputState 1 o with pos := { member.pos with lineIndex := 4 } }

theorem test_SignalApplied_follow_met :
    cfgOutputMode (following Output.reset).area 1 = .follow ∧ cfgOutputId (following Output.reset).area 1 = 0
      ∧ cfgOutputOffset (following Output.reset).area 1 = 0
      ∧ lastLine (following Output.reset).area < lastLine area + 1 ∧ lastLine area + 1 < 2 ^ 32
      ∧ 4 ≤ (following Output.reset).pos.lineIndex ∧ 4 ≤ lastLine (following Output.reset).area ∧ 4 < 5
      ∧ (following { Output.reset with lastApplied := some 5 }).signals.outputs[1].lastApplied = some 5
      ∧ (following Output.reset).signals.outputs[1].lastApplied = none
      ∧ (following Output.reset).pos.lineIndex < 5
      ∧ (5, true) ∈ (following { Output.reset with changes := [(5, true)] }).signals.outputs[1].changes
      ∧ 8 ≤ ((List.range 8).map fun n => (n + 6, true)).length
      ∧ (∀ e ∈ (List.range 8).map fun n => (n + 6, true), e.1 ≠ 5) := by
  and_intros <;> decide +kernel

def scheduled (ranges : List (Nat × Nat)) (line : Nat) : State :=
  { member.setOutputState 0 { Output.reset with ranges := ranges } with pos := { member.pos with lineIndex := line } }

theorem test_PulseOutputTakesSignal_met :
    cfgOutputMode (scheduled [] 0).area 0 = .pulse
      ∧ cfgOutputOffset member.area 0 = 0 ∧ cfgOutputWidth member.area 0 = 5
      ∧ lastLine member.area < lastLine member.area + 1
      ∧ 5 ≤ (scheduled [] 5).pos.lineIndex
      ∧ [(4, 9)].filter (fun r : Nat × Nat => decide (r.1 < 0 + 5) && decide (0 < r.2)) ≠ []
      ∧ [(5, 9)].filter (fun r : Nat × Nat => decide (r.1 < 0 + 5) && decide (0 < r.2)) = []
      ∧ 8 ≤ ((scheduled (List.replicate 8 (50, 60)) 0).signals.outputs[0]).ranges.length
      ∧ ((scheduled (List.replicate 7 (50, 60)) 0).signals.outputs[0]).ranges.length < 8 := by
  and_intros <;> decide +kernel

/-- Frame 2, of which station 0 has still to report, alone or with station 1. -/
def awaiting (delivered : StationSet) (s : State) : State :=
  s.setSlot 2 (.known { frame := 2, resumed := false, legs := #v[{ leg none with delivered := delivered }, unsteered] })

theorem test_removal_reaches_legs :
    ({ leg none with delivered := 2 } : Leg).awaitsOnly 0 = true
      ∧ ({ leg none with delivered := 0 } : Leg).awaits 0 = true
      ∧ ({ leg none with delivered := 0 } : Leg).awaitsOnly 0 = false
      ∧ (awaiting 2 (seat .leaving)).countLegs (fun l => l.awaitsOnly 0) = 1
      ∧ (ran (.processDrop 0) (queued (got 0 (.drop 0)) (awaiting 2 (seat .leaving)))).legAt 2 0 = none
      ∧ (ran (.processDrop 0) (queued (got 0 (.drop 0)) (awaiting 0 (seat .leaving)))).legAt 2 0
        = some { leg none with delivered := 0, removed := 1 } := by
  and_intros <;> decide +kernel

theorem test_DropsAndLeavesRemove_met :
    (queued (got 0 (.drop 0)) (member)).trunk.queue
      = { sender := 0, note := .drop 0, latch := { raw := 0, group := 0 } } :: []
      ∧ (queued (got 0 (.drop 1)) (member)).trunk.queue
        = { sender := 0, note := .drop 1, latch := { raw := 0, group := 0 } } :: []
      ∧ (1 : Station) = member.self ∧ (0 : Station) ≠ member.self
      ∧ hasStation member.mem.roster 0 = true
      ∧ (seat .leaving).mem.state = .leaving ∧ (seat .lapsed).mem.state = .lapsed
      ∧ (queued (got 0 (.rosterLeave)) (member)).trunk.queue
        = { sender := 0, note := .rosterLeave, latch := { raw := 0, group := 0 } } :: []
      ∧ (queued (got 1 (.rosterLeave)) (seat .leaving)).trunk.queue
        = { sender := 1, note := .rosterLeave, latch := { raw := 0, group := 0 } } :: []
      ∧ hasStation (seat .leaving).mem.roster 0 = true
      ∧ (seat .listening).mem.state = .listening ∧ (seat .joining).mem.state = .joining
      ∧ hasStation (seat .listening).mem.roster 0 = true ∧ hasStation (seat .joining).mem.roster 1 = true := by
  and_intros <;> decide +kernel

/-- A listener removes another station, whose legs it completes, and its own number, which reaches no leg. -/
theorem test_listener_removes :
    let left (p : Station) : State := ran (.processRosterLeave 0) (queued (got p .rosterLeave) (awaiting 2 (seat .listening)))
    (left 0).mem.roster = 2 ∧ (left 0).mem.state = .listening ∧ (left 0).legAt 2 0 = none
      ∧ (left 1).mem.roster = 1 ∧ (left 1).mem.state = .listening
      ∧ (left 1).legAt 2 0 = some { leg none with delivered := 2 } := by
  and_intros <;> decide +kernel

theorem test_OpenEntersFrame_met :
    (queued (got 0 (.opening 1 3 (.one (some steer0)))) (member)).trunk.queue
      = { sender := 0, note := .opening 1 3 (.one (some steer0)), latch := { raw := 0, group := 0 } } :: []
      ∧ extendFrame member.area member.currentFrame 1 = 1
      ∧ (granted member).allowed 1 = true ∧ (granted member).frames.h < 1 ∧ member.allowed 1 = false
      ∧ (StreamEntries.one none).count = cfgStreams member.area
        ∧ (StreamEntries.two none none).count ≠ cfgStreams member.area
      ∧ ((granted member).frames.slots[slotOf 1]).entry = none
      ∧ (framed part (granted member)).frames.slots[slotOf 2].entry ≠ none
      ∧ (granted member).grantMatches steer0 = true
        ∧ (granted member).grantMatches { steer0 with seq := 5 }
          = false
      ∧ steer0.channel.val < cfgChannels member.area
      ∧ (member.frames.channels[0]).complete = false ∧ seqAtOrBelow 4 4 = true ∧ seqAtOrBelow 5 4 = false := by
  and_intros <;> decide +kernel

/-- The grants that an OPEN consumes, at a station whose list is complete and at one with a blind limit. -/
theorem test_open_consumes_grants :
    let told (s : State) : State := ran (.processOpen 0) (queued (got 0 (.opening 1 3 (.one (some steer0)))) s)
    (told (granted member)).frames.channels[0]
        = { Channel.reset with complete := true, nextSeq := 5, lastSeen := some 4 }
      ∧ (told (channelled { Channel.reset with queue := [{ seq := 3, base := 9 }, { seq := 5, base := 9 }],
                                               blind := some 4, nextSeq := 6 } member)).frames.channels[0]
        = { queue := [{ seq := 5, base := 9 }], complete := true, blind := none, nextSeq := 6, lastSeen := some 4 } := by
  and_intros <;> decide +kernel

theorem test_DoneReportsPart_met :
    (queued (got 1 (.done 2 0 true 3)) (member)).trunk.queue
      = { sender := 1, note := .done 2 0 true 3, latch := { raw := 0, group := 0 } } :: []
      ∧ extendFrame member.area member.currentFrame 2 = 2 ∧ BitVec.ofNat 16 2 = 2#16
      ∧ (framed part member).entryFor 2 = some { frame := 2, resumed := false, legs := #v[leg (some part), unsteered] }
      ∧ hasStation (leg none).mask 1 = true
        ∧ hasStation ((leg none).delivered ||| (leg none).void ||| (leg none).removed) 1 = false
      ∧ (leg none).mask &&& ~~~(addStation (leg none).delivered 1 ||| (leg none).void ||| (leg none).removed) = 0
      ∧ (7 : StationSet) &&& ~~~(addStation 1 1) ≠ 0
      ∧ member.entryFor 2 = none := by
  and_intros <;> decide +kernel

theorem test_GateMovesRecord_met :
    (queued (got 0 (.gate true 2)) (member)).trunk.queue
      = { sender := 0, note := .gate true 2, latch := { raw := 0, group := 0 } } :: []
      ∧ true ≠ member.frames.gateOpen
      ∧ ¬ (0 < member.frames.gateFrame) := by
  and_intros <;> decide +kernel

theorem test_GrantJoinsQueue_met :
    (queued (got 0 (.grant 0 5 9)) (member)).trunk.queue
      = { sender := 0, note := .grant 0 5 9, latch := { raw := 0, group := 0 } } :: []
      ∧ cfgChannels member.area ≤ (1 : Fin 8).val
      ∧ ((granted member).frames.channels[0]).complete = true
      ∧ ((granted member).frames.channels[0]).queue.length < 16 ∧ seqBelow 4 5 = true ∧ seqBelow 4 4 = false
      ∧ (member.frames.channels[0]).complete = false := by
  and_intros <;> decide +kernel

def roll0 : Roll :=
  { groupCount := 100, roster := 3, gateOpen := true, gateFrame := 2, h := 1, digest := 0, faultSummary := false,
    occupied := [], channels := [{ complete := true, nextSeq := 1, queueLength := 0 }] }

theorem test_RollAlignsListener_met :
    (queued (got 0 (.roll roll0)) (seat .listening)).trunk.queue
      = { sender := 0, note := .roll roll0, latch := { raw := 0, group := 0 } } :: []
      ∧ (seat .listening).mem.state = .listening
      ∧ roll0.digest = (seat .listening).window.digest
      ∧ { roll0 with digest := 1 }.digest ≠ (seat .listening).window.digest := by
  and_intros <;> decide +kernel

theorem test_RollComparedAtMember_met :
    (queued (got 0 (.roll roll0)) (member)).trunk.queue
      = { sender := 0, note := .roll roll0, latch := { raw := 0, group := 0 } } :: []
      ∧ member.mem.state = .member ∧ hasStation member.mem.roster 0 = true
        ∧ (0 : Station) ≠ member.self := by
  and_intros <;> decide +kernel

theorem test_JoinsAdmitted_met :
    (queued (got 2 (.rosterJoin 0 false)) (member)).trunk.queue
      = { sender := 2, note := .rosterJoin 0 false, latch := { raw := 0, group := 0 } } :: []
      ∧ (2 : Station) ≠ member.self ∧ (0 : BitVec 16) = member.window.digest ∧ hasStation member.mem.roster 2 = false
      ∧ (1 : BitVec 16) ≠ member.window.digest ∧ member.mem.roster ≠ 0
      ∧ (queued (got 1 (.rosterJoin 0 false)) (seat .joining)).trunk.queue
        = { sender := 1, note := .rosterJoin 0 false, latch := { raw := 0, group := 0 } } :: []
      ∧ (seat .joining).mem.state = .joining ∧ (seat .joining).mem.latestDigest = none
      ∧ { (seat .joining).mem with roster := 0 }.roster = 0 := by
  and_intros <;> decide +kernel

/-! ### Witnesses: the host link -/

def waiting (r : PortRequest) (s : State) : State := { s with delivery := { s.delivery with port := [r] } }

def record0 : FrameRecord := buildRecord area 1 { frame := 2, resumed := false, legs := #v[leg none, unsteered] } 0 (leg none)

def recording (step : RecordStep) : State := { member with records := { queue := [record0], step := step } }

def turning (sent : Nat) : State :=
  (framed part member).setTurn (some { tap := 0, rows := [], sent := sent, line := some line0, finish := none })

theorem test_PortIssues_met :
    { member.delivery with linkUp := false }.linkUp = false ∧ member.delivery.linkUp = true
      ∧ (waiting (.notice 8 9) member).delivery.port = .notice 8 9 :: []
      ∧ (waiting .recordWrite (recording .write)).records.queue = record0 :: []
      ∧ (waiting .recordFlush (recording .flushWaiting)).delivery.port = .recordFlush :: []
      ∧ (waiting .recordMessage (recording .message)).delivery.port = .recordMessage :: []
      ∧ (framed { flushing with flush := .waiting } member).partAt 2 0 = some { flushing with flush := .waiting }
      ∧ (turning 0).delivery.port = [] ∧ (turning 0).headsKept
      ∧ (turning 0).entryFor (frameOf (turning 0).area line0.index)
        = some { frame := 2, resumed := false, legs := #v[leg (some part), unsteered] }
      ∧ streamOf (turning 0).area line0.index = some 0 ∧ (leg (some part)).steer = some steer0
      ∧ (turning 0).tapWidth 0 = 16 ∧ cfgMaxPayload (turning 0).area = 128
      ∧ 0 + min 128 (min (4096 - 4088) (16 - 0)) < 16
        ∧ 16 ≤ 8 + min 128 (min (4096 - 0) (16 - 8)) := by
  refine ⟨rfl, rfl, rfl, rfl, rfl, rfl, by decide +kernel, rfl, fun tap l h => ?_, ?_⟩
  · revert h; fin_cases tap <;> simp [turning, framed, State.setSlot, State.setTurn, member, seat, State.reset, TapState.reset]
  · and_intros <;> decide +kernel

theorem test_lined_heads_kept : (lined (framed part member)).headsKept := by
  intro tap l h why
  have keep : (lined (framed part member)).headDecision line0 = .write := by decide +kernel
  fin_cases tap
  · obtain rfl : line0 = l := by simpa [lined, State.setLines, State.setTap] using h
    rw [keep]; exact Decision.noConfusion
  · simp [lined, State.setLines, State.setTap, framed, State.setSlot, member, seat, State.reset, TapState.reset] at h

/-- A turn of rows to fill, and the part that they belong to. -/
def filling (rows : List Nat) (line : Option Line) (finish : Option Nat) : State :=
  (framed part member).setTurn (some { tap := 0, rows := rows, sent := 0, line := line, finish := finish })

theorem test_PortIssues_fill_rows_met :
    (filling [32] (some line0) none).entryFor (frameOf area 32) = some { frame := 2, resumed := false, legs := #v[leg (some part), unsteered] }
      ∧ streamOf area 32 = some 0
      ∧ (ran (.portIssue 0) (filling [32] (some line0) none)).delivery.turn
        = some { tap := 0, rows := [], sent := 0, line := some line0, finish := none }
      ∧ (ran (.portIssue 0) (filling [32] (some line0) none)).lastRequest
        = some (.memoryWrite 36864 (List.replicate 16 0))
      ∧ (ran (.portIssue 0) (filling [47] none (some 2))).delivery.handled[0] = 47
      ∧ ((ran (.portIssue 0) (filling [47] none (some 2))).partAt 2 0).map (fun p => ((p.taps[0]).done, p.gapRows))
        = some (true, 1) := by
  and_intros <;> decide +kernel

/-- Tap 0 has reached the end of frame 2 with these rows behind it. -/
def ending (handled : Nat) (s : State) : State :=
  { framed part s with delivery := { s.delivery with handled := #v[handled, 0] }, pos := { s.pos with lineIndex := 48 } }

/-- The member with another fill policy. -/
def policy (fill : Byte) : State := { member with window := { member.window with area := Memory.write area 0x006 fill } }

theorem test_PortIssues_turns_met :
    (lined (framed part member)).offered 0 ∧ (lined (framed part member)).finishReady 0 = none
      ∧ (lined (framed part member)).headDecision line0 = .write
      ∧ (lined (framed part member)).fillRows 0 32 33 = [32]
      ∧ (ending 45 member).finishReady 0 = some 2 ∧ (ending 45 member).fillRows 0 46 48 = [46, 47]
      ∧ (ending 45 (policy 2)).finishReady 0 = some 2 ∧ cfgFill (policy 2).area = .skip
      ∧ ((ran (.portIssue 0) (ending 45 (policy 2))).partAt 2 0).map (fun p => ((p.taps[0]).done, p.gapRows))
        = some (true, 2)
      ∧ cfgFill (policy 1).area = .repeated ∧ cfgFill member.area = .zero
      ∧ min 128 (min (4096 - 36864 % 4096) 256) < 256 := by
  refine ⟨Or.inl rfl, ?_⟩
  and_intros <;> decide +kernel

theorem test_PortIssues_decisions_met :
    member.closed = false ∧ (seat .lapsed).closed = true ∧ (framed part member).entryFor 2 ≠ none
      ∧ cfgPhaseStream area 0 = some 0 ∧ cfgPhaseStream area 1 = none
      ∧ (lined (framed { part with state := .void } member)).headDecision line0 = .discard .partClosed
      ∧ member.allowed 2 = false ∧ (granted member).allowed 2 = true
      ∧ (lined (granted member)).headDecision line0 = .wait
      ∧ ((((lined member).settleTap 0).taps[0]).lines = [] ∧ ((lined member).settleTap 0).ctr.delivery.discardNotAllowed = 1)
      ∧ ((lined (granted member)).settleTap 0).ctr.delivery.openWaits = 1 := by
  and_intros <;> decide +kernel

theorem test_FlushesEnd_met :
    (framed flushing member).closed = false ∧ (framed flushing member).awaiting 1 = some (2, 0)
      ∧ (framed flushing member).partAt 2 0 = some flushing
      ∧ (framed flushing member).records.step = .idle
      ∧ (recording (.flushIssued 1 0)).records.step = .flushIssued 1 0
      ∧ flushing.state = .flushing ∧ flushing.flush = .issued 1 0 ∧ 0 + 2000000 ≤ max member.now 2000000
      ∧ ((framed flushing member).pendingOf .done).length < 16
      ∧ (recording (.flushIssued 1 0)).records.queue = record0 :: [] := by
  and_intros <;> decide +kernel

theorem test_LegTimerVoidsPart_met :
    (framed { part with timer := .running 7 } member).partAt 2 0 = some { part with timer := .running 7 }
      ∧ { part with timer := .running 7 }.state = .collecting
      ∧ (framed { flushing with timer := .running 7 } member).partAt 2 0 = some { flushing with timer := .running 7 }
      ∧ 7 ≤ max member.now 7 ∧ member.closed = false := by
  and_intros <;> decide +kernel

theorem test_LinkGoesDownAndUp_met :
    (framed part member).delivery.linkUp = true ∧ (framed part member).closed = false
      ∧ (framed part member).partAt 2 0 = some part
        ∧ part.state = .collecting
      ∧ { member with delivery := { member.delivery with linkUp := false } }.delivery.linkUp = false
      ∧ (waiting (.notice 8 9) member).delivery.linkUp = true ∧ noticesWaiting (waiting (.notice 8 9) member) = 1
      ∧ (ran (.linkDown 0) (waiting (.notice 8 9) member)).ctr.window.noticesLost = 1 := by
  and_intros <;> decide +kernel

/-! ### Witnesses: inputs and the fault line -/

def edged (st : StationState) (notes : Nat) : State :=
  { (seat st).setPending .signal (List.replicate notes { claim := .signal 0 true .host 0, attempts := 0, doom := .none }) with
    signals := { Signals.reset with filtered := Vector.replicate 4 (some false)
                                    sampled := Vector.replicate 4 (some { level := false, since := 0, shown := 0 }) } }

/-- Input 0 with a filter time of 3 µs, last seen low at moment 5. -/
def filtering : State :=
  let s := edged .member 0
  { s with window := { s.window with area := Memory.write area 0x222 3 }
           signals := { s.signals with sampled := s.signals.sampled.set 0 (some { level := false, since := 0, shown := 5 }) } }

theorem test_EdgeClaimsSignal_met :
    State.reset.mem.state = .unconfigured
      ∧ (edged .member 0).signals.filtered[0] = some (!true) ∧ cfgInputOff (edged .member 0).area 0 = false
      ∧ cfgInputEdge (edged .member 0).area 0 true = true ∧ cfgInputEdge (edged .member 0).area 0 false = false
      ∧ (edged .leaving 0).mem.state ≠ .unconfigured ∧ (edged .leaving 0).mem.state ≠ .member
      ∧ ((edged .member 3).pendingOf .signal).length < 4
      ∧ 4 ≤ ((edged .member 4).pendingOf .signal).length
      ∧ 0 + cfgInputFilter (edged .member 0).area 0 ≤ max (edged .member 0).now 0
      ∧ cfgInputFilter filtering.area 0 = 3000 ∧ filtering.signals.sampled[0] = some { level := false, since := 0, shown := 5 }
      ∧ ¬ 5 + 3000 ≤ max filtering.now 3004 ∧ 5 + 3000 ≤ max filtering.now 3005 := by
  and_intros <;> decide +kernel

theorem test_input_filter :
    (ran (.signalEdge 3004 0 true) filtering).signals.filtered[0] = some false
      ∧ (ran (.signalEdge 3005 0 true) filtering).signals.filtered[0] = some true
      ∧ (ran (.signalEdge 3004 0 true) filtering).signals.sampled[0] = some { level := true, since := 5, shown := 3004 }
      ∧ (ran (.signalEdge 3005 0 true) (ran (.signalEdge 3004 0 true) filtering)).signals.filtered[0] = some true
      ∧ (ran (.signalEdge 3004 0 false) filtering).signals.sampled[0] = some { level := false, since := 0, shown := 3004 } := by
  and_intros <;> decide +kernel

theorem test_FaultLineWatched_met :
    (member.setFaultLine true).window.tkflt = some true
      ∧ member.window.tkflt ≠ some true := by
  and_intros <;> decide +kernel

/-! ### Witnesses: membership -/

def timed (st : StationState) : State :=
  { seat st with mem := { (seat st).mem with listen := .running 7, roll := .running 7,
                                             silence := (seat st).mem.silence.set 0 (.running 7) } }

theorem test_MembershipTimersExpire_met :
    (timed .listening).mem.state = .listening ∧ (timed .listening).mem.listen = .running 7
      ∧ (timed .member).mem.roll = .running 7 ∧ (timed .member).mem.silence[0] = .running 7
      ∧ 7 ≤ max (timed .member).now 7
      ∧ (timed .member).pendingOf .roll = [] ∧ (member.joinList .roll).pendingOf .roll ≠ []
      ∧ ((timed .member).pendingOf .drop).length < 7
      ∧ ((member.joinList (.drop 0)).pendingOf .drop).map Pending.claim
        = [.drop 0] := by
  and_intros <;> decide +kernel

theorem test_JoinAndLeaveCommands_met :
    (seat .configured).window.taking = none ∧ (seat .configured).mem.state = .configured
      ∧ member.mem.state ≠ .configured ∧ (seat .lapsed).mem.state = .lapsed
      ∧ member.trunk.wire = none ∧ member.pendingOf .roster = []
      ∧ ((seat .joining).joinList .rosterJoin).pendingOf .roster
        = [{ claim := .rosterJoin, attempts := 0, doom := .none }]
      ∧ (seat .listening).mem.state = .listening ∧ (seat .listening).onWire .roster = false := by
  and_intros <;> decide +kernel

/-! ### Witnesses: host window -/

theorem test_WindowWritesWithLittleEffect_met :
    (Instr.unknownCommand 0 0).writesCommandWord = true ∧ (Instr.commandCollision 0).writesCommandWord = true
      ∧ (taking 1 member).window.taking ≠ none
      ∧ 11 < (12 : Byte).toNat ∧ member.window.taking = none := by
  and_intros <;> decide +kernel

theorem test_ConfigWrites_met :
    (104 : Fin 1024).val < 148 ∧ 104 ≤ (104 : Fin 1024).val ∧ (127 : Fin 1024).val < 128
      ∧ (147 : Fin 1024).val < 148 ∧ 128 ≤ (147 : Fin 1024).val ∧ (103 : Fin 1024).val < 104
      ∧ State.reset.takingCode ≠ some 1 ∧ State.reset.mem.state = .unconfigured ∧ Memory.wf State.reset.area = true
      ∧ member.takingCode ≠ some 1 ∧ member.mem.state ≠ .unconfigured
      ∧ (taking 1 State.reset).takingCode = some 1 := by
  and_intros <;> decide +kernel

/-- The current frame that a unit left stays when L is written to the open area (R4): 34 div 16, then L = 4. -/
theorem test_current_frame_left :
    let s : State := { member with pos := { member.pos with mode := .issuing, lineIndex := 34 } }
    let left : State := ran (.resetAcquisition 0) s
    let opened : State := { left with mem := { left.mem with state := .unconfigured } }
    s.currentFrame = 2 ∧ left.currentFrame = 2 ∧ opened.pos.mode = .stopped
      ∧ cfgL (ran (.configWrite 0 0 0x40004#32) opened).area = 4
      ∧ (ran (.configWrite 0 0 0x40004#32) opened).currentFrame = 2 := by
  and_intros <;> decide +kernel

def loaded : State := { State.reset with window := { Window.reset with area := area } }

theorem test_AcceptConfig_met :
    (taking 1 loaded).takingCode = some 1 ∧ (taking 1 loaded).window.command = 1
      ∧ (taking 1 loaded).mem.state = .unconfigured ∧ loaded.window.taking = none
      ∧ ∀ ok ∈ configChecks (taking 1 loaded).area, ok = true
      ∧ (configChecks (taking 1 State.reset).area).findIdx? (fun ok => !ok) = some 0
      ∧ member.window.taking = none ∧ member.mem.state ≠ .unconfigured := by
  and_intros <;> decide +kernel

/-- A check is due at 7; the digest held is the area's own, or one off. -/
def checked (off : BitVec 16) (st : StationState) : State :=
  { seat st with window := { (seat st).window with nextCheck := some 7, digest := configDigest area + off } }

theorem test_ConfigCheckFindsUpset_met :
    (checked 0 .member).window.nextCheck = some 7 ∧ 7 ≤ max (checked 0 .member).now 7
      ∧ configDigest ((checked 0 .member).upset []).area = (checked 0 .member).window.digest
      ∧ configDigest ((checked 1 .member).upset []).area ≠ (checked 1 .member).window.digest
      ∧ configDigest ((checked 1 .configured).upset []).area ≠ (checked 1 .configured).window.digest := by
  refine ⟨rfl, by decide +kernel, ?_, ?_, ?_⟩
  · exact (BitVec.add_zero _).symm
  all_goals
    show configDigest area ≠ configDigest area + 1
    generalize configDigest area = x
    intro h
    have := congrArg (fun y => y - x) h
    simp at this

def posting (channel base : Word) (s : State) : State := withArgs channel base 0 s

def crowdedChannel : State :=
  let full := { Channel.reset with queue := List.replicate 16 { seq := 4, base := 9 }, complete := true }
  { member with frames := { member.frames with channels := member.frames.channels.set 0 full } }

theorem test_PostGrantCommand_met :
    (seat .leaving).mem.state ≠ .member ∧ (seat .leaving).window.taking = none
      ∧ cfgChannels member.area ≤ (posting 1 4096 member).window.args[0].toNat
      ∧ (posting 0 4096 member).window.args[0].toNat = (0 : Fin 8).val ∧ 0 < cfgChannels member.area
      ∧ (posting 0 4095 member).window.args[1].toNat % 4096 ≠ 0
        ∧ (posting 0 4096 member).window.args[1].toNat % 4096 = 0
      ∧ cfgHome member.area 0 = member.self.val ∧ cfgHome (Memory.write member.area 0x21 0) 0 ≠ member.self.val
      ∧ (member.frames.channels[0]).complete = false ∧ ((granted member).frames.channels[0]).complete = true
      ∧ 16 ≤ (crowdedChannel.frames.channels[0]).queue.length + crowdedChannel.pendingGrants 0
      ∧ ((granted member).frames.channels[0]).queue.length + (granted member).pendingGrants 0 < 16
      ∧ 4 ≤ (((granted member).setPending .grant (List.replicate 4
          { claim := .grant 0 5 9, attempts := 0, doom := .none })).pendingOf .grant).length
      ∧ ((granted member).pendingOf .grant).length < 4 := by
  and_intros <;> decide +kernel

theorem test_GateCommands_met :
    (seat .leaving).mem.state ≠ .member
      ∧ (member.joinList (.gate true)).pendingOf .gate ≠ [] ∧ (member.joinList (.gate true)).mem.state = .member
      ∧ member.pendingOf .gate = [] := by
  and_intros <;> decide +kernel

theorem test_MarkCommand_met :
    15 < (withArgs 16 5 0 member).window.args[0].toNat ∧ (withArgs 15 5 0 member).window.args[0].toNat ≤ 15
      ∧ 4 ≤ ((edged .member 4).pendingOf .signal).length
        ∧ ((edged .member 3).pendingOf .signal).length < 4 := by
  and_intros <;> decide +kernel

theorem test_SetOutputCommand_met :
    3 < (withArgs 4 0 0 member).window.args[0].toNat ∧ 1 < (withArgs 0 2 0 member).window.args[1].toNat
      ∧ (withArgs 2 1 0 member).window.args[0].toNat = (2 : Fin 4).val
        ∧ (withArgs 2 1 0 member).window.args[1].toNat ≤ 1
      ∧ cfgOutputMode member.area 2 = .manual ∧ cfgOutputMode member.area 3 ≠ .manual
      ∧ State.reset.mem.state = .unconfigured
        ∧ member.mem.state ≠ .unconfigured := by
  and_intros <;> decide +kernel

theorem test_ClearFaultsCommand_met :
    2 ^ 17 ≤ (withArgs 0x20000 0 0 member).window.args[0].toNat
      ∧ (withArgs 0x1FFFF 0 0 member).window.args[0].toNat < 2 ^ 17 := by
  and_intros <;> decide +kernel

/-! ### Reads of the window (R185) -/

/-- The state and number at 400h, the event list at C48h, slot 2 of the frame table, the last word of 800h, and a range whose
end lies beyond 2^32 (11_formats.md). -/
theorem test_window_reads :
    Views.readAt member 0x400 = 4 ∧ Views.readAt member 0x404 = 1 ∧ Views.readAt member 0xC48 = 1
      ∧ Views.readAt member 0xC4C = 3 ∧ Views.readAt member 0x000 = 0x100004
      ∧ Views.read (framed part member) .frames 98 = 2 ∧ Views.readAt (framed part member) (0x800 + 4 * 98) = 2
      ∧ (Views.frames member).length = 854
      ∧ Views.read { member with frames := { member.frames with lostGrant := some steer0 } } .frames 851 = 4
      ∧ (Views.schedule { Output.reset with ranges := [(7, 2 ^ 32 + 9)] }).flatMap (fun r => Views.num r.1 :: Views.wide r.2)
        = [7, 9, 1] := by
  and_intros <;> decide +kernel

end Sys2Proof.Tests
end

/-! The illegal encoder step (R2): what the raise of a fault writes, what the entry into LAPSED leaves alone of it,
and the statement about the event. -/

namespace Sys2Proof.Machine

/-! ### What the raise of a fault writes (R178, R181) -/

/-- `s` with what a fault's record and its notice write taken from `u`: the flags, the event list, the port's waiting
requests and the counters. -/
def State.withNoticesOf (s u : State) : State :=
  { s with
    window := { s.window with
      faults := u.window.faults, events := u.window.events, eventNumber := u.window.eventNumber }
    delivery := { s.delivery with port := u.delivery.port }
    ctr := u.ctr }

/-- Two operations in a row that write no more than records and notices write no more than these together. -/
theorem eq_withNoticesOf_trans {s u v : State} (hu : u = s.withNoticesOf u) (hv : v = u.withNoticesOf v) :
    v = s.withNoticesOf v := by
  calc v = u.withNoticesOf v := hv
    _ = (s.withNoticesOf u).withNoticesOf v := by rw [← hu]
    _ = s.withNoticesOf v := rfl

theorem bump_eq_withNoticesOf (s : State) (f : Counters → Counters) : s.bump f = s.withNoticesOf (s.bump f) := rfl

theorem notice_eq_withNoticesOf (s : State) : s.notice = s.withNoticesOf s.notice := by
  unfold State.notice
  split <;> rfl

theorem event_eq_withNoticesOf (s : State) (k : EventKind) : s.event k = s.withNoticesOf (s.event k) := by
  unfold State.event
  dsimp only
  split <;> rfl

theorem eventNoticed_eq_withNoticesOf (s : State) (k : EventKind) (enabled : Bool) :
    s.eventNoticed k enabled = s.withNoticesOf (s.eventNoticed k enabled) := by
  cases enabled with
  | false => exact event_eq_withNoticesOf s k
  | true => exact eq_withNoticesOf_trans (event_eq_withNoticesOf s k) (notice_eq_withNoticesOf _)

theorem raise_eq_withNoticesOf (s : State) (k : FaultKind) : s.raise k = s.withNoticesOf (s.raise k) := by
  unfold State.raise
  dsimp only
  split
  · rfl
  · exact eq_withNoticesOf_trans rfl (eventNoticed_eq_withNoticesOf _ _ _)

/-! ### The position unit's counters and the fault flags

An illegal step counts and raises before the station lapses; these two values are followed together through the lapse. -/

/-- The position unit's counters and the fault flags. -/
def State.encoderRecord (s : State) : PositionCounters × BitVec 16 := (s.ctr.pos, s.window.faults)

theorem foldl_encoderRecord {α : Type} {f : State → α → State} (h : ∀ s a, (f s a).encoderRecord = s.encoderRecord)
    (l : List α) (s : State) : (l.foldl f s).encoderRecord = s.encoderRecord := by
  induction l generalizing s with
  | nil => rfl
  | cons a l ih => exact (ih _).trans (h s a)

/-! #### Records, notices and the change of state -/

@[simp] theorem notice_encoderRecord (s : State) : s.notice.encoderRecord = s.encoderRecord := by
  unfold State.notice
  split <;> rfl

@[simp] theorem event_encoderRecord (s : State) (k : EventKind) : (s.event k).encoderRecord = s.encoderRecord := by
  unfold State.event
  dsimp only
  split <;> rfl

@[simp] theorem eventNoticed_encoderRecord (s : State) (k : EventKind) (enabled : Bool) :
    (s.eventNoticed k enabled).encoderRecord = s.encoderRecord := by
  cases enabled <;> simp [State.eventNoticed]

@[simp] theorem changeState_encoderRecord (s : State) (st : StationState) :
    (s.changeState st).encoderRecord = s.encoderRecord :=
  eventNoticed_encoderRecord _ _ _

/-- A raise sets its flag beside those that were set and moves no counter of the position unit (R178). -/
theorem raise_encoderRecord (s : State) (k : FaultKind) :
    (s.raise k).encoderRecord = (s.ctr.pos, s.window.faults ||| (1#16 <<< k.bit.val)) := by
  unfold State.raise
  dsimp only
  split
  · rfl
  · exact eventNoticed_encoderRecord _ _ _

/-! #### The transmit queue -/

@[simp] theorem setPending_encoderRecord (s : State) (k : NoteKind) (l : List Pending) :
    (s.setPending k l).encoderRecord = s.encoderRecord := rfl

@[simp] theorem joinList_encoderRecord (s : State) (c : Claim) : (s.joinList c).encoderRecord = s.encoderRecord := rfl

@[simp] theorem claimMet_encoderRecord (s : State) : s.claimMet.encoderRecord = s.encoderRecord := rfl

@[simp] theorem lostGrantBy_encoderRecord (s : State) (c : Claim) :
    (s.lostGrantBy c).encoderRecord = s.encoderRecord := by
  cases c <;> rfl

@[simp] theorem withdrawn_encoderRecord (s : State) (n : Pending) (byReset : Bool) :
    (s.withdrawn n byReset).encoderRecord = s.encoderRecord := by
  have counted : (s.bump (countWithdrawn 1)).encoderRecord = s.encoderRecord := rfl
  cases byReset <;> simp [State.withdrawn, counted]

@[simp] theorem claimRoster_encoderRecord (s : State) (c : Claim) :
    (s.claimRoster c).encoderRecord = s.encoderRecord := by
  unfold State.claimRoster
  split
  · simp
  · split
    · simp
    · split
      · rfl
      · simp

@[simp] theorem withdrawFrom_encoderRecord (s : State) (k : NoteKind) (doom : Doom) (hit : Pending → Bool) :
    (s.withdrawFrom k doom hit).encoderRecord = s.encoderRecord := by
  unfold State.withdrawFrom
  dsimp only
  split <;> exact foldl_encoderRecord (fun s n => withdrawn_encoderRecord s n _) _ _

@[simp] theorem withdrawAll_encoderRecord (s : State) (doom : Doom) (keepDone : Bool) :
    (s.withdrawAll doom keepDone).encoderRecord = s.encoderRecord := by
  have emptied (l : List NoteKind) : (l.foldl (fun s k => s.withdrawFrom k doom fun _ => true) s).encoderRecord
      = s.encoderRecord :=
    foldl_encoderRecord (fun s k => withdrawFrom_encoderRecord s k _ _) l s
  unfold State.withdrawAll
  dsimp only
  split <;> exact emptied _

/-! #### Own parts, the current turn and the heads of the line queues -/

@[simp] theorem modifyPart_encoderRecord (s : State) (i : Fin 8) (j : Fin 2) (f : OwnPart → OwnPart) :
    (s.modifyPart i j f).encoderRecord = s.encoderRecord := by
  unfold State.modifyPart State.modifyLeg
  split <;> rfl

@[simp] theorem present_encoderRecord (s : State) (r : PortRequest) :
    (s.present r).encoderRecord = s.encoderRecord := rfl

@[simp] theorem dropTurn_encoderRecord (s : State) : s.dropTurn.encoderRecord = s.encoderRecord := by
  unfold State.dropTurn
  split <;> rfl

@[simp] theorem stopLegTimers_encoderRecord (s : State) : s.stopLegTimers.encoderRecord = s.encoderRecord := by
  refine foldl_encoderRecord (fun s a => ?_) _ _
  exact modifyPart_encoderRecord s a.1 a.2 _

@[simp] theorem discardHeads_encoderRecord (t : Tap) (l : List Line) (s : State) :
    (State.discardHeads t l s).encoderRecord = s.encoderRecord := by
  induction l generalizing s with
  | nil => rfl
  | cons x rest ih =>
    unfold State.discardHeads
    split
    · exact ih _
    · rfl
    · rfl

@[simp] theorem judgeWait_encoderRecord (s : State) (t : Tap) : (s.judgeWait t).encoderRecord = s.encoderRecord := by
  unfold State.judgeWait
  split
  · rfl
  · split
    · split <;> rfl
    · rfl

@[simp] theorem tapDone_encoderRecord (s : State) (t : Tap) (k : Nat) :
    (s.tapDone t k).encoderRecord = s.encoderRecord := by
  refine foldl_encoderRecord (fun s a => ?_) _ _
  dsimp only
  split <;> simp

@[simp] theorem finishMarked_encoderRecord (s : State) (t : Tap) :
    (s.finishMarked t).encoderRecord = s.encoderRecord := by
  refine foldl_encoderRecord (fun s k => ?_) _ _
  split <;> simp

@[simp] theorem startFlushes_encoderRecord (s : State) : s.startFlushes.encoderRecord = s.encoderRecord := by
  refine foldl_encoderRecord (fun s a => ?_) _ _
  dsimp only
  split
  · split <;> simp
  · rfl

@[simp] theorem endCheck_encoderRecord (s : State) (t : Tap) : (s.endCheck t).encoderRecord = s.encoderRecord := by
  unfold State.endCheck
  split <;> simp

@[simp] theorem settleTap_encoderRecord (s : State) (t : Tap) : (s.settleTap t).encoderRecord = s.encoderRecord := by
  unfold State.settleTap
  dsimp only
  split <;> simp

@[simp] theorem settle_encoderRecord (s : State) : s.settle.encoderRecord = s.encoderRecord := by
  simp [State.settle]

/-! ### The entry into LAPSED (R91) -/

@[simp] theorem changeState_mem (s : State) (st : StationState) :
    (s.changeState st).mem = { s.mem with state := st } := by
  simp [State.changeState]

@[simp] theorem stopLegTimers_mem (s : State) : s.stopLegTimers.mem = s.mem := by
  refine foldl_mem (fun s a => ?_) _ _
  exact modifyPart_mem s a.1 a.2 _

@[simp] theorem lapse_mem_state (s : State) : s.lapse.mem.state = .lapsed := by
  simp [State.lapse, Membership.stopTimers]

/-- A lapse moves nothing of the position unit but its state (R4, R15). -/
theorem lapse_pos (s : State) :
    s.lapse.pos = { s.pos with mode := if s.pos.mode = .issuing then .tracking else s.pos.mode } := by
  simp [State.lapse]

@[simp] theorem lapse_encoderRecord (s : State) : s.lapse.encoderRecord = s.encoderRecord := by
  have entered : ((s.changeState .lapsed).bump (countMembership fun c => { c with lapses := c.lapses + 1 })).encoderRecord
      = s.encoderRecord :=
    changeState_encoderRecord s .lapsed
  simp only [State.lapse, settle_encoderRecord, claimRoster_encoderRecord, stopLegTimers_encoderRecord,
    dropTurn_encoderRecord, withdrawAll_encoderRecord]
  exact entered

theorem lapseFrom_of_mem {s : State} {l : List StationState} (h : s.mem.state ∈ l) : s.lapseFrom l = s.lapse := by
  simp [State.lapseFrom, h]

theorem lapseFrom_of_notMem {s : State} {l : List StationState} (h : s.mem.state ∉ l) : s.lapseFrom l = s := by
  simp [State.lapseFrom, h]

/-! ### The illegal step (R2) -/

/-- The count and the raise of an illegal step, before a member lapses. -/
def State.encoderFault (s : State) : State :=
  (s.bump (countPosition fun c => { c with encoderErrors := c.encoderErrors + 1 })).raise .encoder

theorem encoderError_of_member {s : State} (h : s.mem.state = .member) : s.encoderError = s.encoderFault.lapse :=
  lapseFrom_of_mem (by simp [h])

theorem encoderError_of_not_member {s : State} (h : s.mem.state ≠ .member) : s.encoderError = s.encoderFault :=
  lapseFrom_of_notMem (by simp [h])

@[simp] theorem encoderFault_pos (s : State) : s.encoderFault.pos = s.pos := by simp [State.encoderFault]

@[simp] theorem encoderFault_mem (s : State) : s.encoderFault.mem = s.mem := by simp [State.encoderFault]

theorem encoderFault_eq_withNoticesOf (s : State) : s.encoderFault = s.withNoticesOf s.encoderFault :=
  eq_withNoticesOf_trans (bump_eq_withNoticesOf s _) (raise_eq_withNoticesOf _ .encoder)

/-- Outside MEMBER an illegal step is the fault's record and its notice alone. -/
theorem encoderError_eq_withNoticesOf {s : State} (h : s.mem.state ≠ .member) :
    s.encoderError = s.withNoticesOf s.encoderError := by
  rw [encoderError_of_not_member h]
  exact encoderFault_eq_withNoticesOf s

/-- Of the position unit an illegal step moves the state alone. -/
theorem encoderError_pos (s : State) : ∃ m, s.encoderError.pos = { s.pos with mode := m } := by
  by_cases h : s.mem.state = .member
  · exact ⟨_, by rw [encoderError_of_member h, lapse_pos, encoderFault_pos]⟩
  · exact ⟨s.pos.mode, by rw [encoderError_of_not_member h, encoderFault_pos]⟩

theorem encoderError_mem_state (s : State) :
    s.encoderError.mem.state = if s.mem.state = .member then .lapsed else s.mem.state := by
  split
  case isTrue h => rw [encoderError_of_member h, lapse_mem_state]
  case isFalse h => rw [encoderError_of_not_member h, encoderFault_mem]

theorem encoderError_encoderRecord (s : State) :
    s.encoderError.encoderRecord
      = ({ s.ctr.pos with encoderErrors := s.ctr.pos.encoderErrors + 1 }, s.window.faults ||| 1#16) := by
  have faulted : s.encoderFault.encoderRecord = _ := raise_encoderRecord _ .encoder
  by_cases h : s.mem.state = .member
  · rw [encoderError_of_member h, lapse_encoderRecord, faulted]
    rfl
  · rw [encoderError_of_not_member h, faulted]
    rfl

theorem encoderError_faultSet (s : State) : s.encoderError.faultSet .encoder = true := by
  have flags : s.encoderError.window.faults = s.window.faults ||| 1#16 := congrArg Prod.snd (encoderError_encoderRecord s)
  simp [State.faultSet, flags, FaultKind.bit]

theorem encoderStep_both_changed (a b : Bool) : encoderStep (!a, !b) (a, b) = .illegal := by
  cases a <;> cases b <;> rfl

/-- The state in which the step to the pair `q` is judged: at the command's moment, `q` the new reference (R1). -/
def State.atPair (s : State) (t : Moment) (q : Bool × Bool) : State :=
  { s.tick t with pos := { s.pos with reference := some q } }

@[simp] theorem atPair_pos (s : State) (t : Moment) (q : Bool × Bool) :
    (s.atPair t q).pos = { s.pos with reference := some q } := rfl

/-- An event in which both inputs change is an illegal step, taken with the new pair as the reference. -/
theorem exec_encoderEvent_both_changed (t : Moment) (a b : Bool) (s : State) (h : s.pos.reference = some (!a, !b)) :
    exec (.encoderEvent t a b) s = .next (s.atPair t (a, b)).encoderError := by
  have meaning : exec (.encoderEvent t a b) s = execEncoderEvent t a b s := rfl
  simp [meaning, execEncoderEvent, h, encoderStep_both_changed, State.atPair]

end Sys2Proof.Machine

namespace Sys2Proof

open Machine

/-- Settles O19: the event is the illegal step of the state at the new pair; the counts follow from `encoderError_pos`,
the last clause is `encoderError_eq_withNoticesOf`. -/
theorem illegalEncoderStep : Obligations.IllegalEncoderStep := by
  intro t a b s h
  obtain ⟨m, hpos⟩ := encoderError_pos (s.atPair t (a, b))
  refine ⟨(s.atPair t (a, b)).encoderError, exec_encoderEvent_both_changed t a b s h, ?raw, ?groupCount, ?w, ?lineIndex,
    ?reference, congrArg Prod.fst (encoderError_encoderRecord _), encoderError_faultSet _, encoderError_mem_state _,
    encoderError_eq_withNoticesOf (s := s.atPair t (a, b))⟩
  all_goals simp [State.groupCount, hpos]

end Sys2Proof

/-! The pattern lines (R28): the bytes of the two patterns, and the line that a PATTERN tap pushes (R27). -/

namespace Sys2Proof.Machine

/-! ### The bytes of a pattern -/

theorem patternByte_ramp (p : Station) (t : Tap) (line i : Nat) :
    patternByte true p t line i = BitVec.ofNat 8 i := rfl

theorem patternByte_index_line (p : Station) (t : Tap) {line i : Nat} (h : i < 4) :
    patternByte false p t line i = BitVec.ofNat 8 (line / 256 ^ i) := by
  simp [patternByte, byteOf, h]

theorem patternByte_index_station (p : Station) (t : Tap) (line : Nat) :
    patternByte false p t line 4 = BitVec.ofNat 8 p.val := rfl

theorem patternByte_index_tap (p : Station) (t : Tap) (line : Nat) :
    patternByte false p t line 5 = BitVec.ofNat 8 t.val := rfl

theorem patternByte_index_rest (p : Station) (t : Tap) {line i : Nat} (h : 6 ≤ i) :
    patternByte false p t line i = BitVec.ofNat 8 (i + line) := by
  have past_line : ¬ i < 4 := by omega
  have past_station : i ≠ 4 := by omega
  have past_tap : i ≠ 5 := by omega
  simp [patternByte, byteOf, past_line, past_station, past_tap]

/-! ### A pattern line -/

@[simp] theorem length_patternLine (ramp : Bool) (p : Station) (t : Tap) (line width : Nat) :
    (patternLine ramp p t line width).length = width := by
  simp [patternLine]

theorem patternLine_getElem? (ramp : Bool) (p : Station) (t : Tap) (line : Nat) {width i : Nat} (h : i < width) :
    (patternLine ramp p t line width)[i]? = some (patternByte ramp p t line i) := by
  simp [patternLine, h]

/-- A byte of a pattern does not depend on the layout width: a shorter line is the beginning of a longer one. -/
theorem take_patternLine (ramp : Bool) (p : Station) (t : Tap) (line width n : Nat) :
    (patternLine ramp p t line width).take n = patternLine ramp p t line (min n width) := by
  simp [patternLine, ← List.map_take, List.take_range]

/-! ### The handover to a PATTERN tap (R27) -/

/-- The line that a PATTERN tap makes of a trigger record, in the slot of the pool's choice. -/
def State.generatedLine (s : State) (t : Tap) (r : Trigger) : Line where
  index := r.index
  phase := r.phase
  slot := s.choice
  pixels := patternLine (cfgRamp s.area t) s.self t r.index (s.tapWidth t)

theorem handRecord_of_pattern {s : State} {t : Tap} (h : s.tapMode t = .pattern) (r : Trigger) :
    s.handRecord t r = s.takePattern t r := by
  simp [State.handRecord, h]

theorem takePattern_of_granted {s : State} {t : Tap} (h : s.slotGranted t = true) (r : Trigger) :
    s.takePattern t r = (s.setLines t (s.taps[t].lines ++ [s.generatedLine t r])).slotTaken.bump
      (countTap t fun c => { c with linesGood := c.linesGood + 1 }) :=
  if_pos h

/-- Of the taps a granted handover changes the handed tap's line queue alone: the line is pushed at its tail. -/
theorem takePattern_taps_of_granted {s : State} {t : Tap} (h : s.slotGranted t = true) (r : Trigger) :
    (s.takePattern t r).taps
      = s.taps.set t { s.taps[t] with lines := s.taps[t].lines ++ [s.generatedLine t r] } := by
  simp [takePattern_of_granted h]

theorem handRecord_lines_of_pattern {s : State} {t : Tap} (hmode : s.tapMode t = .pattern)
    (hslot : s.slotGranted t = true) (r : Trigger) :
    ((s.handRecord t r).taps[t]).lines = (s.taps[t]).lines ++ [s.generatedLine t r] := by
  simp [handRecord_of_pattern hmode, takePattern_taps_of_granted hslot]

end Sys2Proof.Machine

namespace Sys2Proof

open Machine

/-- Settles O16: each byte is `patternLine_getElem?` with the case of `patternByte` at its position, the queued line is
the record's `State.generatedLine`. -/
theorem patternBytes : Obligations.PatternBytes := by
  refine ⟨?bytes, length_patternLine, ?first, ?last, ?wrapped, ?queued⟩
  case bytes =>
    intro p t line width i hi
    simp only [patternLine_getElem? _ p t line hi, Option.some.injEq]
    refine ⟨patternByte_ramp p t line i, patternByte_index_line p t, ?station, ?tap, patternByte_index_rest p t⟩
    case station =>
      rintro rfl
      exact patternByte_index_station p t line
    case tap =>
      rintro rfl
      exact patternByte_index_tap p t line
  case first =>
    rw [take_patternLine]
    decide
  case last =>
    rw [patternLine_getElem? _ _ _ _ (by decide), patternByte_index_rest _ _ (by decide)]
    decide
  case wrapped =>
    rw [patternLine_getElem? _ _ _ _ (by decide), patternByte_index_rest _ _ (by decide)]
    decide
  case queued =>
    intro s t r hmode hslot
    exact ⟨s.generatedLine t r, handRecord_lines_of_pattern hmode hslot r, rfl, rfl, rfl⟩

end Sys2Proof

/-! The order of grant sequences (R101): the three comparisons as bounds on one distance modulo 256. -/

namespace Sys2Proof.Machine

/-- The distance that R101 compares: how far `b` lies above `a`, modulo 256. -/
theorem toNat_seq_sub (a b : Byte) : (b - a).toNat = (b.toNat + 256 - a.toNat) % 256 := by
  rw [BitVec.toNat_sub]
  have := a.isLt
  omega

theorem seqAtOrBelow_iff (a b : Byte) : seqAtOrBelow a b = true ↔ (b.toNat + 256 - a.toNat) % 256 ≤ 127 := by
  simp only [seqAtOrBelow, decide_eq_true_iff, toNat_seq_sub]

/-- Below is at or below, and not equal. -/
theorem seqBelow_iff (a b : Byte) :
    seqBelow a b = true
      ↔ 1 ≤ (b.toNat + 256 - a.toNat) % 256 ∧ (b.toNat + 256 - a.toNat) % 256 ≤ 127 := by
  simp only [seqBelow, Bool.and_eq_true, decide_eq_true_iff, seqAtOrBelow_iff, toNat_seq_sub]

/-- Above is what is not at or below: the upper half of the distances. -/
theorem seqAbove_iff (a b : Byte) :
    seqAbove a b = true
      ↔ 128 ≤ (b.toNat + 256 - a.toNat) % 256 ∧ (b.toNat + 256 - a.toNat) % 256 ≤ 255 := by
  have above : seqAbove a b = true ↔ ¬ seqAtOrBelow a b = true := by simp [seqAbove]
  rw [above, seqAtOrBelow_iff]
  omega

end Sys2Proof.Machine

namespace Sys2Proof

open Machine

/-- Settles O15: the comparisons as distances, and the two examples of R101 (3 is above 250, by the wrap at 256). -/
theorem sequenceOrder : Obligations.SequenceOrder :=
  ⟨fun a b => ⟨seqAtOrBelow_iff a b, seqBelow_iff a b, seqAbove_iff a b⟩, by decide, by decide⟩

end Sys2Proof

/-! POST-GRANT (R106): the taking of a command, the answer of each condition in the manual's order, and what an
accepted grant changes. -/

namespace Sys2Proof.Machine

/-! ### A command taken at once (R172) -/

/-- The state in which the meaning of a command is judged that the interface takes from IDLE: at the command's moment,
its code in the command word and its argument words latched. -/
def State.takenAt (s : State) (t : Moment) (code : Byte) : State :=
  { s.tick t with
    window := { s.window with
      command := code
      taking := some { code, args := s.window.args }
      result := { s.window.result with done := false } } }

theorem take_tick_of_idle {s : State} (idle : s.window.taking = none) (t : Moment) (code : Byte)
    (body : State → State) :
    (s.tick t).take code body = body (s.takenAt t code) := by
  simp [State.take, State.takenAt, idle]

/-- An answer to a taken command leaves of the taking only the command word. -/
theorem answer_takenAt (s : State) (t : Moment) (code : Byte) (r : Result) (v : Word) :
    (s.takenAt t code).answer code r v = s.answeredAs t code r v := rfl

/-! ### The lists after a claim (R57) -/

theorem code_injective : Function.Injective NoteKind.code := by
  intro j k
  cases j <;> cases k <;> simp [NoteKind.code]

theorem joinList_pendingOf_same (s : State) (c : Claim) :
    (s.joinList c).pendingOf c.kind = s.pendingOf c.kind ++ [{ claim := c, attempts := 0, doom := .none }] := by
  simp only [State.pendingOf, joinList_tx]
  exact Vector.getElem_set_self ..

theorem joinList_pendingOf_of_ne (s : State) (c : Claim) {k : NoteKind} (h : k ≠ c.kind) :
    (s.joinList c).pendingOf k = s.pendingOf k := by
  have other : c.kind.code.val ≠ k.code.val := fun e => h (code_injective (Fin.ext e)).symm
  simp only [State.pendingOf, joinList_tx]
  exact Vector.getElem_set_ne _ _ other

/-! ### The conditions in order (R106) -/

/-- The base is not a multiple of 4,096, or is 2^52 or more. -/
def BadBase (base : Nat) : Prop := base % 4096 ≠ 0 ∨ 2 ^ 52 ≤ base

/-- A GRANT claim of channel `c` takes the next sequence and is counted as posted, before the answer. -/
def State.grantPosted (s : State) (c : Fin 8) (base : Nat) : State :=
  let ch := s.frames.channels[c]
  ((s.setChannel c { ch with nextSeq := ch.nextSeq + 1 }).joinList
    (.grant c ch.nextSeq (BitVec.ofNat 40 (base / 4096)))).bump
    (countFrames fun f => { f with grantsPosted := f.grantsPosted + 1 })

/-- The GRANT list has room for a fourth note and for no fifth (R58). -/
theorem hasRoom_grant_iff (s : State) : s.hasRoom .grant = true ↔ (s.pendingOf .grant).length < 4 :=
  decide_eq_true_iff

section Conditions

variable {s : State} {c : Fin 8} {base : Nat}

theorem postGrant_of_badBase (bad : BadBase base) : s.postGrant c base = s.answer 4 .refusedArgument 0 := if_pos bad

theorem postGrant_of_not_home (aligned : ¬ BadBase base) (away : cfgHome s.area c ≠ s.self.val) :
    s.postGrant c base = s.answer 4 .refusedNotHome 0 :=
  (if_neg aligned).trans (if_pos away)

theorem postGrant_of_incomplete (aligned : ¬ BadBase base) (home : cfgHome s.area c = s.self.val)
    (incomplete : s.frames.channels[c].complete = false) : s.postGrant c base = s.answer 4 .refusedState 0 :=
  (if_neg aligned).trans <| (if_neg (not_not_intro home)).trans <| if_pos (Bool.eq_false_iff.mp incomplete)

/-- The conditions on the channel are met: what is left is the room for the grant. -/
theorem postGrant_of_complete (aligned : ¬ BadBase base) (home : cfgHome s.area c = s.self.val)
    (complete : s.frames.channels[c].complete = true) :
    s.postGrant c base
      = if 16 ≤ s.frames.channels[c].queue.length + s.pendingGrants c then s.answer 4 .refusedFull 0
        else if ¬ s.hasRoom .grant then s.answer 4 .refusedBusy 0
        else (s.grantPosted c base).answer 4 .accepted (s.frames.channels[c].nextSeq.setWidth 32) :=
  (if_neg aligned).trans <| (if_neg (not_not_intro home)).trans <| if_neg (not_not_intro complete)

theorem postGrant_of_full (aligned : ¬ BadBase base) (home : cfgHome s.area c = s.self.val)
    (complete : s.frames.channels[c].complete = true)
    (full : 16 ≤ s.frames.channels[c].queue.length + s.pendingGrants c) :
    s.postGrant c base = s.answer 4 .refusedFull 0 := by
  rw [postGrant_of_complete aligned home complete, if_pos full]

theorem postGrant_of_busy (aligned : ¬ BadBase base) (home : cfgHome s.area c = s.self.val)
    (complete : s.frames.channels[c].complete = true)
    (free : s.frames.channels[c].queue.length + s.pendingGrants c < 16) (busy : 4 ≤ (s.pendingOf .grant).length) :
    s.postGrant c base = s.answer 4 .refusedBusy 0 := by
  have no_room : ¬ s.hasRoom .grant = true := mt (hasRoom_grant_iff s).mp busy.not_gt
  rw [postGrant_of_complete aligned home complete, if_neg free.not_ge, if_pos no_room]

theorem postGrant_of_room (aligned : ¬ BadBase base) (home : cfgHome s.area c = s.self.val)
    (complete : s.frames.channels[c].complete = true)
    (free : s.frames.channels[c].queue.length + s.pendingGrants c < 16) (room : (s.pendingOf .grant).length < 4) :
    s.postGrant c base = (s.grantPosted c base).answer 4 .accepted (s.frames.channels[c].nextSeq.setWidth 32) := by
  have has_room : s.hasRoom .grant = true := (hasRoom_grant_iff s).mpr room
  rw [postGrant_of_complete aligned home complete, if_neg free.not_ge, if_neg (not_not_intro has_room)]

end Conditions

/-! ### An accepted grant -/

theorem grantPosted_frames (s : State) (c : Fin 8) (base : Nat) :
    (s.grantPosted c base).frames = { s.frames with
      channels := s.frames.channels.set c
        { s.frames.channels[c] with nextSeq := s.frames.channels[c].nextSeq + 1 } } := rfl

theorem grantPosted_frame (s : State) (c : Fin 8) (base : Nat) :
    s.grantPosted c base = { s with
      frames := (s.grantPosted c base).frames
      tx := (s.grantPosted c base).tx
      ctr := (s.grantPosted c base).ctr } := rfl

theorem grantPosted_ctr_frames (s : State) (c : Fin 8) (base : Nat) :
    (s.grantPosted c base).ctr.frames = { s.ctr.frames with grantsPosted := s.ctr.frames.grantsPosted + 1 } := rfl

theorem grantPosted_pendingOf_grant (s : State) (c : Fin 8) (base : Nat) :
    (s.grantPosted c base).pendingOf .grant
      = s.pendingOf .grant ++ [{ claim := .grant c s.frames.channels[c].nextSeq (BitVec.ofNat 40 (base / 4096)),
                                 attempts := 0, doom := .none }] :=
  joinList_pendingOf_same (s.setChannel c _) (.grant c _ _)

theorem grantPosted_pendingOf_of_ne (s : State) (c : Fin 8) (base : Nat) {k : NoteKind} (h : k ≠ .grant) :
    (s.grantPosted c base).pendingOf k = s.pendingOf k :=
  joinList_pendingOf_of_ne (s.setChannel c _) (.grant c _ _) h

/-! ### The command -/

/-- The buffer base in the second and the third argument word. -/
def State.postedBase (s : State) : Nat :=
  s.window.args[(1 : Fin 4)].toNat + 2 ^ 32 * s.window.args[(2 : Fin 4)].toNat

theorem exec_postGrant (t : Moment) (s : State) : exec (.postGrant t) s = execPostGrant t s := rfl

section Command

variable {s : State} (idle : s.window.taking = none) (t : Moment)
include idle

theorem exec_postGrant_of_not_member (outside : s.mem.state ≠ .member) :
    exec (.postGrant t) s = .next (s.answeredAs t 4 .refusedState 0) := by
  rw [exec_postGrant, execPostGrant, take_tick_of_idle idle, ← answer_takenAt]
  exact congrArg _ (if_pos outside)

theorem exec_postGrant_of_bad_channel (member : s.mem.state = .member)
    (bad : cfgChannels s.area ≤ s.window.args[(0 : Fin 4)].toNat ∨ 8 ≤ s.window.args[(0 : Fin 4)].toNat) :
    exec (.postGrant t) s = .next (s.answeredAs t 4 .refusedArgument 0) := by
  rw [exec_postGrant, execPostGrant, take_tick_of_idle idle, ← answer_takenAt]
  refine congrArg _ ((if_neg (not_not_intro member)).trans ?_)
  by_cases small : s.window.args[(0 : Fin 4)].toNat < 8
  · have unconfigured : ¬ s.window.args[(0 : Fin 4)].toNat < cfgChannels s.area := by omega
    exact (dif_pos small).trans (if_neg unconfigured)
  · exact dif_neg small

theorem exec_postGrant_of_channel (member : s.mem.state = .member) {c : Fin 8}
    (named : s.window.args[(0 : Fin 4)].toNat = c.val)
    (configured : s.window.args[(0 : Fin 4)].toNat < cfgChannels s.area) :
    exec (.postGrant t) s = .next ((s.takenAt t 4).postGrant c s.postedBase) := by
  have small : s.window.args[(0 : Fin 4)].toNat < 8 := named ▸ c.isLt
  have same : (⟨s.window.args[(0 : Fin 4)].toNat, small⟩ : Fin 8) = c := Fin.ext named
  rw [exec_postGrant, execPostGrant, take_tick_of_idle idle, ← same]
  exact congrArg _ ((if_neg (not_not_intro member)).trans ((dif_pos small).trans (if_pos configured)))

end Command

end Sys2Proof.Machine

namespace Sys2Proof

open Machine

/-- Settles O56: each clause is the condition of `State.postGrant` that it names, judged in the state in which the
command is taken (`answer_takenAt` makes its answer the statement's); the state of the last clause is
`State.grantPosted`. -/
theorem postGrantCommand : Obligations.PostGrantCommand := by
  intro t s idle channel base
  refine ⟨exec_postGrant_of_not_member idle t, exec_postGrant_of_bad_channel idle t, ?_⟩
  intro c member named configured ch badBase outstanding
  have meaning : exec (.postGrant t) s = .next ((s.takenAt t 4).postGrant c base) :=
    exec_postGrant_of_channel idle t member named configured
  refine ⟨?badBase, ?notHome, ?incomplete, ?full, ?busy, ?accepted⟩
  case badBase =>
    intro bad
    exact meaning.trans (congrArg _ (postGrant_of_badBase bad))
  case notHome =>
    intro aligned away
    exact meaning.trans (congrArg _ (postGrant_of_not_home aligned away))
  case incomplete =>
    intro aligned home incomplete
    exact meaning.trans (congrArg _ (postGrant_of_incomplete aligned home incomplete))
  case full =>
    intro aligned home complete full
    exact meaning.trans (congrArg _ (postGrant_of_full aligned home complete full))
  case busy =>
    intro aligned home complete free busy
    exact meaning.trans (congrArg _ (postGrant_of_busy aligned home complete free busy))
  case accepted =>
    intro aligned home complete free room
    exact ⟨s.grantPosted c base, meaning.trans (congrArg _ (postGrant_of_room aligned home complete free room)),
      grantPosted_frame s c base, grantPosted_frames s c base, grantPosted_pendingOf_grant s c base,
      fun k => grantPosted_pendingOf_of_ne s c base, grantPosted_ctr_frames s c base⟩

end Sys2Proof

/-! MARK (R161) and SET-OUTPUT (R167): the answer of each condition in the manual's order, and what an accepted command
changes. -/

namespace Sys2Proof.Machine

/-- A list has room below its kind's quota (R58). -/
theorem hasRoom_iff (s : State) (k : NoteKind) : s.hasRoom k = true ↔ (s.pendingOf k).length < k.quota :=
  decide_eq_true_iff

/-! ### An accepted MARK (R161) -/

/-- The claim of a MARK: the ID and the line index of its argument words, at level 1 and of origin host. -/
def State.markClaim (s : State) : Claim :=
  .signal (s.window.args[(0 : Fin 4)].setWidth 4) true .host s.window.args[(1 : Fin 4)]

/-- The claim of a MARK is made and counted, before the answer. -/
def State.marked (s : State) : State :=
  (s.joinList s.markClaim).bump (countSignals fun c => { c with marksAccepted := c.marksAccepted + 1 })

theorem marked_frame (s : State) : s.marked = { s with tx := s.marked.tx, ctr := s.marked.ctr } := rfl

theorem marked_ctr_signals (s : State) :
    s.marked.ctr.signals = { s.ctr.signals with marksAccepted := s.ctr.signals.marksAccepted + 1 } := rfl

theorem marked_pendingOf_signal (s : State) :
    s.marked.pendingOf .signal = s.pendingOf .signal ++ [{ claim := s.markClaim, attempts := 0, doom := .none }] :=
  joinList_pendingOf_same s s.markClaim

theorem marked_pendingOf_of_ne (s : State) {k : NoteKind} (h : k ≠ .signal) : s.marked.pendingOf k = s.pendingOf k :=
  joinList_pendingOf_of_ne s s.markClaim h

/-! ### An accepted SET-OUTPUT (R167) -/

/-- Output `j` with its manual level set, before the answer. -/
def State.manualSet (s : State) (j : Fin 4) (level : Bool) : State :=
  s.setOutputState j { s.signals.outputs[j] with manual := level }

/-- A MANUAL output shows its manual level (R163). -/
theorem asserted_of_manual {s : State} {j : Fin 4} (manual : cfgOutputMode s.area j = .manual) :
    s.asserted j = s.signals.outputs[j].manual := by
  simp only [State.asserted, manual]

theorem manualSet_outputs_same (s : State) (j : Fin 4) (level : Bool) :
    (s.manualSet j level).signals.outputs[j] = { s.signals.outputs[j] with manual := level } :=
  Vector.getElem_set_self ..

theorem manualSet_asserted {s : State} {j : Fin 4} (manual : cfgOutputMode s.area j = .manual) (level : Bool) :
    (s.manualSet j level).asserted j = level := by
  have still_manual : cfgOutputMode (s.manualSet j level).area j = .manual := manual
  rw [asserted_of_manual still_manual, manualSet_outputs_same]

/-! ### The commands -/

theorem exec_mark (t : Moment) (s : State) : exec (.mark t) s = execMark t s := rfl

theorem exec_setOutput (t : Moment) (s : State) : exec (.setOutput t) s = execSetOutput t s := rfl

section Command

variable {s : State} (idle : s.window.taking = none) (t : Moment)
include idle

/-- The conditions of R161 in their order, each with its answer. -/
theorem exec_mark_of_idle :
    exec (.mark t) s = .next
      (if s.mem.state ≠ .member then s.answeredAs t 7 .refusedState 0
       else if 15 < s.window.args[(0 : Fin 4)].toNat then s.answeredAs t 7 .refusedArgument 0
       else if ¬ s.hasRoom .signal then s.answeredAs t 7 .refusedBusy 0
       else s.marked.answeredAs t 7 .accepted 0) := by
  rw [exec_mark, execMark, take_tick_of_idle idle]
  rfl

theorem exec_setOutput_of_unconfigured (outside : s.mem.state = .unconfigured) :
    exec (.setOutput t) s = .next (s.answeredAs t 8 .refusedState 0) := by
  rw [exec_setOutput, execSetOutput, take_tick_of_idle idle, ← answer_takenAt]
  exact congrArg _ (if_pos outside)

theorem exec_setOutput_of_bad_argument (configured : s.mem.state ≠ .unconfigured)
    (bad : 3 < s.window.args[(0 : Fin 4)].toNat ∨ 1 < s.window.args[(1 : Fin 4)].toNat) :
    exec (.setOutput t) s = .next (s.answeredAs t 8 .refusedArgument 0) := by
  rw [exec_setOutput, execSetOutput, take_tick_of_idle idle, ← answer_takenAt]
  refine congrArg _ ((if_neg configured).trans ?_)
  by_cases named : s.window.args[(0 : Fin 4)].toNat < 4
  · have high : 1 < s.window.args[(1 : Fin 4)].toNat := by omega
    exact (dif_pos named).trans (if_pos high)
  · exact dif_neg named

/-- The arguments are in range: what is left is the mode of the output that they name. -/
theorem exec_setOutput_of_output (configured : s.mem.state ≠ .unconfigured) {j : Fin 4}
    (named : s.window.args[(0 : Fin 4)].toNat = j.val) (level : s.window.args[(1 : Fin 4)].toNat ≤ 1) :
    exec (.setOutput t) s = .next
      (if cfgOutputMode s.area j ≠ .manual then s.answeredAs t 8 .refusedArgument 0
       else (s.manualSet j (decide (s.window.args[(1 : Fin 4)].toNat = 1))).answeredAs t 8 .accepted 0) := by
  have small : s.window.args[(0 : Fin 4)].toNat < 4 := named ▸ j.isLt
  have same : (⟨s.window.args[(0 : Fin 4)].toNat, small⟩ : Fin 4) = j := Fin.ext named
  rw [exec_setOutput, execSetOutput, take_tick_of_idle idle, ← same]
  exact congrArg _ ((if_neg configured).trans ((dif_pos small).trans (if_neg level.not_gt)))

end Command

end Sys2Proof.Machine

namespace Sys2Proof

open Machine

/-- Settles O58: each clause is one branch of `exec_mark_of_idle`; the state of the last clause is `State.marked`. -/
theorem markCommand : Obligations.MarkCommand := by
  intro t s idle id line
  rw [exec_mark_of_idle idle t]
  refine ⟨?notMember, ?badId, ?busy, ?accepted⟩
  case notMember =>
    intro outside
    rw [if_pos outside]
  case badId =>
    intro member high
    rw [if_neg (not_not_intro member), if_pos high]
  case busy =>
    intro member low full
    have no_room : ¬ s.hasRoom .signal = true := mt (hasRoom_iff s .signal).mp full.not_gt
    rw [if_neg (not_not_intro member), if_neg low.not_gt, if_pos no_room]
  case accepted =>
    intro member low room
    have has_room : s.hasRoom .signal = true := (hasRoom_iff s .signal).mpr room
    refine ⟨s.marked, ?_, marked_frame s, marked_pendingOf_signal s, fun k => marked_pendingOf_of_ne s,
      marked_ctr_signals s⟩
    rw [if_neg (not_not_intro member), if_neg low.not_gt, if_neg (not_not_intro has_room)]

/-- Settles O59: the refusals in the manual's order; the state of the last clause is `State.manualSet`, whose output
shows the level by `manualSet_asserted`. -/
theorem setOutputCommand : Obligations.SetOutputCommand := by
  intro t s idle output level
  refine ⟨exec_setOutput_of_unconfigured idle t, exec_setOutput_of_bad_argument idle t, ?_⟩
  intro j configured named low
  rw [exec_setOutput_of_output idle t configured named low]
  refine ⟨?otherMode, ?accepted⟩
  case otherMode =>
    intro other
    rw [if_pos other]
  case accepted =>
    intro manual
    refine ⟨s.manualSet j (decide (level = 1)), ?_, rfl, manualSet_asserted manual _⟩
    rw [if_neg (not_not_intro manual)]

end Sys2Proof

/-! CLEAR-FAULTS (R179): the refusal of a mask that is too wide, and the flags that an accepted mask leaves set. -/

namespace Sys2Proof.Machine

/-! ### An accepted CLEAR-FAULTS (R179) -/

/-- The flags that the mask names are clear, before the answer: the sixteen fault flags by the bits of their own places,
COLLISION by bit 16. -/
def State.faultsCleared (s : State) (mask : Word) : State :=
  { s with window := { s.window with faults := s.window.faults &&& ~~~(mask.setWidth 16)
                                     collision := s.window.collision && !mask.getLsbD 16 } }

theorem faultsCleared_frame (s : State) (mask : Word) :
    s.faultsCleared mask = { s with window := { s.window with
      faults := (s.faultsCleared mask).window.faults, collision := (s.faultsCleared mask).window.collision } } := rfl

theorem faultsCleared_faults_getLsbD (s : State) (mask : Word) {i : Nat} (flag : i < 16) :
    (s.faultsCleared mask).window.faults.getLsbD i = (s.window.faults.getLsbD i && !mask.getLsbD i) := by
  simp [State.faultsCleared, flag]

theorem faultsCleared_collision (s : State) (mask : Word) :
    (s.faultsCleared mask).window.collision = (s.window.collision && !mask.getLsbD 16) := rfl

/-! ### The command -/

theorem exec_clearFaults (t : Moment) (s : State) : exec (.clearFaults t) s = execClearFaults t s := rfl

/-- Nothing but the mask decides the answer: the command is accepted in every state of the station. -/
theorem exec_clearFaults_of_idle {s : State} (idle : s.window.taking = none) (t : Moment) :
    exec (.clearFaults t) s = .next
      (if 2 ^ 17 ≤ s.window.args[(0 : Fin 4)].toNat then s.answeredAs t 9 .refusedArgument 0
       else (s.faultsCleared s.window.args[(0 : Fin 4)]).answeredAs t 9 .accepted 0) := by
  rw [exec_clearFaults, execClearFaults, take_tick_of_idle idle]
  rfl

end Sys2Proof.Machine

namespace Sys2Proof

open Machine

/-- Settles O60: the two clauses are the branches of `exec_clearFaults_of_idle`; the state of the second is
`State.faultsCleared`. -/
theorem clearFaultsCommand : Obligations.ClearFaultsCommand := by
  intro t s idle mask
  rw [exec_clearFaults_of_idle idle t]
  refine ⟨?tooWide, ?accepted⟩
  case tooWide =>
    intro wide
    rw [if_pos wide]
  case accepted =>
    intro inRange
    refine ⟨s.faultsCleared mask, ?_, faultsCleared_frame s mask, fun i => faultsCleared_faults_getLsbD s mask,
      faultsCleared_collision s mask⟩
    rw [if_neg inRange.not_ge]

end Sys2Proof

/-! The step (log 3), and the resets of the whole station (R182). -/

namespace Sys2Proof

-- One proof at a time: the proofs of many statements at once take more threads than the memory holds.
set_option Elab.async false

open Machine

/-- Settles O1: the two arms of `step`. -/
theorem stepRunsFrontCommand : Obligations.StepRunsFrontCommand := by
  constructor
  · intro c rest s queued
    simp [step, queued]
  · intro s empty
    simp [step, empty]

/-- Settles O3: the reset state evaluates to each value. -/
theorem powerOnValues : Obligations.PowerOnValues := by
  unfold Obligations.PowerOnValues
  refine ⟨fun a => rfl, rfl, rfl, rfl, rfl, rfl, rfl, rfl, rfl, rfl, rfl, rfl, rfl, rfl, rfl, rfl, rfl, rfl, rfl, rfl,
    rfl, rfl, rfl, rfl, ?strobes, ?taps, rfl, rfl, rfl, rfl, rfl, ?lists, rfl, ?slots, rfl, rfl, rfl, rfl, rfl, rfl,
    ?channels, ?rotation, rfl, rfl, rfl, rfl, ?handled, rfl, ?outputs, ?pins⟩
  case strobes => decide
  case taps => decide
  case lists => intro k; cases k <;> rfl
  case slots => decide
  case channels => decide
  case rotation => decide
  case handled => decide
  case outputs => decide
  case pins => decide

/-- Settles O4: the power-on reset by unfolding; the two station resets by the condition of the command interface. -/
theorem resetsOfTheWholeStation : Obligations.ResetsOfTheWholeStation := by
  intro t s
  refine ⟨rfl, ?reset, ?complete⟩
  case reset =>
    intro idle
    have meaning : exec (.resetStation t) s = execResetStation t s := rfl
    simp [meaning, execResetStation, State.take, idle, State.resetStation, State.reset, Window.reset]
  case complete =>
    intro taken command
    have meaning : exec (.resetStationComplete t) s = execResetStationComplete t s := rfl
    have taken' : (s.tick t).takingCode = some 11 := taken
    simp [meaning, execResetStationComplete, taken']
    simp [State.answer, State.answeredAs, State.bump, countWindow, State.tick, command]

end Sys2Proof

/-! The invariants of the station's tables and queues (R18, R31, R51, R58, R61, R96, R102, R145, R151, R163, R181), with
what stays through every operation: the waiting commands, the moment and the area. One relation carries them all, and one
lemma per operation says that the operation continues it; a command's proof then reads like the command's meaning. -/

namespace Sys2Proof.Machine

-- One proof at a time: the proofs of many statements at once take more threads than the memory holds.
set_option Elab.async false

/-! ### The slots of the line pool by tap (R31) -/

theorem tap_cases (t : Tap) : t = 0 ∨ t = 1 := by
  revert t
  decide

/-- The slots of the current turn's line, while the turn is tap `t`'s. -/
def turnSlotsOf (t : Tap) : Option Turn → List (Fin 256)
  | some tu => if tu.tap = t then turnSlots (some tu) else []
  | none => []

/-- The slots of the line pool that tap `t` holds: those of its port and its line queue, and its current line's. -/
def State.slotsOfTap (s : State) (t : Tap) : List (Fin 256) := s.taps[t].slots ++ turnSlotsOf t s.delivery.turn

theorem tapHolds_eq (s : State) (t : Tap) : s.tapHolds t = (s.slotsOfTap t).length := by
  unfold State.tapHolds State.slotsOfTap turnSlotsOf
  rw [List.length_append]
  cases s.delivery.turn with
  | none => rfl
  | some tu => dsimp only; split <;> rfl

theorem turnSlots_perm (tu : Option Turn) : (turnSlots tu).Perm (turnSlotsOf 0 tu ++ turnSlotsOf 1 tu) := by
  cases tu with
  | none => exact .refl _
  | some tu =>
    obtain h | h := tap_cases tu.tap
    · simp [turnSlotsOf, h]
    · simp [turnSlotsOf, h]

theorem heldSlots_perm (s : State) : s.heldSlots.Perm (s.slotsOfTap 0 ++ s.slotsOfTap 1) := by
  unfold State.heldSlots State.slotsOfTap
  refine ((turnSlots_perm s.delivery.turn).append_left _).trans ?_
  simp only [List.append_assoc]
  refine .append_left _ ?_
  simp only [← List.append_assoc]
  exact List.perm_append_comm.append_right _

theorem poolAccounted_iff (s : State) :
    s.poolAccounted ↔ (s.slotsOfTap 0 ++ s.slotsOfTap 1).Nodup ∧ ∀ t, (s.slotsOfTap t).length ≤ 192 := by
  simp only [State.poolAccounted, tapHolds_eq, (heldSlots_perm s).nodup_iff]

/-- A tap that holds no slot but some of those it held keeps the pool accounted. -/
theorem poolAccounted_of_subperm {s u : State} (h : ∀ t, (u.slotsOfTap t).Subperm (s.slotsOfTap t))
    (pool : s.poolAccounted) : u.poolAccounted := by
  rw [poolAccounted_iff] at pool ⊢
  obtain ⟨nodup, few⟩ := pool
  refine ⟨?_, fun t => (h t).length_le.trans (few t)⟩
  obtain ⟨l, same, sub⟩ := (h 0).append (h 1)
  exact same.nodup_iff.mp (nodup.sublist sub)

/-- The pool's choice is in the free set while the pool is accounted and counts a free slot (R31). -/
theorem choice_mem_freeSlots {s : State} (free : 0 < s.freeCount) : s.choice ∈ s.freeSlots := by
  have some_free : s.freeSlots ≠ [] := by
    intro none_free
    have all_held : ∀ x ∈ List.finRange 256, x ∈ s.heldSlots := by
      intro x hx
      by_contra not_held
      have : x ∈ s.freeSlots := by simp [State.freeSlots, not_held]
      rw [none_free] at this
      cases this
    have count : (List.finRange 256).length ≤ s.heldSlots.length :=
      ((List.nodup_finRange 256).subperm all_held).length_le
    rw [List.length_finRange] at count
    unfold State.freeCount at free
    omega
  have place : Config.poolChoice s.draws % s.freeSlots.length < s.freeSlots.length :=
    Nat.mod_lt _ (List.length_pos_of_ne_nil some_free)
  unfold State.choice
  rw [List.getElem?_eq_getElem place]
  exact List.getElem_mem place

theorem mem_freeSlots_iff {s : State} {x : Fin 256} : x ∈ s.freeSlots ↔ x ∉ s.heldSlots := by
  simp [State.freeSlots]

/-- A granted slot joins its tap's, and the pool stays accounted (R21, R31). -/
theorem poolAccounted_of_granted {s u : State} {t : Tap} (granted : s.slotGranted t = true)
    (taken : (u.slotsOfTap t).Subperm (s.choice :: s.slotsOfTap t))
    (other : ∀ r, r ≠ t → u.slotsOfTap r = s.slotsOfTap r) (pool : s.poolAccounted) : u.poolAccounted := by
  simp only [State.slotGranted, Bool.and_eq_true, decide_eq_true_iff, tapHolds_eq] at granted
  obtain ⟨free, below⟩ := granted
  have fresh : s.choice ∉ s.slotsOfTap 0 ++ s.slotsOfTap 1 := by
    rw [← (heldSlots_perm s).mem_iff]
    exact mem_freeSlots_iff.mp (choice_mem_freeSlots free)
  rw [poolAccounted_iff] at pool ⊢
  obtain ⟨nodup, few⟩ := pool
  have nodup' : (s.choice :: (s.slotsOfTap 0 ++ s.slotsOfTap 1)).Nodup := List.nodup_cons.mpr ⟨fresh, nodup⟩
  refine ⟨?_, fun r => ?_⟩
  · have all : (u.slotsOfTap 0 ++ u.slotsOfTap 1).Subperm (s.choice :: (s.slotsOfTap 0 ++ s.slotsOfTap 1)) := by
      obtain rfl | rfl := tap_cases t
      · rw [other 1 (by decide)]
        exact taken.append (List.Subperm.refl _)
      · rw [other 0 (by decide)]
        exact ((List.Subperm.refl (s.slotsOfTap 0)).append taken).trans List.perm_middle.subperm
    obtain ⟨l, same, sub⟩ := all
    exact same.nodup_iff.mp (nodup'.sublist sub)
  · by_cases h : r = t
    · subst h
      have := taken.length_le
      rw [List.length_cons] at this
      omega
    · rw [other r h]
      exact few r

/-! ### The relation -/

/-- Every bound and placement that `s` meets, `u` meets. A field whose part of the state an operation leaves alone is filled
in by itself. -/
structure KeepsBounds (s u : State) : Prop where
  placed : s.slotsPlaced → u.slotsPlaced := by exact id
  sound : s.legsSound → u.legsSound := by exact id
  triggers : s.triggersBounded → u.triggersBounded := by exact id
  places : s.placesBounded → u.placesBounded := by exact id
  quotas : s.quotasKept → u.quotasKept := by exact id
  pool : s.poolAccounted → u.poolAccounted := by exact id
  records : s.recordsBounded → u.recordsBounded := by exact id
  events : s.eventsBounded → u.eventsBounded := by exact id
  grants : s.grantsBounded → u.grantsBounded := by exact id
  schedules : s.schedulesBounded → u.schedulesBounded := by exact id

/-- From `s` to `u` the bounds are kept, and the waiting commands, the moment and the area stay. -/
structure Keeps (s u : State) : Prop extends KeepsBounds s u where
  pending : u.pending = s.pending := by exact rfl
  now : u.now = s.now := by exact rfl
  area : u.window.area = s.window.area := by exact rfl

namespace Keeps

theorem refl (s : State) : Keeps s s := {}

theorem trans {s u v : State} (hu : Keeps s u) (hv : Keeps u v) : Keeps s v where
  pending := hv.pending.trans hu.pending
  now := hv.now.trans hu.now
  area := hv.area.trans hu.area
  placed := hv.placed ∘ hu.placed
  sound := hv.sound ∘ hu.sound
  triggers := hv.triggers ∘ hu.triggers
  places := hv.places ∘ hu.places
  quotas := hv.quotas ∘ hu.quotas
  pool := hv.pool ∘ hu.pool
  records := hv.records ∘ hu.records
  events := hv.events ∘ hu.events
  grants := hv.grants ∘ hu.grants
  schedules := hv.schedules ∘ hu.schedules

theorem foldl {α : Type} {f : State → α → State} (hf : ∀ u a, Keeps u (f u a)) (l : List α) {s u : State}
    (h : Keeps s u) : Keeps s (l.foldl f u) := by
  induction l generalizing u with
  | nil => exact h
  | cons a l ih => exact ih (h.trans (hf u a))

theorem ite {p : Prop} [Decidable p] {s u v : State} (yes : p → Keeps s u) (no : ¬ p → Keeps s v) :
    Keeps s (if p then u else v) := by
  split
  · next hp => exact yes hp
  · next hp => exact no hp

section Operations

variable {s u : State} (h : Keeps s u)
include h

/-! ### Counters, events, notices and flags -/

theorem bump (f : Counters → Counters) : Keeps s (u.bump f) := h.trans {}

theorem present {r : PortRequest} (other : r.isNotice = false) : Keeps s (u.present r) :=
  h.trans { events := fun ⟨few, waiting⟩ => ⟨few, by simpa [noticesWaiting, other] using waiting⟩ }

theorem notice : Keeps s u.notice := by
  unfold State.notice
  split
  case isTrue room =>
    rw [Bool.and_eq_true, decide_eq_true_iff] at room
    refine h.trans { events := fun ⟨few, _⟩ => ⟨few, ?_⟩ }
    have one_more : noticesWaiting (u.present (.notice (cfgNoticeAddress u.area) (cfgNoticeData u.area)))
        = noticesWaiting u + 1 := by simp [noticesWaiting, PortRequest.isNotice]
    omega
  case isFalse => exact h.bump _

theorem event (k : EventKind) : Keeps s (u.event k) := by
  unfold State.event
  dsimp only
  split
  case isTrue room =>
    refine h.trans { events := fun ⟨_, waiting⟩ => ⟨?_, waiting⟩ }
    rw [List.length_append]
    exact room
  case isFalse full =>
    refine h.trans { events := fun ⟨few, waiting⟩ => ⟨?_, waiting⟩ }
    simp only [bump_window, List.length_append, List.length_drop, List.length_singleton]
    omega

theorem eventNoticed (k : EventKind) (enabled : Bool) : Keeps s (u.eventNoticed k enabled) := by
  unfold State.eventNoticed
  split
  · exact (h.event k).notice
  · exact h.event k

theorem raise (k : FaultKind) : Keeps s (u.raise k) := by
  have flagged : Keeps s ({ u with window := { u.window with
      faults := u.window.faults ||| (1#16 <<< k.bit.val) } }.bump (countRaise k)) := h.trans {}
  unfold State.raise
  dsimp only
  split
  · exact flagged
  · exact flagged.eventNoticed _ _

theorem clearFault (k : FaultKind) : Keeps s (u.clearFault k) := h.trans {}

theorem changeState (st : StationState) : Keeps s (u.changeState st) := by
  have changed : Keeps s ({ u with mem := { u.mem with state := st } }.bump
      fun c => { c with mem := { c.mem with stateChanges := c.mem.stateChanges + 1 } }) := h.trans {}
  exact changed.eventNoticed _ _

theorem answer (code : Byte) (r : Result) (value : Word) : Keeps s (u.answer code r value) := h.trans {}

theorem collide : Keeps s u.collide := h.trans {}

end Operations

end Keeps

end Sys2Proof.Machine

/-! The invariants through the transmit queue: quotas, one DROP per station, a held claim (R57 to R63). -/

namespace Sys2Proof.Machine

-- One proof at a time: the proofs of many statements at once take more threads than the memory holds.
set_option Elab.async false

/-! ### The lists of the transmit queue after an update (R57, R58) -/

theorem setPending_pendingOf_same (s : State) (k : NoteKind) (l : List Pending) : (s.setPending k l).pendingOf k = l :=
  Vector.getElem_set_self ..

theorem setPending_pendingOf_of_ne (s : State) {j k : NoteKind} (l : List Pending) (h : j ≠ k) :
    (s.setPending k l).pendingOf j = s.pendingOf j := by
  have other : k.code.val ≠ j.code.val := fun e => h (code_injective (Fin.ext e)).symm
  simp only [State.pendingOf, setPending_tx]
  exact Vector.getElem_set_ne _ _ other

/-- A list that stays within its quota, and names no station twice where it is the DROPs', keeps the quotas. -/
theorem quotasKept_setPending {s : State} {k : NoteKind} {l : List Pending} (fits : l.length ≤ k.quota)
    (distinct : k = .drop → (l.map Pending.claim).Nodup) (quotas : s.quotasKept) : (s.setPending k l).quotasKept := by
  obtain ⟨within, drops, held⟩ := quotas
  refine ⟨fun j => ?_, ?_, held⟩
  · by_cases h : j = k
    · rw [h, setPending_pendingOf_same]
      exact fits
    · rw [setPending_pendingOf_of_ne s l h]
      exact within j
  · by_cases h : NoteKind.drop = k
    · subst h
      rw [setPending_pendingOf_same]
      exact distinct rfl
    · rw [setPending_pendingOf_of_ne s l h]
      exact drops

namespace Keeps

section TransmitQueue

variable {s u : State} (h : Keeps s u)
include h

/-- A list whose claims are some of those it held, in their order. -/
theorem setPending {k : NoteKind} {l : List Pending}
    (fewer : (l.map Pending.claim).Sublist ((u.pendingOf k).map Pending.claim)) : Keeps s (u.setPending k l) := by
  refine h.trans { quotas := fun quotas => quotasKept_setPending ?_ ?_ quotas }
  · have := fewer.length_le
    rw [List.length_map, List.length_map] at this
    exact this.trans (quotas.1 k)
  · rintro rfl
    exact quotas.2.1.sublist fewer

theorem joinList {c : Claim} (room : u.quotasKept → (u.pendingOf c.kind).length < c.kind.quota)
    (fresh : c.kind = .drop → ∀ n ∈ u.pendingOf .drop, n.claim ≠ c) : Keeps s (u.joinList c) := by
  refine h.trans { quotas := fun quotas => ?_ }
  refine quotasKept_setPending (s := u) ?_ ?_ quotas
  · rw [List.length_append]
    exact room quotas
  · intro drop
    rw [List.map_append, List.map_singleton, List.nodup_append]
    refine ⟨drop ▸ quotas.2.1, List.nodup_singleton _, ?_⟩
    intro x hx y hy
    obtain ⟨n, hn, rfl⟩ := List.mem_map.mp hx
    rw [List.mem_singleton.mp hy]
    exact fresh drop n (drop ▸ hn)

theorem claimMet : Keeps s u.claimMet := h.trans {}

theorem claimRefused : Keeps s u.claimRefused := h.trans {}

theorem claimFifo {c : Claim} (fresh : c.kind = .drop → ∀ n ∈ u.pendingOf .drop, n.claim ≠ c) :
    Keeps s (u.claimFifo c) := by
  unfold State.claimFifo
  split
  case isTrue room => exact h.joinList (fun _ => (hasRoom_iff u c.kind).mp room) fresh
  case isFalse => exact h.claimRefused

theorem claimDrop (p : Station) : Keeps s (u.claimDrop p) := by
  unfold State.claimDrop
  split
  · exact h.claimMet
  case isFalse named =>
    refine h.claimFifo fun _ n hn same => named ?_
    exact List.any_eq_true.mpr ⟨n, hn, beq_iff_eq.mpr same⟩

theorem claimRoll : Keeps s u.claimRoll := by
  unfold State.claimRoll
  split
  case isTrue empty =>
    refine h.joinList (fun _ => ?_) (by intro drop; cases drop)
    show (u.pendingOf .roll).length < 1
    rw [List.isEmpty_iff.mp empty]
    exact Nat.one_pos
  case isFalse => exact h.claimMet

theorem lostGrantBy (c : Claim) : Keeps s (u.lostGrantBy c) := by
  cases c <;> exact h.trans {}

theorem withdrawn (n : Pending) (byReset : Bool) : Keeps s (u.withdrawn n byReset) := by
  unfold State.withdrawn
  dsimp only
  split
  · exact h.bump _
  · exact (h.bump _).lostGrantBy _

/-- A claim that stands alone in the list it joins. -/
theorem joinEmptied {c : Claim} (alone : c.kind ≠ .drop) : Keeps s ((u.setPending c.kind []).joinList c) := by
  refine (h.setPending (l := []) (by simp)).joinList (fun _ => ?_) (fun drop => absurd drop alone)
  rw [setPending_pendingOf_same]
  cases c <;> exact Nat.succ_pos _

theorem claimOpening (k : Nat) : Keeps s (u.claimOpening k) := by
  unfold State.claimOpening
  split
  case h_1 empty =>
    refine h.joinList (fun _ => ?_) (by intro drop; cases drop)
    show (u.pendingOf .opening).length < 1
    rw [empty]
    exact Nat.one_pos
  case h_2 n rest _ =>
    split
    · split
      · exact h.claimMet
      · split
        · exact h.claimRefused
        · exact (h.withdrawn n false).joinEmptied (c := .opening k) (by simp [Claim.kind])
    all_goals exact h.claimRefused

/-- A ROSTER claim that waits for the note on the wire (R61). -/
theorem hold {c : Claim} (roster : c.kind = .roster) : Keeps s { u with tx := { u.tx with held := some c } } :=
  h.trans { quotas := fun ⟨within, drops, _⟩ => ⟨within, drops, fun d hd => by cases hd; exact roster⟩ }

theorem claimRoster {c : Claim} (roster : c.kind = .roster) : Keeps s (u.claimRoster c) := by
  unfold State.claimRoster
  split
  case h_1 empty =>
    refine h.joinList (fun _ => ?_) (by rw [roster]; intro drop; cases drop)
    rw [roster, empty]
    exact Nat.one_pos
  case h_2 n rest _ =>
    split
    · exact h.claimMet
    · split
      · exact h.hold roster
      · have joined := (h.withdrawn n false).joinEmptied (c := c) (by rw [roster]; intro drop; cases drop)
        rw [roster] at joined
        exact joined

theorem withdrawFrom (k : NoteKind) (doom : Doom) (hit : Pending → Bool) : Keeps s (u.withdrawFrom k doom hit) := by
  unfold State.withdrawFrom
  dsimp only
  split
  case h_1 n rest waiting _ =>
    refine foldl (fun v n => (refl v).withdrawn n _) _ (h.setPending ?_)
    rw [waiting, List.map_cons, List.map_cons]
    have head : Pending.claim (if hit n = true then { n with doom := if n.doom = .reset then .reset else doom } else n)
        = n.claim := by split <;> rfl
    rw [head]
    exact (List.filter_sublist.map _).cons_cons _
  case h_2 =>
    exact foldl (fun v n => (refl v).withdrawn n _) _ (h.setPending (List.filter_sublist.map _))

theorem dropHeld : Keeps s { u with tx := { u.tx with held := none } } :=
  h.trans { quotas := fun ⟨within, drops, _⟩ => ⟨within, drops, fun d hd => by cases hd⟩ }

theorem withdrawAll (doom : Doom) (keepDone : Bool) : Keeps s (u.withdrawAll doom keepDone) := by
  have emptied : Keeps s ((NoteKind.all.filter fun k => !(keepDone && k == .done)).foldl
      (fun s k => s.withdrawFrom k doom fun _ => true) u) := foldl (fun v k => (refl v).withdrawFrom k _ _) _ h
  unfold State.withdrawAll
  dsimp only
  split
  · exact emptied
  · exact emptied.dropHeld

theorem keepLeaveClaimed : Keeps s u.keepLeaveClaimed := by
  unfold State.keepLeaveClaimed
  split
  · exact h.claimRoster rfl
  · exact h

end TransmitQueue

end Keeps

end Sys2Proof.Machine

/-! The invariants through the tables: taps and the line pool (R18, R31), the frame table and its own parts (R96), legs,
records and DONE (R144 to R156). -/

namespace Sys2Proof.Machine

-- One proof at a time: the proofs of many statements at once take more threads than the memory holds.
set_option Elab.async false

/-- A place of a vector after another place was set. -/
theorem getElem_set_of_ne {α : Type} {n : Nat} (v : Vector α n) {i j : Fin n} (x : α) (h : j ≠ i) :
    (v.set i x)[j] = v[j] :=
  Vector.getElem_set_ne i.isLt j.isLt fun same => h (Fin.ext same).symm

theorem setTap_taps_same (s : State) (t : Tap) (x : TapState) : (s.setTap t x).taps[t] = x := Vector.getElem_set_self ..

theorem setTap_taps_of_ne (s : State) {r t : Tap} (x : TapState) (h : r ≠ t) : (s.setTap t x).taps[r] = s.taps[r] :=
  getElem_set_of_ne s.taps x h

theorem setTap_slotsOfTap_same (s : State) (t : Tap) (x : TapState) :
    (s.setTap t x).slotsOfTap t = x.slots ++ turnSlotsOf t s.delivery.turn := by
  unfold State.slotsOfTap
  rw [setTap_taps_same]
  rfl

theorem setTap_slotsOfTap_of_ne (s : State) {r t : Tap} (x : TapState) (h : r ≠ t) :
    (s.setTap t x).slotsOfTap r = s.slotsOfTap r := by
  unfold State.slotsOfTap
  rw [setTap_taps_of_ne s x h]
  rfl

theorem triggersBounded_setTap {s : State} {t : Tap} {x : TapState} (fit : x.triggers.length ≤ 4)
    (bounded : s.triggersBounded) : (s.setTap t x).triggersBounded := by
  intro r
  by_cases h : r = t
  · rw [h, setTap_taps_same]
    exact fit
  · rw [setTap_taps_of_ne s x h]
    exact bounded r

/-! ### The slots of the frame table after an update (R96) -/

theorem setSlot_slots_same (s : State) (i : Fin 8) (x : Slot) : (s.setSlot i x).frames.slots[i] = x :=
  Vector.getElem_set_self ..

theorem setSlot_slots_of_ne (s : State) {i n : Fin 8} (x : Slot) (h : n ≠ i) :
    (s.setSlot i x).frames.slots[n] = s.frames.slots[n] :=
  getElem_set_of_ne s.frames.slots x h

theorem legAt_of_slots {s u : State} {i : Fin 8} (h : u.frames.slots[i] = s.frames.slots[i]) (j : Fin 2) :
    u.legAt i j = s.legAt i j := by
  unfold State.legAt
  rw [h]

theorem legAt_of_known {s : State} {i : Fin 8} {e : Entry} (known : s.frames.slots[i] = .known e) (j : Fin 2) :
    s.legAt i j = some e.legs[j] := by
  unfold State.legAt
  rw [known]
  rfl

theorem setSlot_legAt_same (s : State) (i : Fin 8) (x : Slot) (j : Fin 2) :
    (s.setSlot i x).legAt i j = x.entry.map fun e => e.legs[j] := by
  unfold State.legAt
  rw [setSlot_slots_same]

theorem setSlot_legAt_of_ne (s : State) {i n : Fin 8} (x : Slot) (h : n ≠ i) (j : Fin 2) :
    (s.setSlot i x).legAt n j = s.legAt n j := legAt_of_slots (setSlot_slots_of_ne s x h) j

theorem setLeg_legs_same (e : Entry) (j : Fin 2) (l : Leg) : (e.setLeg j l).legs[j] = l := Vector.getElem_set_self ..

theorem setLeg_legs_of_ne (e : Entry) {j n : Fin 2} (l : Leg) (h : n ≠ j) : (e.setLeg j l).legs[n] = e.legs[n] :=
  getElem_set_of_ne e.legs l h

/-- A known entry for a frame stands in the frame's slot (R96). -/
theorem entryFor_eq_some {s : State} {k : Nat} {e : Entry} (found : s.entryFor k = some e) :
    s.frames.slots[slotOf k] = .known e ∧ e.frame = k := by
  obtain ⟨entry, frame⟩ := Option.filter_eq_some_iff.mp found
  refine ⟨?_, beq_iff_eq.mp frame⟩
  cases slot : s.frames.slots[slotOf k] with
  | free => rw [slot] at entry; cases entry
  | foreign n => rw [slot] at entry; cases entry
  | known e' => rw [slot] at entry; cases entry; rfl

/-! ### The sets of a leg (R145) -/

/-- The station in a set and the sets' disjointness, bit by bit. -/
theorem setsSound_iff (l : Leg) : l.setsSound ↔ ∀ p < 8,
    (l.delivered.getLsbD p && l.void.getLsbD p) = false ∧ (l.delivered.getLsbD p && l.removed.getLsbD p) = false
      ∧ (l.void.getLsbD p && l.removed.getLsbD p) = false
      ∧ ((l.delivered.getLsbD p || l.void.getLsbD p || l.removed.getLsbD p) && !l.mask.getLsbD p) = false := by
  have zero_iff (x : BitVec 8) : x = 0 ↔ ∀ p < 8, x.getLsbD p = false := by
    constructor
    · rintro rfl p _
      exact BitVec.getLsbD_zero
    · intro h
      refine BitVec.eq_of_getLsbD_eq fun p hp => ?_
      rw [h p hp]
      exact BitVec.getLsbD_zero.symm
  simp only [Leg.setsSound, zero_iff, BitVec.getLsbD_and, BitVec.getLsbD_or, BitVec.getLsbD_not]
  constructor
  · rintro ⟨h1, h2, h3, h4⟩ p hp
    refine ⟨h1 p hp, h2 p hp, h3 p hp, ?_⟩
    simpa [hp] using h4 p hp
  · intro h
    refine ⟨fun p hp => (h p hp).1, fun p hp => (h p hp).2.1, fun p hp => (h p hp).2.2.1, fun p hp => ?_⟩
    simpa [hp] using (h p hp).2.2.2

theorem getLsbD_addStation (m : StationSet) (p : Station) (n : Nat) :
    (addStation m p).getLsbD n = (m.getLsbD n || decide (n = p.val)) := by
  have bit : (1#8 <<< p.val).getLsbD n = decide (n = p.val) := by
    rw [BitVec.getLsbD_shiftLeft, BitVec.getLsbD_one]
    have := p.isLt
    by_cases h : n = p.val
    · simp [h]
    · simp only [h, decide_false, Bool.and_eq_false_iff]
      simp
      omega
  rw [addStation, BitVec.getLsbD_or, bit]

theorem setsSound_of_empty {l : Leg} (delivered : l.delivered = 0) (void : l.void = 0) (removed : l.removed = 0) :
    l.setsSound := by
  rw [Leg.setsSound, delivered, void, removed]
  exact ⟨rfl, rfl, rfl, BitVec.zero_and⟩

/-- A station of the mask that stands in none of the sets may join any one of them. -/
theorem setsSound_of_added {l l' : Leg} {p : Station} (expected : hasStation l.mask p = true)
    (unfinished : hasStation (l.delivered ||| l.void ||| l.removed) p = false) (mask : l'.mask = l.mask)
    (joined : (l'.delivered = addStation l.delivered p ∧ l'.void = l.void ∧ l'.removed = l.removed)
      ∨ (l'.delivered = l.delivered ∧ l'.void = addStation l.void p ∧ l'.removed = l.removed)
      ∨ (l'.delivered = l.delivered ∧ l'.void = l.void ∧ l'.removed = addStation l.removed p))
    (sound : l.setsSound) : l'.setsSound := by
  rw [setsSound_iff] at sound ⊢
  intro n hn
  have old := sound n hn
  by_cases h : n = p.val
  · subst h
    simp only [hasStation, BitVec.getLsbD_or, Bool.or_eq_false_iff] at expected unfinished
    obtain ⟨⟨hd, hv⟩, hr⟩ := unfinished
    obtain ⟨d, v, r⟩ | ⟨d, v, r⟩ | ⟨d, v, r⟩ := joined <;>
      simp only [mask, d, v, r, getLsbD_addStation, hd, hv, hr, expected, decide_true, Bool.or_true, Bool.or_false,
        Bool.and_false, Bool.and_true, Bool.not_true, and_self]
  · obtain ⟨d, v, r⟩ | ⟨d, v, r⟩ | ⟨d, v, r⟩ := joined <;>
      simpa [mask, d, v, r, getLsbD_addStation, h] using old

namespace Keeps

section Tables

variable {s u : State} (h : Keeps s u)
include h

/-! ### Taps -/

/-- A tap takes a state whose slots are some of those it held. -/
theorem setTap {t : Tap} {x : TapState} (triggers : u.triggersBounded → x.triggers.length ≤ 4)
    (slots : x.slots.Subperm u.taps[t].slots) : Keeps s (u.setTap t x) := by
  refine h.trans { triggers := fun bounded => triggersBounded_setTap (triggers bounded) bounded, pool := ?_ }
  refine poolAccounted_of_subperm fun r => ?_
  by_cases same : r = t
  · rw [same, setTap_slotsOfTap_same]
    exact slots.append (.refl _)
  · rw [setTap_slotsOfTap_of_ne u x same]

theorem setLines {t : Tap} {lines : List Line} (fewer : lines.Sublist u.taps[t].lines) :
    Keeps s (u.setLines t lines) :=
  h.setTap (fun bounded => bounded t) ((fewer.map Line.slot).append_left _).subperm

theorem setPortIdle (t : Tap) : Keeps s (u.setPort t .idle) :=
  h.setTap (fun bounded => bounded t) (List.sublist_append_right _ _).subperm

/-! ### The frame table -/

theorem setSlot {i : Fin 8} {x : Slot} (placed : u.slotsPlaced → ∀ k, x.frame = some k → k % 8 = i.val)
    (sound : u.legsSound → ∀ e, x = .known e → ∀ j : Fin 2, e.legs[j].setsSound) : Keeps s (u.setSlot i x) := by
  refine h.trans { placed := fun all n k named => ?_, sound := fun all n j l leg => ?_ }
  · by_cases same : n = i
    · subst same
      rw [setSlot_slots_same] at named
      exact placed all k named
    · rw [setSlot_slots_of_ne u x same] at named
      exact all n k named
  · by_cases same : n = i
    · subst same
      rw [setSlot_legAt_same] at leg
      cases x with
      | free => cases leg
      | foreign k => cases leg
      | known e =>
        cases leg
        exact sound all e rfl j
    · rw [setSlot_legAt_of_ne u x same] at leg
      exact all n j l leg

theorem setFree (i : Fin 8) : Keeps s (u.setSlot i .free) :=
  h.setSlot (fun _ k named => by cases named) (fun _ e known => by cases known)

/-- A leg of a known entry takes a value whose sets are sound while the table's are. -/
theorem setKnownLeg {i : Fin 8} {e : Entry} (known : u.frames.slots[i] = .known e) (j : Fin 2) {l : Leg}
    (sound : e.legs[j].setsSound → l.setsSound) : Keeps s (u.setSlot i (.known (e.setLeg j l))) := by
  refine h.setSlot (fun all k named => all i k (by rw [known]; exact named)) ?_
  rintro all _ ⟨⟩ n
  have legs (m : Fin 2) : e.legs[m].setsSound := all i m _ (legAt_of_known known m)
  by_cases same : n = j
  · rw [same, setLeg_legs_same]
    exact sound (legs j)
  · rw [setLeg_legs_of_ne e l same]
    exact legs n

theorem modifyLeg {i : Fin 8} {j : Fin 2} {f : Leg → Leg}
    (sound : ∀ l, u.legAt i j = some l → l.setsSound → (f l).setsSound) : Keeps s (u.modifyLeg i j f) := by
  unfold State.modifyLeg
  split
  case h_1 e known => exact h.setKnownLeg known j (sound _ (legAt_of_known known j))
  all_goals exact h

theorem modifyPart (i : Fin 8) (j : Fin 2) (f : OwnPart → OwnPart) : Keeps s (u.modifyPart i j f) :=
  h.modifyLeg fun _ _ sound => sound

/-! ### Own parts -/

/-- Requests leave the port. -/
theorem filterPort (kept : PortRequest → Bool) :
    Keeps s { u with delivery := { u.delivery with port := u.delivery.port.filter kept } } :=
  h.trans { events := fun ⟨few, waiting⟩ => ⟨few, List.filter_sublist.countP_le.trans waiting⟩ }

theorem dropFlush (i : Fin 8) (j : Fin 2) : Keeps s (u.dropFlush i j) := h.filterPort _

theorem claimDone (i : Fin 8) (j : Fin 2) (delivered : Bool) : Keeps s (u.claimDone i j delivered) := by
  unfold State.claimDone
  split
  · exact h.claimFifo (by intro drop; cases drop)
  · exact h

theorem markVoid (i : Fin 8) (j : Fin 2) : Keeps s (u.markVoid i j) := (h.modifyPart i j _).dropFlush i j

theorem voidPart (i : Fin 8) (j : Fin 2) : Keeps s (u.voidPart i j) := ((h.markVoid i j).claimDone i j false).bump _

theorem reportPart (i : Fin 8) (j : Fin 2) : Keeps s (u.reportPart i j) :=
  ((h.modifyPart i j _).claimDone i j true).bump _

theorem startLegTimers : Keeps s u.startLegTimers := by
  unfold State.startLegTimers
  split
  · exact h
  · refine foldl (fun v a => ?_) _ h
    dsimp only
    split
    · exact (refl v).modifyPart _ _ _
    · exact refl v

theorem dropTurn : Keeps s u.dropTurn := by
  unfold State.dropTurn
  split
  · exact h
  · refine h.trans { pool := poolAccounted_of_subperm fun t => ?_ }
    exact (List.Sublist.refl _).append (List.nil_sublist _) |>.subperm

/-! ### Legs and records -/

theorem beginRecord : Keeps s u.beginRecord := by
  unfold State.beginRecord
  split
  · exact h.trans {}
  · have begun : Keeps s { u with records := { u.records with step := .write } } := h.trans {}
    exact begun.present rfl

theorem offerRecord (r : FrameRecord) : Keeps s (u.offerRecord r) := by
  unfold State.offerRecord
  split
  · exact h.bump _
  · split
    case isTrue room =>
      have queued : Keeps s ({ u with records := { u.records with queue := u.records.queue ++ [r] } }.bump
          (countRecords fun c => { c with recordsQueued := c.recordsQueued + 1 })) :=
        h.trans { records := fun _ => (List.length_append (as := u.records.queue)).trans_le room }
      dsimp only
      split
      · exact queued.beginRecord
      · exact queued
    case isFalse => exact h.bump _

theorem retireLeg (i : Fin 8) (j : Fin 2) : Keeps s (u.retireLeg i j) := by
  unfold State.retireLeg
  split
  case h_1 e known =>
    have counted := (h.dropFlush i j).bump (countRecords fun c => { c with legsRetired := c.legsRetired + 1 })
    dsimp only
    split
    · exact (counted.setFree i).bump _
    · refine counted.setKnownLeg known j fun _ => ?_
      exact setsSound_of_empty rfl rfl rfl
  all_goals exact h

theorem postLeg (i : Fin 8) (j : Fin 2) (poster : Option Station) : Keeps s (u.postLeg i j poster) := by
  unfold State.postLeg
  split
  · exact h.bump _
  · split
    · split
      · exact (h.bump _).offerRecord _
      all_goals exact h
    · exact h

theorem testLeg (i : Fin 8) (j : Fin 2) (poster : Option Station) (byRemoval : Bool) :
    Keeps s (u.testLeg i j poster byRemoval) := by
  unfold State.testLeg
  split
  · split
    · exact ((h.bump _).postLeg i j poster).retireLeg i j
    · exact h
  · exact h

theorem removeFromLegs (p : Station) (poster : Option Station) : Keeps s (u.removeFromLegs p poster) := by
  refine foldl (fun v a => ?_) _ h
  dsimp only
  split
  case h_1 l leg =>
    split
    case isTrue awaits =>
      obtain ⟨_, expected, unfinished⟩ := awaits
      refine (((refl v).modifyLeg fun m same => ?_).bump _).testLeg _ _ _ _
      cases leg.symm.trans same
      exact setsSound_of_added expected (Bool.eq_false_iff.mpr unfinished) rfl (.inr (.inr ⟨rfl, rfl, rfl⟩))
    case isFalse => exact refl v
  case h_2 => exact refl v

theorem dropHeadRecord : Keeps s u.dropHeadRecord := by
  have dropped : Keeps s { u with records := { u.records with queue := u.records.queue.drop 1 } } :=
    h.trans { records := fun few => (List.drop_sublist 1 _).length_le.trans few }
  exact dropped.beginRecord

theorem emptyRecords : Keeps s u.emptyRecords := by
  have emptied : Keeps s { u with records := { queue := [], step := .idle } } := h.trans { records := fun _ => Nat.zero_le _ }
  exact emptied.filterPort _

theorem applyDone (sender : Station) (frame : BitVec 16) (stream : Fin 2) (delivered : Bool) (gapRows : BitVec 17) :
    Keeps s (u.applyDone sender frame stream delivered gapRows) := by
  unfold State.applyDone
  dsimp only
  split
  · exact h.bump _
  case h_2 e found =>
    split
    case isTrue awaits =>
      obtain ⟨_, expected, unfinished, _⟩ := awaits
      refine ((h.modifyLeg fun l leg => ?_).bump _).testLeg _ _ _ _
      have same : l = e.legs[stream] := by
        obtain ⟨entry, _⟩ := Option.filter_eq_some_iff.mp found
        have known := legAt_of_known (entryFor_eq_some entry).1 stream
        exact Option.some_inj.mp (leg.symm.trans known)
      subst same
      refine setsSound_of_added expected (Bool.eq_false_iff.mpr unfinished) rfl ?_
      cases delivered
      · exact .inr (.inl ⟨rfl, rfl, rfl⟩)
      · exact .inl ⟨rfl, rfl, rfl⟩
    case isFalse => exact h.bump _

end Tables

end Keeps

end Sys2Proof.Machine

/-! The invariants through line delivery: heads, turns, bursts, fills, the host write port (R122 to R142). -/

namespace Sys2Proof.Machine

-- One proof at a time: the proofs of many statements at once take more threads than the memory holds.
set_option Elab.async false

/-! ### The host write port's recursion (R125) -/

/-- A relation between states that is reflexive and transitive and holds over every piece of work of the port, holds over
the port's whole run: a request issued, a burst of the current turn, a turn started. -/
theorem portIssue_related {R : State → State → Prop} (refl : ∀ s, R s s)
    (trans : ∀ {s u v}, R s u → R u v → R s v)
    (request : ∀ s r rest, s.delivery.port = r :: rest →
      R s (({ s with delivery := { s.delivery with port := rest } }).issueRecordClass r))
    (burst : ∀ s tu, s.delivery.turn = some tu → R s (s.turnBurst tu).1)
    (start : ∀ s t, s.delivery.turn = none → s.nextTap = some t → R s (s.startTurn t)) (fuel : Nat) (s : State) :
    R s (State.portIssue fuel s) := by
  induction fuel generalizing s with
  | zero => exact refl s
  | succ fuel ih =>
    unfold State.portIssue
    split
    case h_1 r rest port => exact request s r rest port
    case h_2 empty =>
      split
      case h_1 tu turn =>
        have burst_tu := burst s tu turn
        split
        case h_1 s1 issued =>
          rw [issued] at burst_tu
          exact burst_tu
        case h_2 s1 issued =>
          rw [issued] at burst_tu
          exact trans burst_tu (ih s1)
      case h_2 no_turn =>
        split
        · exact refl s
        · split
          case h_1 t next => exact trans (start s t no_turn next) (ih _)
          case h_2 => exact refl s

theorem turnSlotsOf_of_line_subset {tu tu' : Turn} (tap : tu'.tap = tu.tap) (line : tu'.line = tu.line ∨ tu'.line = none)
    (t : Tap) : (turnSlotsOf t (some tu')).Sublist (turnSlotsOf t (some tu)) := by
  unfold turnSlotsOf
  dsimp only
  rw [tap]
  split
  · obtain ⟨_, _, _, line, _⟩ := tu
    obtain ⟨_, _, _, line', _⟩ := tu'
    obtain same | gone := line
    · cases same
      cases line <;> exact .refl _
    · cases gone
      exact List.nil_sublist _
  · exact .refl _

/-- What a cut of the current turn can do (R138): nothing; or, after a line that leaves it has been counted, the turn ends
or goes on, with its line or without one. -/
theorem cutTurn_cases (s : State) (i : Fin 8) (j : Fin 2) :
    s.cutTurn i j = s ∨ ∃ (tu tu' : Turn) (dropped : DeliveryCounters → DeliveryCounters),
      s.delivery.turn = some tu ∧ tu'.tap = tu.tap ∧ (tu'.line = tu.line ∨ tu'.line = none)
        ∧ (s.cutTurn i j = { s.bump (countDelivery dropped) with
              delivery := { s.delivery with turn := none, lastTap := tu.tap } }
            ∨ s.cutTurn i j = (s.bump (countDelivery dropped)).setTurn (some tu'))
        ∧ (dropped = id ∨ dropped = fun c => { c with linesDropped := c.linesDropped + 1 }) := by
  unfold State.cutTurn
  split
  case h_1 => exact .inl rfl
  case h_2 tu turn =>
    refine .inr ?_
    by_cases cut : (tu.line.any fun l => s.rowOf i j l.index) = true
    · simp only [cut, if_true]
      refine ⟨tu, _, fun c => { c with linesDropped := c.linesDropped + 1 }, turn, ?_, ?_, ite_eq_or_eq _ _ _, .inr rfl⟩
      exacts [rfl, .inr rfl]
    · simp only [cut]
      refine ⟨tu, _, id, turn, ?_, ?_, ite_eq_or_eq _ _ _, .inl rfl⟩
      exacts [rfl, .inl rfl]

namespace Keeps

section Delivery

variable {s u : State} (h : Keeps s u)
include h

/-! ### Head decisions and ends of parts -/

theorem setWaiting (t : Tap) (b : Bool) : Keeps s (u.setWaiting t b) := h.trans {}

theorem discardHeads {t : Tap} {lines : List Line} (heads : u.taps[t].lines = lines) :
    Keeps s (State.discardHeads t lines u) := by
  induction lines generalizing u with
  | nil => exact h
  | cons l rest ih =>
    unfold State.discardHeads
    split
    · refine ih ?_ ?_
      · exact ((h.setLines (heads ▸ List.sublist_cons_self l rest)).setWaiting t false).bump _
      · show (u.setLines t rest).taps[t].lines = rest
        rw [State.setLines, setTap_taps_same]
    all_goals exact h

theorem judgeWait (t : Tap) : Keeps s (u.judgeWait t) := by
  unfold State.judgeWait
  split
  · exact h.setWaiting t false
  · split
    · split
      · exact h
      · exact (h.setWaiting t true).bump _
    · exact h.setWaiting t false

theorem tapDone (t : Tap) (k : Nat) : Keeps s (u.tapDone t k) := by
  refine foldl (fun v a => ?_) _ h
  dsimp only
  split
  · exact (refl v).modifyPart _ _ _
  · exact refl v

theorem finishMarked (t : Tap) : Keeps s (u.finishMarked t) := by
  refine foldl (fun v k => ?_) _ h
  split
  · exact (refl v).tapDone t k
  · exact refl v

theorem startFlushes : Keeps s u.startFlushes := by
  refine foldl (fun v a => ?_) _ h
  dsimp only
  split
  · split
    · exact ((refl v).modifyPart _ _ _).present rfl
    · exact refl v
  · exact refl v

theorem endCheck (t : Tap) : Keeps s (u.endCheck t) := by
  unfold State.endCheck
  split
  · exact h
  · exact (h.finishMarked t).startFlushes

theorem endChecks : Keeps s u.endChecks := (h.endCheck 0).endCheck 1

theorem settleTap (t : Tap) : Keeps s (u.settleTap t) := by
  have judged := (h.discardHeads (t := t) rfl).judgeWait t
  unfold State.settleTap
  dsimp only
  split
  · exact judged.endCheck t
  · exact judged

theorem settle : Keeps s u.settle := (h.settleTap 0).settleTap 1

theorem afterTap : Keeps s u.afterTap := h.settle.endChecks

/-! ### Turns -/

/-- The turn changes to one whose line, with the taps' slots as they are in `u`, holds no slot that was not its tap's in
`s`. -/
theorem setTurn {tu : Option Turn}
    (slots : ∀ t, (u.taps[t].slots ++ turnSlotsOf t tu).Subperm (s.slotsOfTap t)) : Keeps s (u.setTurn tu) := by
  have others : Keeps u (u.setTurn none) :=
    { pool := poolAccounted_of_subperm fun t => ((List.Sublist.refl _).append (List.nil_sublist _)).subperm }
  have whole := h.trans others
  exact { whole with pool := poolAccounted_of_subperm slots }

/-- The turn that stands in `s` goes on, with its line or without one. -/
theorem setTurnOn {tu tu' : Turn} (turn : s.delivery.turn = some tu) (taps : u.taps = s.taps) (tap : tu'.tap = tu.tap)
    (line : tu'.line = tu.line ∨ tu'.line = none) : Keeps s (u.setTurn (some tu')) := by
  refine h.setTurn fun t => ?_
  rw [taps, State.slotsOfTap, turn]
  exact ((turnSlotsOf_of_line_subset tap line t).append_left _).subperm

theorem closeTurn (last : Tap) : Keeps s { u with delivery := { u.delivery with turn := none, lastTap := last } } :=
  h.trans { pool := poolAccounted_of_subperm fun _ => ((List.Sublist.refl _).append (List.nil_sublist _)).subperm }

theorem setHandled (t : Tap) (n : Nat) : Keeps s (u.setHandled t n) := h.trans {}

theorem rowFilled (t : Tap) (r : Nat) : Keeps s (u.rowFilled t r) := by
  unfold State.rowFilled
  dsimp only
  split
  · exact ((h.modifyPart _ _ _).setHandled t r).bump _
  · exact (h.setHandled t r).bump _

theorem rowsFilled (t : Tap) (rows : List Nat) : Keeps s (rows.foldl (fun s r => s.rowFilled t r) u) :=
  foldl (fun v r => (refl v).rowFilled t r) rows h

theorem endTurn (tu : Turn) : Keeps s (u.endTurn tu) := by
  unfold State.endTurn
  dsimp only
  split
  · exact (((h.closeTurn tu.tap).setHandled _ _).tapDone _ _).endCheck _
  · exact (h.closeTurn tu.tap).endCheck _

theorem burst (t : Tap) (i : Fin 8) (j : Fin 2) (r sent : Nat) (pixels : List Byte) :
    Keeps s (u.burst t i j r sent pixels).1 := h.trans {}

theorem storeRow (t : Tap) (l : Line) : Keeps s (u.storeRow t l) := by
  unfold State.storeRow
  split
  · exact h.trans {}
  · exact h

theorem lineWritten (t : Tap) (l : Line) (i : Fin 8) (j : Fin 2) : Keeps s (u.lineWritten t l i j) :=
  (((h.storeRow t l).modifyPart i j _).setHandled t l.index).bump _

theorem issueFlush : Keeps s u.issueFlush := h.trans {}

theorem issueMessage (address : Nat) (data : Word) : Keeps s (u.issueMessage address data) := h.trans {}

theorem issueRecordClass (r : PortRequest) : Keeps s (u.issueRecordClass r) := by
  unfold State.issueRecordClass
  cases r with
  | notice address data => exact (h.issueMessage address data).bump _
  | partFlush i j => exact h.issueFlush.modifyPart i j _
  | recordWrite =>
    dsimp only
    split
    · exact h
    case h_2 rec _ _ =>
      have written : Keeps s { u with lastRequest := some (.memoryWrite (recordAddress u.area rec) (recordBytes rec)),
                                      records := { u.records with step := .flushWaiting } } := h.trans {}
      exact written.present rfl
  | recordFlush => exact h.issueFlush.trans {}
  | recordMessage =>
    dsimp only
    split
    · exact h
    · exact ((h.issueMessage _ _).bump _).dropHeadRecord

theorem cutTurn (i : Fin 8) (j : Fin 2) : Keeps s (u.cutTurn i j) := by
  obtain same | ⟨tu, tu', dropped, turn, tap, line, same | same, _⟩ := cutTurn_cases u i j <;> rw [same]
  · exact h
  · exact (h.bump (countDelivery dropped)).closeTurn tu.tap
  · exact h.trans (((refl u).bump _).setTurnOn turn rfl tap line)

theorem voidParts : Keeps s u.voidParts := by
  refine foldl (fun v a => ?_) _ h
  dsimp only
  split
  · split
    · exact (refl v).voidPart _ _
    · exact refl v
  · exact refl v

end Delivery

/-- Only the tap whose turn it is gives up a slot, and that slot is the turn's (R31). -/
theorem turnBurst {s : State} {tu : Turn} (turn : s.delivery.turn = some tu) : Keeps s (s.turnBurst tu).1 := by
  unfold State.turnBurst
  split
  case h_1 _ r rest rows =>
    split
    · exact (refl s).setTurnOn turn rfl rfl (.inl rfl)
    case h_2 i j _ =>
      have issued := (refl s).burst tu.tap i j r tu.sent (s.fillPixels tu.tap r)
      dsimp only
      split
      · split
        · exact (issued.rowFilled tu.tap r).endTurn _
        · exact (issued.rowFilled tu.tap r).setTurnOn turn (by simp [State.burst]) rfl (.inl rfl)
      · exact issued.setTurnOn turn rfl rfl (.inl rfl)
  case h_2 l rows line =>
    split
    · exact (refl s).dropTurn
    case h_2 i j _ =>
      have issued := (refl s).burst tu.tap i j l.index tu.sent l.pixels
      dsimp only
      split
      · exact (issued.lineWritten tu.tap l i j).endTurn tu
      · exact issued.setTurnOn turn rfl rfl (.inl rfl)
  case h_3 => exact (refl s).endTurn tu

theorem rowsFilled_taps (t : Tap) (rows : List Nat) (s : State) :
    (rows.foldl (fun s r => s.rowFilled t r) s).taps = s.taps := foldl_taps (fun s r => rowFilled_taps s t r) rows s

/-- A turn's line leaves the head of its tap's queue (R130, R31). -/
theorem startTurn {s : State} (t : Tap) (no_turn : s.delivery.turn = none) : Keeps s (s.startTurn t) := by
  unfold State.startTurn
  dsimp only
  have held (r : Tap) : s.slotsOfTap r = s.taps[r].slots := by
    rw [State.slotsOfTap, no_turn]
    exact List.append_nil _
  split
  case h_1 k _ =>
    have slots (tu : Turn) (no_line : tu.line = none) (r : Tap) :
        (s.taps[r].slots ++ turnSlotsOf r (some tu)).Subperm (s.slotsOfTap r) := by
      have none_of (r : Tap) : turnSlotsOf r (some tu) = [] := by
        obtain ⟨_, _, _, line, _⟩ := tu
        subst no_line
        simp [turnSlotsOf, turnSlots]
      rw [held, none_of, List.append_nil]
    split
    · refine ((refl s).rowsFilled t _).setTurn ?_
      rw [rowsFilled_taps]
      exact slots _ rfl
    · exact (refl s).setTurn (slots _ rfl)
  case h_2 =>
    split
    case h_1 l ready =>
      obtain ⟨rest, head⟩ : ∃ rest, s.taps[t].lines = l :: rest := by
        unfold State.writeReady at ready
        split at ready
        · cases ready
        case h_2 l' rest head =>
          split at ready
          · cases ready
            exact ⟨rest, head⟩
          · cases ready
      have begun : Keeps s ((s.setLines t (s.taps[t].lines.drop 1)).setWaiting t false) :=
        ((refl s).setLines (List.drop_sublist 1 _)).setWaiting t false
      have taps : ((s.setLines t (s.taps[t].lines.drop 1)).setWaiting t false).taps
          = s.taps.set t { s.taps[t] with lines := rest } := by
        rw [head]
        rfl
      have slots (rows : List Nat) (r : Tap) :
          ((s.taps.set t { s.taps[t] with lines := rest })[r].slots
            ++ turnSlotsOf r (some { tap := t, rows := rows, sent := 0, line := some l, finish := none })).Subperm
            (s.slotsOfTap r) := by
        rw [held]
        by_cases same : r = t
        · subst same
          have set_same : (s.taps.set r { s.taps[r] with lines := rest })[r] = { s.taps[r] with lines := rest } :=
            Vector.getElem_set_self ..
          rw [set_same]
          simp only [turnSlotsOf, if_true, turnSlots, TapState.slots, head, List.map_cons, List.append_assoc]
          exact ((List.perm_append_singleton _ _).append_left _).subperm
        · rw [getElem_set_of_ne s.taps _ same, turnSlotsOf, if_neg (Ne.symm same), List.append_nil]
      split
      · refine (begun.rowsFilled t _).setTurn ?_
        rw [rowsFilled_taps, taps]
        exact slots _
      · refine begun.setTurn ?_
        rw [taps]
        exact slots _
    case h_2 => exact refl s

theorem portIssue (fuel : Nat) {s u : State} (h : Keeps s u) : Keeps s (State.portIssue fuel u) := by
  refine h.trans (portIssue_related refl trans (fun v r rest port => ?_) (fun v tu turn => turnBurst turn)
    (fun v t no_turn _ => startTurn t no_turn) fuel u)
  have taken : Keeps v { v with delivery := { v.delivery with port := rest } } :=
    { events := fun ⟨few, waiting⟩ => ⟨few, by
        refine Nat.le_trans ?_ waiting
        unfold noticesWaiting
        rw [port]
        exact (List.sublist_cons_self r rest).countP_le⟩ }
  exact taken.issueRecordClass r

end Keeps

end Sys2Proof.Machine

/-! The invariants through the changes of the station's state (R4, R15, R36, R55, R77 to R95) and the signal unit's schedules
(R163 to R170). -/

namespace Sys2Proof.Machine

-- One proof at a time: the proofs of many statements at once take more threads than the memory holds.
set_option Elab.async false

/-! ### Lengths of the lists that the signal and the frame unit hold -/

theorem length_insertByStart {α : Type} (e : Nat × α) (l : List (Nat × α)) :
    (insertByStart e l).length = l.length + 1 := by
  induction l with
  | nil => rfl
  | cons q rest ih =>
    unfold insertByStart
    split
    · rfl
    · rw [List.length_cons, ih, List.length_cons]

/-- A merge replaces at least one range (R164). -/
theorem length_merged_le {r : Nat × Nat} {ranges : List (Nat × Nat)} (hit : ranges.any (overlaps r) = true)
    (m : Nat × Nat) : (insertByStart m (ranges.filter fun q => !overlaps r q)).length ≤ ranges.length := by
  obtain ⟨q, hq, hits⟩ := List.any_eq_true.mp hit
  rw [length_insertByStart]
  exact List.length_filter_lt_length_iff_exists.mpr ⟨q, hq, by simp [hits]⟩

theorem length_advance_ranges_le (n : Nat) (o : Output) : (o.advance n).ranges.length ≤ o.ranges.length :=
  (List.dropWhile_sublist _).length_le

theorem length_advance_changes_le (n : Nat) (o : Output) : (o.advance n).changes.length ≤ o.changes.length :=
  (List.dropWhile_sublist _).length_le

theorem length_consume_le (ch : Channel) (q : Byte) : (ch.consume q).queue.length ≤ ch.queue.length := by
  unfold Channel.consume
  split
  · exact (List.drop_sublist 1 _).length_le
  · exact List.filter_sublist.length_le

/-- The room made in an incomplete channel that is within its bound (R108). -/
theorem length_makeRoom_lt (ch : Channel) (seq : Byte) (bounded : ch.queue.length ≤ 16) :
    (ch.makeRoom seq).queue.length < 16 := by
  have kept : (ch.queue.filter fun g => seqBelow g.seq seq).length ≤ ch.queue.length := List.filter_sublist.length_le
  unfold Channel.makeRoom
  dsimp only
  split
  case h_1 g rest filtered =>
    rw [filtered, List.length_cons] at kept
    split
    · show rest.length < 16
      omega
    · rw [← filtered] at *
      show (ch.queue.filter fun g => seqBelow g.seq seq).length < 16
      omega
  case h_2 => exact Nat.succ_pos _

theorem length_takeReport_le (ch : Channel) (e : RollChannel) : (ch.takeReport e).queue.length ≤ ch.queue.length := by
  unfold Channel.takeReport
  split
  · exact Nat.zero_le _
  · exact Nat.le_refl _

/-- The entry into UNCONFIGURED ends a tap's TRIG pulse and nothing else of it (log 36). -/
theorem enterUnconfigured_taps (s : State) (t : Tap) :
    s.enterUnconfigured.taps[t] = { (s.changeState .unconfigured).taps[t] with pulse := none } :=
  Vector.getElem_map ..

namespace Keeps

section Units

variable {s u : State} (h : Keeps s u)
include h

/-! ### Signals -/

theorem setOutputState {j : Fin 4} {o : Output}
    (fits : u.schedulesBounded → o.ranges.length ≤ 8 ∧ o.changes.length ≤ 8) : Keeps s (u.setOutputState j o) := by
  refine h.trans { schedules := fun all n => ?_ }
  by_cases same : n = j
  · subst same
    have set_same : (u.setOutputState n o).signals.outputs[n] = o := Vector.getElem_set_self ..
    rw [set_same]
    exact fits all
  · have set_other : (u.setOutputState j o).signals.outputs[n] = u.signals.outputs[n] :=
      getElem_set_of_ne u.signals.outputs o same
    rw [set_other]
    exact all n

theorem advanceOutputs : Keeps s u.advanceOutputs := by
  refine h.trans { schedules := fun all j => ?_ }
  have advanced : u.advanceOutputs.signals.outputs[j] = u.signals.outputs[j].advance u.pos.lineIndex :=
    Vector.getElem_map ..
  rw [advanced]
  obtain ⟨ranges, changes⟩ := all j
  exact ⟨(length_advance_ranges_le _ _).trans ranges, (length_advance_changes_le _ _).trans changes⟩

theorem takePulse (j : Fin 4) (x : Nat) : Keeps s (u.takePulse j x) := by
  unfold State.takePulse
  dsimp only
  split
  · exact h.bump _
  · split
    · exact h.bump _
    · split
      case isTrue hit =>
        have fits (m : Nat × Nat) (all : u.schedulesBounded) := (length_merged_le hit m).trans (all j).1
        split
        · refine ((h.setOutputState fun all => ?_).bump _).bump _
          exact ⟨fits _ all, (all j).2⟩
        · refine (h.setOutputState fun all => ?_).bump _
          exact ⟨fits _ all, (all j).2⟩
      case isFalse =>
        split
        · exact (h.bump _).raise _
        case isFalse room =>
          have fits (r : Nat × Nat) : (insertByStart r u.signals.outputs[j].ranges).length ≤ 8 := by
            rw [length_insertByStart]
            omega
          split
          · refine ((h.setOutputState fun all => ?_).bump _).bump _
            exact ⟨fits _, (all j).2⟩
          · refine (h.setOutputState fun all => ?_).bump _
            exact ⟨fits _, (all j).2⟩

theorem takeFollow (j : Fin 4) (x : Nat) (v : Bool) : Keeps s (u.takeFollow j x v) := by
  unfold State.takeFollow
  dsimp only
  split
  · exact h.bump _
  · split
    · split
      · exact h.bump _
      · exact (h.setOutputState fun all => by exact all j).bump _
    · split
      · refine (h.setOutputState fun all => ⟨?_, ?_⟩).bump _
        · exact (all j).1
        · rw [List.length_map]
          exact (all j).2
      · split
        · exact (h.bump _).raise _
        case isFalse room =>
          refine (h.setOutputState fun all => ⟨?_, ?_⟩).bump _
          · exact (all j).1
          · rw [length_insertByStart]
            omega

theorem takeSignal (j : Fin 4) (id : BitVec 4) (level : Bool) (x : Nat) : Keeps s (u.takeSignal j id level x) := by
  unfold State.takeSignal
  split
  · split
    · exact h.takePulse j x
    · exact h.takeFollow j x level
    all_goals exact h
  · exact h

theorem setFlag (i x : Nat) : Keeps s (u.setFlag i x) := by
  unfold State.setFlag
  dsimp only
  split
  case h_1 e found =>
    obtain ⟨known, _⟩ := entryFor_eq_some found
    refine (h.setSlot (fun all k named => all _ k (by rw [known]; exact named)) ?_).bump _
    rintro all _ ⟨⟩ j
    have leg : e.legs[j].setsSound := all _ j _ (legAt_of_known known j)
    rw [Fin.getElem_fin, Vector.getElem_map]
    split
    · exact leg
    · exact leg
  case h_2 => exact h.bump _

theorem applySignal (id : BitVec 4) (level : Bool) (line : Word) : Keeps s (u.applySignal id level line) := by
  unfold State.applySignal
  dsimp only
  have taken : Keeps s (if u.closed = true then u
      else (List.finRange 4).foldl (fun s j => s.takeSignal j id level line.toNat) u) := by
    split
    · exact h
    · exact foldl (fun v j => (refl v).takeSignal j id level _) _ h
  split
  · exact (taken.setFlag _ _).bump _
  · exact taken.bump _

theorem claimEdge (i : Fin 4) (level : Bool) : Keeps s (u.claimEdge i level) := by
  unfold State.claimEdge
  dsimp only
  split
  · exact h.claimFifo (by intro drop; cases drop)
  · exact ((h.claimFifo (by intro drop; cases drop)).bump _).raise _

/-! ### Changes of the station state -/

theorem countDropped : Keeps s u.countDropped := (((h.bump _).bump _).bump _).bump _

theorem setMem (m : Membership) : Keeps s { u with mem := m } := h.trans {}

theorem setPos (p : Position) : Keeps s { u with pos := p } := h.trans {}

theorem setCtr (c : Counters) : Keeps s { u with ctr := c } := h.trans {}

theorem setDraws (n : Nat) : Keeps s { u with draws := n } := h.trans {}

theorem detach : Keeps s { u with trunk := u.trunk.detach } := by
  refine h.trans { places := fun _ => ?_ }
  have none_reserved : (u.trunk.detach.wire.any Wire.reserved) = false := by
    unfold Trunk.detach
    dsimp only
    split
    · split <;> rfl
    · rfl
  show u.trunk.detach.queue.length + (if (u.trunk.detach.wire.any Wire.reserved) = true then 1 else 0) ≤ 8
  rw [none_reserved]
  exact Nat.zero_le _

end Units

/-- Every table that the units hold is emptied on an entry into CONFIGURED (R94, R120, R170, R184). -/
theorem emptied {u : State} (p : Position) (low : Nat) (m : Membership) (lost : Option Steer) :
    Keeps u { u with
      pos := p
      taps := u.taps.map TapState.toConfigured
      freeLow := low
      mem := m
      frames := { FrameUnit.reset with lostGrant := lost }
      delivery := u.delivery.toConfigured
      records := Records.reset
      signals := { u.signals with outputs := Vector.replicate 4 Output.reset } } where
  placed := fun _ i k named => by
    rw [Fin.getElem_fin] at named
    simp [FrameUnit.reset, Slot.frame] at named
  sound := fun _ i j l leg => by
    unfold State.legAt at leg
    rw [Fin.getElem_fin] at leg
    simp [FrameUnit.reset, Slot.entry] at leg
  triggers := fun _ t => by
    rw [Fin.getElem_fin, Vector.getElem_map]
    exact Nat.zero_le _
  pool := poolAccounted_of_subperm fun t => by
    unfold State.slotsOfTap
    rw [Fin.getElem_fin, Vector.getElem_map]
    exact List.nil_subperm
  records := fun _ => Nat.zero_le _
  events := fun ⟨few, waiting⟩ => ⟨few, List.filter_sublist.countP_le.trans waiting⟩
  grants := fun _ c => by
    rw [Fin.getElem_fin]
    simp [FrameUnit.reset, Channel.reset]
  schedules := fun _ j => by
    rw [Fin.getElem_fin]
    simp [Output.reset]

section States

variable {s u : State} (h : Keeps s u)
include h

theorem unitsToConfigured (byReset : Bool) : Keeps s (u.unitsToConfigured byReset) := by
  unfold State.unitsToConfigured
  dsimp only
  have counted : Keeps s (if byReset = true then u else u.countDropped) := by
    split
    · exact h
    · exact h.countDropped
  exact (counted.detach.withdrawAll _ _).trans (emptied _ _ _ _)

theorem enterUnconfigured : Keeps s u.enterUnconfigured := by
  refine (h.changeState .unconfigured).trans { triggers := fun all t => ?_, pool := poolAccounted_of_subperm fun t => ?_ }
  · rw [enterUnconfigured_taps]
    exact all t
  · unfold State.slotsOfTap
    rw [enterUnconfigured_taps]
    exact .refl _

theorem enterConfigured (byReset : Bool) : Keeps s (u.enterConfigured byReset) := by
  have units := h.unitsToConfigured byReset
  have entered := ite (p := (u.unitsToConfigured byReset).mem.state = .configured) (fun _ => units)
    fun _ => units.changeState .configured
  exact ite (fun _ => entered.enterUnconfigured) fun _ => entered

theorem enterListening : Keeps s u.enterListening := (h.changeState .listening).trans {}

theorem enterLeaving : Keeps s u.enterLeaving := by
  have left := (h.changeState .leaving).setMem { (u.changeState .leaving).mem.stopTimers with
    peers := (u.changeState .leaving).mem.peers.map (Option.map Peer.forgetSkew), leavingByReset := false }
  have withdrawn := ite (p := u.mem.state = .member)
    (fun _ => (left.setPos { (u.changeState .leaving).pos with mode := .tracking }).withdrawAll .withdrawn true)
    fun _ => left
  exact withdrawn.claimRoster rfl

theorem stopLegTimers : Keeps s u.stopLegTimers := by
  refine foldl (fun v a => ?_) _ h
  exact (refl v).modifyPart _ _ _

theorem lapse : Keeps s u.lapse := by
  have changed := (h.changeState .lapsed).bump (countMembership fun c => { c with lapses := c.lapses + 1 })
  have entered := changed.trans (v := { ((u.changeState .lapsed).bump
    (countMembership fun c => { c with lapses := c.lapses + 1 })) with
      pos := { u.pos with mode := if u.pos.mode = .issuing then .tracking else u.pos.mode }
      trunk := { u.trunk with vetoRun := 0 }
      mem := { ((u.changeState .lapsed).mem).stopTimers with leavingByReset := false, lapsedAt := some u.now } })
    { places := fun all => by
        have trunk : (u.changeState .lapsed).trunk = u.trunk := changeState_trunk u _
        simpa [State.placesBounded, State.placesTaken, trunk] using all }
  have left := (((entered.withdrawAll .withdrawn false).dropTurn.stopLegTimers).claimRoster
    (c := .rosterLeave) rfl).settle
  simpa [State.lapse] using left

theorem lapseFrom (l : List StationState) : Keeps s (u.lapseFrom l) := by
  unfold State.lapseFrom
  split
  · exact h.lapse
  · exact h

theorem leaveLapsed : Keeps s u.leaveLapsed := by
  unfold State.leaveLapsed
  dsimp only
  split
  · exact (h.enterConfigured false).enterListening
  · exact h.enterConfigured false

end States

end Keeps

end Sys2Proof.Machine

/-! The invariants through the frame unit (R96 to R120), the camera taps (R17 to R28) and the position unit (R1 to R15). -/

namespace Sys2Proof.Machine

-- One proof at a time: the proofs of many statements at once take more threads than the memory holds.
set_option Elab.async false

namespace Keeps

section Units

variable {s u : State} (h : Keeps s u)
include h

/-! ### Completeness and removals -/

theorem setChannel {c : Fin 8} {x : Channel} (fits : u.grantsBounded → x.queue.length ≤ 16) :
    Keeps s (u.setChannel c x) := by
  refine h.trans { grants := fun all n => ?_ }
  by_cases same : n = c
  · subst same
    have set_same : (u.setChannel n x).frames.channels[n] = x := Vector.getElem_set_self ..
    rw [set_same]
    exact fits all
  · have set_other : (u.setChannel c x).frames.channels[n] = u.frames.channels[n] :=
      getElem_set_of_ne u.frames.channels x same
    rw [set_other]
    exact all n

theorem orphanRule : Keeps s u.orphanRule := by
  refine foldl (fun v c => ?_) _ h
  dsimp only
  split
  · exact ((refl v).setChannel fun _ => Nat.zero_le _).bump _
  · exact refl v

theorem soleRule : Keeps s u.soleRule := by
  unfold State.soleRule
  split
  · refine foldl (fun v c => ?_) _ h
    dsimp only
    split
    · exact refl v
    · exact (refl v).setChannel fun all => by exact all c
  · exact h

theorem memberChecks : Keeps s u.memberChecks := by
  unfold State.memberChecks
  dsimp only
  split
  · split
    · exact (h.setDraws _).orphanRule.soleRule
    · exact (h.setDraws _).soleRule.orphanRule
  · exact h

theorem dropFromRoster (p : Station) : Keeps s (u.dropFromRoster p) := h.trans {}

theorem removeStation (p : Station) (dropSender : Option Station) : Keeps s (u.removeStation p dropSender) := by
  have counted := ite (p := u.mem.state = .member ∨ u.mem.state = .leaving)
    (fun _ => (h.dropFromRoster p).bump (countMembership fun c => { c with removals := c.removals + 1 }))
    fun _ => h.dropFromRoster p
  exact (ite (p := p = u.self) (fun _ => counted) fun _ => counted.removeFromLegs p _).memberChecks

/-! ### Frames -/

theorem pruneFlushes : Keeps s u.pruneFlushes := h.filterPort _

theorem found : Keeps s u.found := by
  have founded : Keeps s { u with frames := { FrameUnit.reset with
      channels := Vector.ofFn fun c : Fin 8 => if c.val < cfgChannels u.area then Channel.founded else Channel.reset
      founded := true
      lostGrant := u.frames.lostGrant } } := by
    refine h.trans { placed := fun _ i k named => ?_, sound := fun _ i j l leg => ?_, grants := fun _ c => ?_ }
    · rw [Fin.getElem_fin] at named
      simp [FrameUnit.reset, Slot.frame] at named
    · unfold State.legAt at leg
      rw [Fin.getElem_fin] at leg
      simp [FrameUnit.reset, Slot.entry] at leg
    · rw [Fin.getElem_fin, Vector.getElem_ofFn]
      split <;> exact Nat.zero_le _
  exact founded.pruneFlushes

theorem consumeSteer (j : Fin 2) (e : Steer) : Keeps s (u.consumeSteer j e) := by
  have consumed := ite (p := e.channel.val < cfgChannels u.area)
    (fun _ => (h.setChannel (c := e.channel) (x := u.frames.channels[e.channel].consume e.seq)
      fun all => (length_consume_le _ _).trans (all _)).bump (countGrants
        (if u.frames.channels[e.channel].queue.any (fun g => g.seq == e.seq) then 1 else 0)
        (u.frames.channels[e.channel].queue.length - (u.frames.channels[e.channel].consume e.seq).queue.length
          - if u.frames.channels[e.channel].queue.any (fun g => g.seq == e.seq) then 1 else 0)))
    fun _ => h
  exact consumed.trans {}

theorem desync : Keeps s u.desync := ((h.raise _).bump _).lapseFrom _

theorem applyGrant (c : Fin 8) (seq : Byte) (base : Page) : Keeps s (u.applyGrant c seq base) := by
  unfold State.applyGrant
  dsimp only
  refine ite (fun _ => h.bump _) fun _ => ite (fun _ => ite (fun room => ?_) fun _ => h.desync) fun _ => ?_
  · rw [Channel.canAppend, Bool.and_eq_true, decide_eq_true_iff] at room
    refine h.setChannel fun _ => ?_
    simp only [Channel.append, List.length_append]
    exact room.1
  · refine (h.setChannel fun all => ?_).bump _
    simp only [Channel.append, List.length_append]
    exact length_makeRoom_lt _ _ (all c)

theorem bornVoid (i : Fin 8) (j : Fin 2) : Keeps s (u.bornVoid i j) :=
  ite (fun _ => ite (fun _ => h.markVoid i j) fun _ => ite (fun _ => h) fun _ => h.voidPart i j) fun _ => h

theorem enterFrame (k : Nat) (mask : StationSet) (entries : StreamEntries) : Keeps s (u.enterFrame k mask entries) := by
  unfold State.enterFrame
  dsimp only
  have entered : Keeps s (u.setSlot (slotOf k) (.known
      { frame := k, resumed := u.frames.resume == some k
        legs := #v[newLeg u.self mask (entries.entry 0), newLeg u.self mask (entries.entry 1)] })) := by
    refine h.setSlot (fun _ n named => ?_) ?_
    · cases named
      rfl
    · rintro _ _ ⟨⟩ j
      obtain rfl | rfl := tap_cases j <;> exact setsSound_of_empty rfl rfl rfl
  exact (((entered.bump _).bornVoid _ 0).bornVoid _ 1).startLegTimers.endChecks

theorem raiseH (k : Nat) : Keeps s (u.raiseH k) := h.trans {}

theorem clearForeign (i : Fin 8) : Keeps s (u.clearForeign i) := ite (fun _ => h.setFree i) fun _ => h

theorem applyOpening (frame : BitVec 16) (mask : StationSet) (entries : StreamEntries) :
    Keeps s (u.applyOpening frame mask entries) := by
  unfold State.applyOpening
  dsimp only
  refine ite (fun _ => h.bump _) fun _ => ite (fun _ => (h.raiseH _).bump _) fun _ =>
    ite (fun _ => ((h.raiseH _).bump _).desync) fun _ => ite (fun _ => ?_) fun _ => ?_
  · have consumed := foldl (f := fun s (e : Fin 2 × Steer) => s.consumeSteer e.1 e.2)
      (fun v e => (refl v).consumeSteer e.1 e.2) entries.steered ((h.raiseH (extendFrame u.area u.currentFrame frame)).clearForeign
        (slotOf (extendFrame u.area u.currentFrame frame)))
    exact consumed.enterFrame _ _ _
  · exact (((h.raiseH _).clearForeign _).bump _).desync

theorem applyGate (isOpen : Bool) (frame : BitVec 16) : Keeps s (u.applyGate isOpen frame) := by
  unfold State.applyGate
  split
  case h_1 f after =>
    have tables : f.slots = u.frames.slots ∧ f.channels = u.frames.channels := by
      unfold FrameUnit.gateAfter at after
      split at after
      · split at after <;> cases after
        exact ⟨rfl, rfl⟩
      · cases after
        exact ⟨rfl, rfl⟩
      · cases after
        exact ⟨rfl, rfl⟩
      · split at after <;> cases after
        exact ⟨rfl, rfl⟩
    obtain ⟨slots, channels⟩ := tables
    exact h.trans {
      placed := fun all i => by
        show ∀ k, f.slots[i].frame = some k → k % 8 = i.val
        rw [slots]
        exact all i
      sound := fun all i j => by
        show ∀ l, (f.slots[i].entry.map fun e => e.legs[j]) = some l → l.setsSound
        rw [slots]
        exact all i j
      grants := fun all c => by
        show f.channels[c].queue.length ≤ 16
        rw [channels]
        exact all c }
  case h_2 => exact h.bump _

/-- Every slot of the table takes a value that is placed and sound where its old one was. -/
theorem mapSlots {f : FrameUnit}
    (each : ∀ i : Fin 8, f.slots[i] = u.frames.slots[i] ∨ f.slots[i] = .free ∨ ∃ k, f.slots[i] = .foreign k ∧
      k % 8 = i.val)
    (channels : f.channels = u.frames.channels) : Keeps s { u with frames := f } := by
  refine h.trans {
    placed := fun all i k named => ?_
    sound := fun all i j l leg => ?_
    grants := fun all c => by
      show f.channels[c].queue.length ≤ 16
      rw [channels]
      exact all c }
  · change (f.slots[i]).frame = some k at named
    obtain kept | free | ⟨n, foreign, place⟩ := each i
    · rw [kept] at named
      exact all i k named
    · rw [free] at named
      cases named
    · rw [foreign] at named
      cases named
      exact place
  · change (f.slots[i].entry.map fun e => e.legs[j]) = some l at leg
    obtain kept | free | ⟨n, foreign, place⟩ := each i
    · rw [kept] at leg
      exact all i j l leg
    · rw [free] at leg
      cases leg
    · rw [foreign] at leg
      cases leg

theorem learnFrames (r : Roll) : Keeps s (u.learnFrames r) := by
  unfold State.learnFrames
  dsimp only
  refine (h.mapSlots (fun i => ?_) ?_).pruneFlushes
  rotate_left
  · rfl
  rw [Fin.getElem_fin, Vector.getElem_ofFn]
  cases named : (r.occupied.map (u.rollFrame r)).find? fun k => slotOf k == i with
  | none => exact .inr (.inl rfl)
  | some k =>
    have place : k % 8 = i.val := by
      have here := List.find?_some named
      exact congrArg Fin.val (beq_iff_eq.mp here)
    cases slot : u.frames.slots[i] with
    | free => exact .inr (.inr ⟨k, rfl, place⟩)
    | foreign n => exact .inr (.inr ⟨k, rfl, place⟩)
    | known e =>
      by_cases same : e.frame = k
      · exact .inl (if_pos same)
      · exact .inr (.inr ⟨k, if_neg same, place⟩)

theorem forgetForeign (r : Roll) : Keeps s (u.forgetForeign r) := by
  refine h.mapSlots (fun i => ?_) ?_
  rotate_left
  · rfl
  rw [Fin.getElem_fin, Vector.getElem_map, ← Fin.getElem_fin]
  cases slot : u.frames.slots[i] with
  | free => exact .inl rfl
  | known e => exact .inl rfl
  | foreign k =>
    unfold Slot.forget
    dsimp only
    split
    · exact .inl rfl
    · exact .inr (.inl rfl)

theorem takeCompleteness (r : Roll) : Keeps s (u.takeCompleteness r) := by
  unfold State.takeCompleteness
  refine ite (fun _ => ?_) fun _ => h
  refine foldl (fun v c => ?_) _ h
  dsimp only
  split
  · exact ite (fun _ => ((refl v).setChannel fun all => (length_takeReport_le _ _).trans (all c)).bump _) fun _ => refl v
  · exact refl v

/-! ### Taps -/

theorem takeLive (t : Tap) (r : Trigger) : Keeps s (u.takeLive t r) := by
  refine ite (fun room => (h.setTap (fun _ => ?_) ?_).bump _) fun _ => h.bump _
  · rw [List.length_append]
    exact room
  · exact .refl _

/-- The slot that the pool grants a tap is in its new state, beside those it held (R21, R31). -/
theorem takeSlot {t : Tap} {x : TapState} (granted : u.slotGranted t = true)
    (triggers : x.triggers = u.taps[t].triggers) (slots : x.slots.Subperm (u.choice :: u.taps[t].slots)) :
    Keeps s ((u.setTap t x).slotTaken) := by
  refine h.trans {
    triggers := fun bounded => triggersBounded_setTap (by rw [triggers]; exact bounded t) bounded
    pool := poolAccounted_of_granted granted ?_ ?_ }
  · have same : (u.setTap t x).slotTaken.slotsOfTap t = x.slots ++ turnSlotsOf t u.delivery.turn :=
      setTap_slotsOfTap_same u t x
    rw [same]
    exact slots.append (.refl _)
  · intro r other
    exact setTap_slotsOfTap_of_ne u x other

theorem takePattern (t : Tap) (r : Trigger) : Keeps s (u.takePattern t r) := by
  refine ite (fun granted => (h.takeSlot granted ?_ ?_).bump _) fun _ => (h.bump _).raise _
  · rfl
  simp only [TapState.slots, List.map_append, List.map_singleton]
  rw [← List.append_assoc]
  exact (List.perm_append_singleton _ _).subperm

theorem handRecord (t : Tap) (r : Trigger) : Keeps s (u.handRecord t r) := by
  unfold State.handRecord
  split
  · exact h
  · exact h.takeLive t r
  · exact h.takePattern t r

theorem handRecords (r : Trigger) : Keeps s (u.handRecords r) :=
  ite (fun _ => ((h.setDraws _).handRecord 1 r).handRecord 0 r) fun _ => ((h.setDraws _).handRecord 0 r).handRecord 1 r

theorem setPortNowhere (t : Tap) : Keeps s (u.setTap t { u.taps[t] with port := .nowhere }) :=
  h.setTap (fun bounded => bounded t) (List.sublist_append_right _ _).subperm

theorem beginPacket {t : Tap} (idle : u.taps[t].port = .idle) : Keeps s (u.beginPacket t) := by
  refine ite (fun granted => h.takeSlot granted ?_ ?_) fun _ => h.setPortNowhere t
  · rfl
  simp only [TapState.slots, idle, LinePort.slots]
  exact .refl _

theorem badPacket (t : Tap) (bytes : List Byte) : Keeps s (u.badPacket t bytes) := by
  refine (h.setTap (fun bounded => ?_) ?_).bump _
  · exact (List.drop_sublist 1 _).length_le.trans (bounded t)
  · exact .refl _

theorem overrun (t : Tap) : Keeps s (u.overrun t) := (h.bump _).raise _

theorem reconcile {t : Tap} {slot : Fin 256} (filling : u.taps[t].port = .filling slot) (c : Byte)
    (pixels : List Byte) : Keeps s (u.reconcile t slot c pixels) := by
  have freed : (u.taps[t].lines.map Line.slot).Subperm u.taps[t].slots := (List.sublist_append_right _ _).subperm
  unfold State.reconcile
  dsimp only
  generalize (if u.taps[t].primed = true then (c - u.taps[t].expected).toNat else 0) = d
  refine ite (fun _ => ?_) fun _ => ite (fun _ => ?_) fun _ => ?_
  · refine (h.setTap (fun bounded => ?_) ?_).bump _
    exacts [bounded t, freed]
  · refine (h.setTap (fun bounded => ?_) ?_).bump _
    exacts [Nat.zero_le _, freed]
  · split
    case h_1 e rest left =>
      refine (h.setTap (fun bounded => ?_) ?_).bump _
      · have fewer : (u.taps[t].triggers.drop d).length ≤ u.taps[t].triggers.length := (List.drop_sublist d _).length_le
        rw [left, List.length_cons] at fewer
        exact (Nat.le_of_succ_le fewer).trans (bounded t)
      · simp only [TapState.slots, LinePort.slots, filling, List.map_append, List.map_singleton, List.nil_append]
        exact (List.perm_append_singleton _ _).subperm
    case h_2 =>
      refine (h.setTap (fun bounded => ?_) ?_).bump _
      exacts [Nat.zero_le _, freed]

theorem arrive {t : Tap} {slot : Fin 256} (filling : u.taps[t].port = .filling slot) (bytes : List Byte) :
    Keeps s (u.arrive t slot bytes) := by
  unfold State.arrive
  dsimp only
  refine ite (fun _ => ?_) fun _ => (h.badPacket t bytes).setPortIdle t
  split
  · exact h.reconcile filling _ _
  · exact (h.bump _).reconcile filling _ _

/-! ### The position unit -/

theorem claimAtAdvance : Keeps s u.claimAtAdvance := ite (fun _ => h.claimOpening _) fun _ => h

theorem presentAdvance : Keeps s u.presentAdvance := h.claimAtAdvance.startLegTimers.advanceOutputs.settle.endChecks

theorem fireStrobes (phase : Nat) : Keeps s (u.fireStrobes phase) := h.trans {}

theorem issueLine (n : Nat) : Keeps s (u.issueLine n) := (((h.setPos _).bump _).handRecords _).fireStrobes _

theorem takeDue (n : Nat) : Keeps s (u.takeDue n) := by
  unfold State.takeDue
  split
  · exact ite (fun _ => h.bump _) fun _ => h.issueLine n
  all_goals exact h

theorem lineDue : Keeps s u.lineDue := ((h.setPos _).takeDue _).presentAdvance

theorem countUp : Keeps s u.countUp :=
  ite (fun _ => ite (fun _ => ((h.setPos _).setPos _).lineDue) fun _ => (h.setPos _).setPos _) fun _ => h.setPos _

theorem encoderError : Keeps s u.encoderError := ((h.bump _).raise _).lapseFrom _

theorem align (offset : Word) : Keeps s (u.align offset) := (h.setPos _).presentAdvance

theorem enterIssuing : Keeps s u.enterIssuing := h.setPos _

end Units

end Keeps

end Sys2Proof.Machine

/-! The invariants through the trunk port (R37 to R56), the note processor (R53, R80 to R92) and the host window (R172 to
R184). -/

namespace Sys2Proof.Machine

-- One proof at a time: the proofs of many statements at once take more threads than the memory holds.
set_option Elab.async false

/-! ### The wire and the receive queue, which a lapse and a raise leave alone -/

/-- A lapse ends the veto run and leaves the rest of the trunk port alone (R49, R91). -/
theorem lapse_trunk (s : State) : s.lapse.trunk = { s.trunk with vetoRun := 0 } := by
  simp [State.lapse]

theorem lapseFrom_wire (s : State) (l : List StationState) : (s.lapseFrom l).trunk.wire = s.trunk.wire := by
  unfold State.lapseFrom
  split
  · rw [lapse_trunk]
  · rfl

theorem giveVeto_wire (s : State) : s.giveVeto.trunk.wire = s.trunk.wire := by
  unfold State.giveVeto
  dsimp only
  split
  · rw [lapseFrom_wire, raise_trunk]
    rfl
  · rfl

theorem declareStall_wire (s : State) : s.declareStall.trunk.wire = s.trunk.wire := by
  rw [State.declareStall, raise_trunk]
  rfl

namespace Keeps

section Trunk

variable {s u : State} (h : Keeps s u)
include h

/-! ### The note on the wire -/

theorem setTrunk {tr : Trunk} (fewer : tr.queue.length + (if tr.wire.any Wire.reserved then 1 else 0) ≤ u.placesTaken
    ∨ tr.queue.length + (if tr.wire.any Wire.reserved then 1 else 0) ≤ 8) : Keeps s { u with trunk := tr } :=
  h.trans { places := fun bounded => fewer.elim (fun le => Nat.le_trans le bounded) id }

/-- Nothing is on the wire any more: a reserved place is free again (R51). -/
theorem clearWire : Keeps s (u.setWire none) := h.setTrunk (.inl (Nat.le_add_right _ _))

theorem setWire {w w' : Wire} (wire : u.trunk.wire = some w) (reserved : w'.reserved = true → w.reserved = true) :
    Keeps s (u.setWire (some w')) := by
  refine h.setTrunk (.inl ?_)
  show u.trunk.queue.length + (if w'.reserved = true then 1 else 0)
    ≤ u.trunk.queue.length + (if u.trunk.wire.any Wire.reserved = true then 1 else 0)
  rw [wire]
  refine Nat.add_le_add_left ?_ _
  by_cases yes : w'.reserved = true
  · simp [yes, reserved yes]
  · simp [yes]

theorem setVetoRun (n : Nat) : Keeps s { u with trunk := { u.trunk with vetoRun := n } } := h.setTrunk (.inl (Nat.le_refl _))

theorem beginNote {role : WireRole} {reserved : Bool} {stretch : Option Moment}
    (room : reserved = true → u.trunk.queue.length < 8) : Keeps s (u.beginNote role reserved stretch) := by
  refine h.trans { places := fun bounded => ?_ }
  cases reserved with
  | true => exact room rfl
  | false => exact (Nat.le_add_right _ _).trans bounded

theorem giveVeto : Keeps s u.giveVeto :=
  ite (fun _ => (((h.setVetoRun _).bump _).raise _).lapseFrom _) fun _ => (h.setVetoRun _).bump _

theorem duplicate : Keeps s u.duplicate := ((h.bump _).raise _).lapseFrom _

/-! ### The end of an attempt -/

theorem exhaust (c : Claim) : Keeps s (u.exhaust c) := by
  have counted := (h.bump (countQueue fun q => { q with notesExhausted := q.notesExhausted + 1 })).raise .noise
  unfold State.exhaust
  cases c with
  | grant channel seq base => exact (counted.lostGrantBy _).raise _
  | done => exact counted.lapseFrom _
  | rosterJoin => exact ite (fun _ => counted.enterConfigured _) fun _ => counted
  | rosterLeave =>
    exact ite (fun _ => counted.enterConfigured _) fun _ => ite (fun _ => counted.leaveLapsed) fun _ => counted
  | signal => exact counted
  | drop => exact counted
  | opening => exact counted
  | gate => exact counted
  | roll => exact counted

/-- The held claim joins a list of ROSTER notes that has been left empty (R61). -/
theorem joinHeld (empty : s.quotasKept → u.pendingOf .roster = []) : Keeps s u.joinHeld := by
  unfold State.joinHeld
  split
  case h_1 c held =>
    refine { h with quotas := fun quotas => ?_ }
    have kept := h.quotas quotas
    have roster : c.kind = .roster := kept.2.2 c held
    have alone : ({ u with tx := { u.tx with held := none } } : State).quotasKept :=
      (refl u).dropHeld.quotas kept
    refine ((refl _).joinList (fun _ => ?_) ?_).quotas alone
    · show (u.pendingOf c.kind).length < c.kind.quota
      rw [roster, empty quotas]
      exact Nat.one_pos
    · rw [roster]
      intro drop
      cases drop
  case h_2 => exact h

theorem joinWithdrawn (c : Claim) : Keeps s (u.joinWithdrawn c) := ite (fun _ => h.enterListening) fun _ => h

end Trunk

/-- The head has left its list of ROSTER notes, which held no other (R58). -/
theorem roster_left {s : State} {n : Pending} {rest : List Pending} {k : NoteKind} (waiting : s.pendingOf k = n :: rest)
    (roster : k = .roster) (quotas : s.quotasKept) : (s.setPending k rest).pendingOf .roster = [] := by
  subst roster
  have within := quotas.1 .roster
  rw [waiting, List.length_cons] at within
  rw [setPending_pendingOf_same]
  exact List.length_eq_zero_iff.mp (Nat.le_zero.mp (Nat.le_of_succ_le_succ within))

/-- A note that is not tried again leaves the head of its list (R61, R62). -/
theorem leaveList {s u : State} (h : Keeps s u) {k : NoteKind} {n : Pending} {rest : List Pending} {held : Bool}
    (waiting : u.pendingOf k = n :: rest) (roster : held = true → k = .roster) (byReset : Bool) (c : Claim) :
    Keeps s ((if held = true then ((u.setPending k rest).withdrawn n byReset).joinHeld
      else (u.setPending k rest).withdrawn n byReset).joinWithdrawn c) := by
  have left : Keeps s ((u.setPending k rest).withdrawn n byReset) :=
    (h.setPending (by rw [waiting, List.map_cons]; exact List.sublist_cons_self _ _)).withdrawn n byReset
  refine joinWithdrawn (ite (fun yes => left.joinHeld fun quotas => ?_) fun _ => left) c
  exact (congrArg (fun tx : TransmitQueue => tx.lists[NoteKind.roster.code]) (withdrawn_tx _ _ _)).trans
    (roster_left waiting (roster yes) (h.quotas quotas))

theorem endAttempt {s u : State} (h : Keeps s u) (k : NoteKind) (a : Attempt) : Keeps s (u.endAttempt k a) := by
  refine h.trans ?_
  unfold State.endAttempt
  split
  · exact refl u
  case h_2 n rest waiting =>
    have roster_of (held : (k == .roster && u.tx.held.isSome) = true) : k = .roster := by
      rw [Bool.and_eq_true, beq_iff_eq] at held
      exact held.1
    have fewer : (rest.map Pending.claim).Sublist ((u.pendingOf k).map Pending.claim) := by
      rw [waiting, List.map_cons]
      exact List.sublist_cons_self _ _
    cases a with
    | accepted =>
      have sent := ((refl u).setPending fewer).bump (countTrunk fun c => { c with notesSent := c.notesSent + 1 })
      exact ite (fun held => sent.joinHeld (roster_left waiting (roster_of held))) fun _ => sent
    | failed =>
      have counted := (refl u).bump (countTrunk fun c => { c with attemptsFailed := c.attemptsFailed + 1 })
      refine ite (fun _ => counted.leaveList waiting roster_of _ _) fun _ => ite (fun _ => ?_) fun _ => ?_
      · exact (counted.setPending (k := k) (l := rest) fewer).exhaust n.claim
      · refine counted.setPending (k := k) (l := { n with attempts := n.attempts + 1 } :: rest) ?_
        show (List.map Pending.claim ({ n with attempts := n.attempts + 1 } :: rest)).Sublist
          ((u.pendingOf k).map Pending.claim)
        rw [waiting]
        exact .refl _
    | lost => exact ite (fun _ => (refl u).leaveList waiting roster_of _ _) fun _ => refl u

section Trunk

variable {s u : State} (h : Keeps s u)
include h

theorem endStanding (st : Standing) (a b : Attempt) : Keeps s (u.endStanding st a b) := by
  unfold State.endStanding
  cases st with
  | carried k note => exact h.endAttempt k a
  | lostHeader k => exact (h.bump _).endAttempt k .lost
  | lostLate k => exact h.endAttempt k b
  | heard => exact h
  | aside => exact h

/-- The accepted note takes the place that was reserved for it (R51). -/
theorem sampleNote {w : Wire} (wire : u.trunk.wire = some w) (cells : List Bool) (accepted : Bool) :
    Keeps s (u.sampleNote w cells accepted) := by
  unfold State.sampleNote
  dsimp only
  have off_wire : Keeps u (if accepted = true then
      { u.setWire none with trunk := { (u.setWire none).trunk with vetoRun := 0 } } else u.setWire none) :=
    ite (fun _ => (refl u).clearWire.setVetoRun 0) fun _ => (refl u).clearWire
  have ended (v : State) (kept : Keeps u v) (twin : Bool) (st : Standing) (a : Attempt) :
      Keeps s (if (twin && !w.released) = true then (v.endStanding st a .lost).duplicate else v.endStanding st a .lost) :=
    ite (fun _ => (h.trans (kept.endStanding st a .lost)).duplicate) fun _ => h.trans (kept.endStanding st a .lost)
  refine ended _ ?_ _ _ _
  split
  case h_1 p n got =>
    have reserved : w.reserved = true := by
      split at got
      · rename_i conditions
        simp only [Bool.and_eq_true] at conditions
        exact conditions.1.2
      · cases got
    have places : u.placesTaken = u.trunk.queue.length + 1 := by
      simp [State.placesTaken, wire, reserved]
    refine { off_wire with places := fun bounded => ?_ }
    have room : u.trunk.queue.length + 1 ≤ 8 := places ▸ bounded
    by_cases yes : accepted = true
    · simpa [State.placesBounded, State.placesTaken, yes] using room
    · simpa [State.placesBounded, State.placesTaken, yes] using room
  case h_2 => exact off_wire

theorem abandon (w : Wire) (cells : List Bool) : Keeps s (u.abandon w cells) := by
  unfold State.abandon
  dsimp only
  exact (ite (fun _ => h.clearWire) fun _ => h.clearWire.bump _).endStanding _ _ _

theorem stallSender {w : Wire} (wire : u.trunk.wire = some w) (cells : List Bool) : Keeps s (u.stallSender w cells) := by
  have received : Keeps s (u.setWire (if w.released = true then none else some { w with role := .receiver })) := by
    split
    · exact h.clearWire
    · exact h.setWire wire id
  unfold State.stallSender
  split
  · exact received.endAttempt _ _
  · exact (received.bump _).endAttempt _ _
  · exact h.setWire wire id
  all_goals exact h

theorem declareStall : Keeps s u.declareStall := by
  have held : Keeps s { u with trunk := { u.trunk with stalled := true }, mem := u.mem.holdTimers u.now } := h.trans {}
  exact (held.bump _).raise _

theorem resumeTrunk : Keeps s u.resumeTrunk := h.trans {}

/-! ### Processed notes -/

/-- The head's place is free; the note on the wire takes it while the station stretched for one (R52). -/
theorem takeHead {r : Received} {rest : List Received} (head : u.trunk.queue = r :: rest) : Keeps s (u.takeHead rest) := by
  refine h.setTrunk (.inl ?_)
  unfold State.placesTaken
  rw [head, List.length_cons]
  have one (b : Bool) : (if b = true then 1 else 0) ≤ 1 := by cases b <;> decide
  cases wire : u.trunk.wire with
  | none => simp
  | some w =>
    by_cases stretched : w.stretch.isSome = true
    · simp only [Option.map_some, stretched, if_true, Option.any_some]
      omega
    · simp only [Option.map_some, stretched, Option.any_some]
      exact Nat.add_le_add_right (Nat.le_succ _) _

theorem withdrawJoin : Keeps s u.withdrawJoin := by
  unfold State.withdrawJoin
  dsimp only
  exact ite (fun _ => (h.withdrawFrom _ _ _).enterListening) fun _ => h.withdrawFrom _ _ _

theorem withdrawTold (r : Received) : Keeps s (u.withdrawTold r) := by
  have told := h.withdrawFrom .drop .withdrawn fun n => n.claim == .drop r.sender
  unfold State.withdrawTold
  dsimp only
  split
  · exact told.withdrawFrom _ _ _
  · exact told.withdrawFrom _ _ _
  · exact ite (fun _ => told) fun _ => told.withdrawJoin
  all_goals exact told

theorem hear (p : Station) : Keeps s (u.hear p) := ite (fun _ => h) fun _ => h.setMem _

theorem recordRoll (p : Station) (r : Roll) : Keeps s (u.recordRoll p r) := ite (fun _ => h) fun _ => h.setMem _

theorem keepRosterPeers : Keeps s u.keepRosterPeers := h.setMem _

theorem listenRoll (p : Station) (r : Roll) (latch : Latch) : Keeps s (u.listenRoll p r latch) :=
  ite (fun _ => (h.raise _).enterConfigured _) fun _ =>
    ((((h.setMem _).recordRoll p r).keepRosterPeers.learnFrames r).takeCompleteness r).align _

theorem setRollTimer (p : Station) : Keeps s (u.setRollTimer p) :=
  ite (fun _ => h) fun _ => ite (fun _ => h.setMem _) fun _ => ite (fun _ => h.setMem _) fun _ => h

theorem skewVote (p : Station) (r : Roll) (latch : Latch) : Keeps s (u.skewVote p r latch) := by
  unfold State.skewVote
  dsimp only
  generalize decide (countDistance r.groupCount latch.group ≤ cfgSkew u.area) = agree
  have compared := h.setMem { u.mem with
    peers := u.mem.peers.set p (u.mem.peers[p].map fun x => { x with skew := some agree }) }
  have counted := ite (p := agree = true) (fun _ => compared) fun _ =>
    compared.bump (countMembership fun c => { c with skewDisagree := c.skewDisagree + 1 })
  exact ite (fun _ => (counted.raise _).lapse) fun _ => counted

theorem memberRoll (p : Station) (r : Roll) (latch : Latch) : Keeps s (u.memberRoll p r latch) := by
  unfold State.memberRoll
  dsimp only
  have judged := ite (p := r.digest ≠ u.window.digest) (fun _ => h.raise .configMismatch) fun _ => h
  have learned := ite (p := p = u.self) (fun _ => h) fun _ => (judged.recordRoll p r).forgetForeign r
  have timed := (learned.takeCompleteness r).setRollTimer p
  exact ite (fun _ => ite (fun _ => timed.orphanRule) fun _ => timed.orphanRule.skewVote p r latch) fun _ => timed

theorem restartListen : Keeps s u.restartListen := ite (fun _ => h.setMem _) fun _ => h

theorem startPeers : Keeps s u.startPeers := h.setMem _

theorem enterMember (founding : Bool) : Keeps s (u.enterMember founding) := by
  have founded := ite (p := founding = true) (fun _ => h.found) fun _ => h
  unfold State.enterMember
  dsimp only
  generalize (if founding = true then u.found else u) = v at founded ⊢
  have changed := founded.changeState .member
  generalize v.changeState .member = w at changed ⊢
  have issuing := (changed.setMem { w.mem with joinFrame := w.frames.h, roll := .running (w.now + cfgR w.area) }
    ).startPeers.enterIssuing
  generalize State.enterIssuing _ = x at issuing ⊢
  have marked : Keeps x { x with delivery := { x.delivery with handled := Vector.replicate 2 x.pos.lineIndex } } := {}
  exact (issuing.trans marked).memberChecks

theorem addToRoster (j : Station) : Keeps s (u.addToRoster j) :=
  ite (fun _ => ((h.setMem _).bump _).setMem _) fun _ => (h.setMem _).bump _

theorem enrol (j : Station) : Keeps s (u.enrol j) :=
  (ite (fun _ => h.removeStation j none) fun _ => h).addToRoster j

theorem ownJoin (digest : BitVec 16) (founding : Bool) : Keeps s (u.ownJoin digest founding) :=
  ite (fun _ => (h.raise _).enterConfigured _) fun _ => ite (fun _ => h.enterListening) fun _ =>
    (h.enrol _).enterMember _

theorem leavingJoin (digest : BitVec 16) (founding : Bool) : Keeps s (u.leavingJoin digest founding) :=
  ite (fun _ => h.raise _) fun _ => ite (fun _ => h) fun _ => h.enrol _

theorem peerJoin (j : Station) (digest : BitVec 16) (founding : Bool) : Keeps s (u.peerJoin j digest founding) :=
  ite (fun _ => h) fun _ => ite (fun _ => h) fun _ => h.enrol _

theorem applyJoin (j : Station) (digest : BitVec 16) (founding : Bool) : Keeps s (u.applyJoin j digest founding) :=
  ite (fun _ => h.ownJoin _ _) fun _ => ite (fun _ => h.leavingJoin _ _) fun _ => (h.peerJoin _ _ _).restartListen

theorem removeIfIn (p : Station) (dropSender : Option Station) : Keeps s (u.removeIfIn p dropSender) :=
  ite (fun _ => h.removeStation _ _) fun _ => h

theorem applyDrop (sender p : Station) : Keeps s (u.applyDrop sender p) := by
  unfold State.applyDrop
  split
  · exact (h.raise _).leaveLapsed
  · exact ite (fun _ => (h.raise _).enterConfigured _) fun _ => h.removeIfIn _ _
  · exact ite (fun _ => (h.raise _).enterConfigured _) fun _ => h.removeIfIn _ _
  · exact h.removeIfIn _ _
  · exact h.removeIfIn _ _
  all_goals exact h

theorem applyLeave (sender : Station) : Keeps s (u.applyLeave sender) := by
  unfold State.applyLeave
  split
  · exact h.leaveLapsed
  · exact ite (fun _ => h.enterConfigured _) fun _ => h.removeIfIn _ _
  · exact ite (fun _ => h) fun _ => h.removeIfIn _ _
  · exact h.removeIfIn _ _
  · exact h.removeIfIn _ _
  all_goals exact h

theorem applyNote (r : Received) : Keeps s (u.applyNote r) := by
  unfold State.applyNote
  split
  · exact h.applySignal _ _ _
  · exact h.applyDrop _ _
  · exact h.applyOpening _ _ _
  · exact h.applyDone _ _ _ _ _
  · exact h.applyGate _ _
  · exact h.applyGrant _ _ _
  · exact ite (fun _ => h.listenRoll _ _ _) fun _ => h.memberRoll _ _ _
  · exact h.applyJoin _ _ _
  · exact h.applyLeave _

theorem processHead {r : Received} {rest : List Received} (head : u.trunk.queue = r :: rest) :
    Keeps s (u.processHead r rest) := by
  have heard := ((h.takeHead head).withdrawTold r).hear r.sender
  exact (ite (fun _ => heard.applyNote r) fun _ => heard.bump _).keepLeaveClaimed.afterTap

theorem process (wanted : Note → Bool) : Keeps s (u.process wanted) := by
  unfold State.process
  split
  case h_1 r rest head => exact ite (fun _ => h.processHead head) fun _ => h
  case h_2 => exact h

/-! ### The window -/

theorem setWindow {w : Window} (area : w.area = u.window.area) (events : w.events = u.window.events) :
    Keeps s { u with window := w } :=
  h.trans { area := area, events := fun ⟨few, waiting⟩ => ⟨by rw [events]; exact few, waiting⟩ }

theorem acceptConfig (straps : Station) (samples : Vector Bool 4) : Keeps s (u.acceptConfig straps samples) := by
  refine changeState ?_ .configured |>.answer _ _ _
  exact h.trans {}

theorem corrupt : Keeps s u.corrupt := by
  have raised := (h.bump (countWindow fun c => { c with configCorruptSeen := c.configCorruptSeen + 1 })).raise
    .configCorrupt
  unfold State.corrupt
  dsimp only
  split
  · exact raised.lapse
  · exact raised.lapse
  · exact (raised.unitsToConfigured _).enterUnconfigured
  · exact (raised.unitsToConfigured _).enterUnconfigured
  · exact (raised.unitsToConfigured _).enterUnconfigured
  · exact raised
  · exact raised

theorem gateCommand (code : Byte) (isOpen : Bool) : Keeps s (u.gateCommand code isOpen) := by
  refine ite (fun _ => h.answer _ _ _) fun _ => ite (fun _ => h.answer _ _ _) fun room => ?_
  refine (h.joinList (fun _ => ?_) ?_).answer _ _ _
  · exact (hasRoom_iff u .gate).mp (not_not.mp room)
  · intro drop
    cases drop

theorem postGrant (c : Fin 8) (base : Nat) : Keeps s (u.postGrant c base) := by
  unfold State.postGrant
  dsimp only
  refine ite (fun _ => h.answer _ _ _) fun _ => ite (fun _ => h.answer _ _ _) fun _ => ite (fun _ => h.answer _ _ _) fun _ =>
    ite (fun _ => h.answer _ _ _) fun _ => ite (fun _ => h.answer _ _ _) fun room => ?_
  refine (((h.setChannel fun all => ?_).joinList (fun _ => ?_) ?_).bump _).answer _ _ _
  · exact all c
  · exact (hasRoom_iff u .grant).mp (not_not.mp room)
  · intro drop
    cases drop

theorem resetWindow : Keeps s u.resetWindow := by
  have cleared : Keeps s { u with
      window := { u.window with faults := u.window.faults &&& (1#16 <<< FaultKind.configCorrupt.bit.val), collision := false }
      delivery := { u.delivery with port := [] } } :=
    h.trans { events := fun ⟨few, _⟩ => ⟨few, Nat.zero_le _⟩ }
  exact cleared.event _

theorem resetMember : Keeps s u.resetMember := by
  have changed := h.changeState .leaving
  unfold State.resetMember
  dsimp only
  generalize u.changeState .leaving = v at changed ⊢
  refine ((foldl (fun w p => (refl w).modifyPart _ _ _) _ (changed.trans ?_)).withdrawAll _ _).claimRoster rfl
  exact {
    triggers := fun _ t => by
      rw [Fin.getElem_fin, Vector.getElem_map]
      exact Nat.zero_le _
    pool := poolAccounted_of_subperm fun t => by
      unfold State.slotsOfTap
      rw [Fin.getElem_fin, Vector.getElem_map]
      exact List.nil_subperm
    records := fun _ => Nat.zero_le _
    schedules := fun _ j => by
      rw [Fin.getElem_fin]
      simp [Output.reset] }

/-- The taking of a command keeps what its meaning keeps (R172). -/
theorem take (code : Byte) {body : State → State} (meaning : ∀ v, Keeps s v → Keeps s (body v)) :
    Keeps s (u.take code body) :=
  ite (fun _ => h.collide) fun _ => meaning _ (h.trans {})

end Trunk

end Keeps

end Sys2Proof.Machine

/-! The invariants through the commands but the four writers of the configuration area. -/

namespace Sys2Proof.Machine

-- One proof at a time: the proofs of many statements at once take more threads than the memory holds.
set_option Elab.async false

/-! ### The commands -/

/-- Every command but the four writers of the area answers a next state that keeps, from the command's moment on, all that
the relation carries. -/
theorem exec_keeps (c : Instr) (s : State) (reads : c.writesArea = false) :
    ∃ u, exec c s = .next u ∧ Keeps (s.tick c.moment) u := by
  have start : Keeps (s.tick c.moment) (s.tick c.moment) := .refl _
  cases c <;> dsimp only [Instr.moment] at start ⊢ <;> refine ⟨_, rfl, ?_⟩
  case powerOnReset | resetStation | configCheck | configWrite => cases reads
  case encoderEvent t a b =>
    dsimp only
    have paired := start.setPos { s.pos with reference := some (a, b) }
    split
    · exact paired
    · split
      · exact paired
      · exact paired.countUp
      · exact paired.setPos _
      · exact paired.encoderError
  case strobeTimerExpiry t strobe =>
    dsimp only
    split
    · exact .ite (fun _ => start.setPos _) fun _ => start
    · exact start
  case trigPulseEnd t tap =>
    dsimp only
    split
    · exact .ite (fun _ => start.setTap (fun bounded => bounded tap) (.refl _)) fun _ => start
    · exact start
  case triggerTimeout t tap =>
    refine .ite (fun _ => ((start.setTap (fun bounded => ?_) ?_).bump _).afterTap) fun _ => start
    · exact (List.drop_sublist _ _).length_le.trans (bounded tap)
    · exact .refl _
  case syncWord t tap cut =>
    refine .ite (fun _ => ?_) fun _ => start
    split
    case h_1 idle => exact start.beginPacket idle
    case h_2 slot filling => exact (start.badPacket tap cut).afterTap
    case h_3 nowhere =>
      refine ((((start.overrun tap).badPacket tap cut).setPortIdle tap).beginPacket ?_).afterTap
      rw [State.setPort, setTap_taps_same]
  case packetArrival t tap bytes =>
    refine .ite (fun _ => ?_) fun _ => start
    split
    case h_1 idle => exact start
    case h_2 slot filling => exact (start.arrive filling bytes).afterTap
    case h_3 nowhere => exact (((start.overrun tap).badPacket tap bytes).setPortIdle tap).afterTap
  case noteSendStart t =>
    dsimp only
    split
    · exact start
    case h_2 c startable =>
      have room : (s.tick t).trunk.queue.length < 8 := by
        unfold State.startable at startable
        split at startable
        case isTrue conditions =>
          rw [conditions.2.1]
          exact Nat.succ_pos _
        case isFalse => cases startable
      have begun := start.beginNote (role := .sender c.kind ((s.tick t).compose c)
        (noteCells (s.tick t).self ((s.tick t).compose c))) (reserved := true) (stretch := none) fun _ => room
      exact .ite (fun _ => begun.align _) fun _ => begun
  case leadMark t =>
    refine .ite (fun _ => .ite (fun room => start.beginNote fun _ => room) fun _ => ?_) fun _ => start
    exact (start.beginNote fun reserved => by cases reserved).bump _
  case stretchLimit t =>
    split
    case h_1 w wire =>
      split
      · refine .ite (fun _ => ((start.setWire wire ?_).raise _).lapseFrom _) fun _ => start
        intro reserved
        cases reserved
      · exact start
    case h_2 => exact start
  case confirmSlot t cells othersVeto =>
    dsimp only
    split
    case h_1 w wire =>
      refine .ite (fun _ => start) fun _ => ?_
      have judged := Keeps.ite (p := (s.tick t).vetoes w cells = true) (fun _ => start.giveVeto) fun _ => start
      refine (judged.sampleNote ?_ _ _).keepLeaveClaimed.settle
      split
      · rw [giveVeto_wire]
        exact wire
      · exact wire
    case h_2 => exact start
  case noteAbandoned t cells =>
    split
    · exact .ite (fun _ => start) fun _ => (start.abandon _ _).keepLeaveClaimed.settle
    · exact start
  case trunkIdle t => exact .ite (fun _ => start.trans {}) fun _ => start
  case trunkError t =>
    have busy : Keeps (s.tick t) { s.tick t with trunk := { s.trunk with view := .busy } } := {}
    exact .ite (fun _ => busy.bump _) fun _ => start
  case stall t cells =>
    refine .ite (fun _ => ?_) fun _ => start
    split
    case h_1 w wire =>
      refine .ite (fun _ => start) fun _ => (start.declareStall.stallSender ?_ cells).keepLeaveClaimed.settle
      rw [declareStall_wire]
      exact wire
    case h_2 => exact start.declareStall
  case processSignal | processDrop | processOpen | processDone | processGate | processGrant | processRoll
    | processRosterJoin | processRosterLeave => exact start.process _
  case portIssue t => exact .ite (fun _ => (start.settle.portIssue 100).settle) fun _ => start
  case flushCompletion t number =>
    dsimp only
    have message : Keeps (s.tick t) { s.tick t with records := { s.records with step := .message } } := {}
    refine .ite (fun _ => message.present rfl) fun _ => .ite (fun _ => start) fun _ => ?_
    split
    · exact start.reportPart _ _
    · exact start
  case flushTimeout t slot stream =>
    split
    · exact .ite (fun _ => (((start.voidPart slot stream).bump _).raise _).settle) fun _ => start
    · exact start
    · exact start
  case recordFlushTimeout t =>
    split
    · exact .ite (fun _ => ((start.bump _).raise _).dropHeadRecord) fun _ => start
    all_goals exact start
  case legTimerExpiry t slot stream =>
    split
    · refine .ite (fun _ => .ite (fun _ => ?_) fun _ => start.modifyPart _ _ _) fun _ => start
      exact (((start.cutTurn slot stream).voidPart slot stream).bump _).settle
    · exact start
    · exact start
  case linkDown t =>
    dsimp only
    refine .ite (fun _ => ?_) fun _ => start
    have dropped := (Keeps.ite (p := (s.tick t).closed = true) (fun _ => start) fun _ => start.voidParts).dropTurn
    generalize State.dropTurn _ = v at dropped ⊢
    have closed : Keeps v { v.emptyRecords with delivery := { v.emptyRecords.delivery with port := [], linkUp := false } } :=
      (Keeps.refl v).emptyRecords.trans { events := fun ⟨few, _⟩ => ⟨few, Nat.zero_le _⟩ }
    exact (((((dropped.trans closed).bump _).bump _).bump _).raise _).settle
  case linkUp t => exact start.trans {}
  case signalEdge t i level =>
    dsimp only
    have sampled : Keeps (s.tick t) ((s.tick t).takeSample i level) := {}
    have filtered : Keeps (s.tick t) (((s.tick t).takeSample i level).setFiltered i level) := {}
    exact .ite (fun _ => start) fun _ => .ite (fun _ => sampled) fun _ => .ite (fun _ => filtered) fun _ =>
      .ite (fun _ => (filtered.bump _).claimEdge i level) fun _ => (filtered.bump _).bump _
  case groupFaultEdge t =>
    dsimp only
    have low : Keeps (s.tick t) ((s.tick t).setFaultLine false) := {}
    exact .ite (fun _ => .ite (fun _ => (low.bump _).eventNoticed _ _) fun _ => low.bump _) fun _ => low
  case listenTimerExpiry t =>
    exact .ite (fun _ => ((start.claimRoster rfl).setMem _).changeState _) fun _ => start
  case rollTimerExpiry t => exact .ite (fun _ => start.claimRoll.setMem _) fun _ => start
  case silenceTimerExpiry t peer => exact .ite (fun _ => ((start.claimDrop peer).bump _).setMem _) fun _ => start
  case acceptConfig t => exact start.take 1 fun v kept => .ite (fun _ => kept) fun _ => kept.answer _ _ _
  case acceptConfigDone t straps samples =>
    refine .ite (fun _ => ?_) fun _ => start
    split
    · exact start.answer _ _ _
    · exact start.acceptConfig _ _
  case join t =>
    exact start.take 2 fun v kept => .ite (fun _ => kept.enterListening.answer _ _ _) fun _ => kept.answer _ _ _
  case leave t =>
    refine start.take 3 fun v kept => ?_
    split
    · exact kept.enterLeaving.settle.answer _ _ _
    · exact kept.enterLeaving.settle.answer _ _ _
    · exact (kept.enterConfigured _).answer _ _ _
    all_goals exact kept.answer _ _ _
  case postGrant t =>
    refine start.take 4 fun v kept => .ite (fun _ => kept.answer _ _ _) fun _ => ?_
    split
    · exact .ite (fun _ => kept.postGrant _ _) fun _ => kept.answer _ _ _
    · exact kept.answer _ _ _
  case gateClose t => exact start.take 5 fun v kept => kept.gateCommand 5 false
  case gateOpen t => exact start.take 6 fun v kept => kept.gateCommand 6 true
  case mark t =>
    refine start.take 7 fun v kept => .ite (fun _ => kept.answer _ _ _) fun _ => .ite (fun _ => kept.answer _ _ _) fun _ =>
      .ite (fun _ => kept.answer _ _ _) fun room => ((kept.joinList (fun _ => ?_) ?_).bump _).answer _ _ _
    · exact (hasRoom_iff v .signal).mp (not_not.mp room)
    · intro drop
      cases drop
  case setOutput t =>
    refine start.take 8 fun v kept => .ite (fun _ => kept.answer _ _ _) fun _ => ?_
    split
    case isTrue named =>
      refine .ite (fun _ => kept.answer _ _ _) fun _ => .ite (fun _ => kept.answer _ _ _) fun _ =>
        (kept.setOutputState fun all => ?_).answer _ _ _
      exact all ⟨_, named⟩
    · exact kept.answer _ _ _
  case clearFaults t =>
    refine start.take 9 fun v kept => .ite (fun _ => kept.answer _ _ _) fun _ => (kept.setWindow ?_ ?_).answer _ _ _
    · rfl
    · rfl
  case resetAcquisition t =>
    refine start.take 10 fun v kept => ?_
    dsimp only
    split
    · exact kept.answer _ _ _
    · exact (kept.resetWindow.resetMember.setCtr {}).answer _ _ _
    all_goals exact ((kept.resetWindow.enterConfigured true).setCtr {}).answer _ _ _
  case resetStationComplete t => exact .ite (fun _ => start.answer _ _ _) fun _ => start
  case unknownCommand t code =>
    exact .ite (fun _ => start) fun _ => start.take code fun v kept => kept.answer _ _ _
  case commandCollision t => exact .ite (fun _ => start.collide) fun _ => start
  case ignoredWrite t location value => exact start
  case stallEnd t =>
    refine .ite (fun _ => ?_) fun _ => start
    split
    · exact (start.resumeTrunk.abandon _ _).keepLeaveClaimed.settle
    · exact start.resumeTrunk
  case tkfltReleased t => exact start.trans {}
  case argumentWordWrite t index value => exact start.trans {}

end Sys2Proof.Machine

/-! The invariants (R18, R31, R51, R58, R96, R102, R145, R151, R163, R174, R181): at reset, and through the four commands
that write the configuration area; then every step. -/

namespace Sys2Proof

-- One proof at a time: the proofs of many statements at once take more threads than the memory holds.
set_option Elab.async false

open Machine

/-- Settles O6: the reset state's tables are empty, so that each bound is evaluated. -/
theorem invariantsAtReset : Obligations.InvariantsAtReset := by
  refine ⟨rfl, ?placed, ?legs, ?triggers, ?pool, ?quotas, ?places, ?records, ?events, ?grants, ?schedules, ?outsiders⟩
  case placed =>
    intro i k named
    have free : ∀ n : Fin 8, State.reset.frames.slots[n] = .free := by decide
    rw [free i] at named
    cases named
  case legs =>
    intro i j l leg
    have none_known : ∀ (n : Fin 8) (m : Fin 2), State.reset.legAt n m = none := by decide
    rw [none_known i j] at leg
    cases leg
  case triggers =>
    intro t
    obtain rfl | rfl := tap_cases t <;> exact Nat.zero_le _
  case pool =>
    refine (poolAccounted_iff _).mpr ⟨?_, ?_⟩ <;> decide
  case quotas =>
    refine ⟨fun k => ?_, List.nodup_nil, fun c held => by cases held⟩
    cases k <;> exact Nat.zero_le _
  case places => exact Nat.zero_le _
  case records => exact Nat.zero_le _
  case events => exact ⟨(by decide), Nat.zero_le _⟩
  case grants =>
    have none_queued : ∀ c : Fin 8, (State.reset.frames.channels[c]).queue.length ≤ 16 := by decide
    exact none_queued
  case schedules =>
    have none_scheduled : ∀ j : Fin 4,
        (State.reset.signals.outputs[j]).ranges.length ≤ 8 ∧ (State.reset.signals.outputs[j]).changes.length ≤ 8 := by
      decide
    exact none_scheduled
  case outsiders =>
    intro _
    exact ⟨rfl, rfl, rfl, rfl, by decide⟩

namespace Machine

/-- From `s` to `u` the bounds are kept and the waiting commands and the moment stay; the area may change, but stays
canonical. -/
structure KeepsButArea (s u : State) : Prop extends KeepsBounds s u where
  pending : u.pending = s.pending
  now : u.now = s.now
  canonical : s.areaCanonical → u.areaCanonical

theorem Keeps.butArea {s u : State} (h : Keeps s u) : KeepsButArea s u where
  toKeepsBounds := h.toKeepsBounds
  pending := h.pending
  now := h.now
  canonical := by
    unfold State.areaCanonical
    rw [h.area]
    exact id

theorem KeepsButArea.trans {s u v : State} (hu : KeepsButArea s u) (hv : Keeps u v) : KeepsButArea s v where
  pending := hv.pending.trans hu.pending
  now := hv.now.trans hu.now
  canonical := hv.butArea.canonical ∘ hu.canonical
  placed := hv.placed ∘ hu.placed
  sound := hv.sound ∘ hu.sound
  triggers := hv.triggers ∘ hu.triggers
  places := hv.places ∘ hu.places
  quotas := hv.quotas ∘ hu.quotas
  pool := hv.pool ∘ hu.pool
  records := hv.records ∘ hu.records
  events := hv.events ∘ hu.events
  grants := hv.grants ∘ hu.grants
  schedules := hv.schedules ∘ hu.schedules

/-- Cells are written into the area (R174, R177). -/
theorem keepsButArea_writeAll (s : State) (cells : List Host.Cell) :
    KeepsButArea s { s with window := { s.window with area := Memory.writeAll s.window.area cells } } where
  pending := rfl
  now := rfl
  canonical := Memory.writeAll_wf _ cells

/-- A state with the units of the reset state (R182). -/
theorem keepsButArea_of_reset {s u : State} (pending : u.pending = s.pending) (now : u.now = s.now)
    (area : u.window.area = State.reset.window.area) (frames : u.frames = State.reset.frames)
    (taps : u.taps = State.reset.taps) (trunk : u.trunk = State.reset.trunk) (tx : u.tx = State.reset.tx)
    (port : u.delivery.port = State.reset.delivery.port) (turn : u.delivery.turn = State.reset.delivery.turn)
    (records : u.records = State.reset.records) (events : u.window.events = State.reset.window.events)
    (signals : u.signals = State.reset.signals) : KeepsButArea s u := by
  obtain ⟨canonical, placed, sound, triggers, pool, quotas, places, few, eventful, grants, schedules, _⟩ :=
    invariantsAtReset
  refine ⟨⟨fun _ => ?_, fun _ => ?_, fun _ => ?_, fun _ => ?_, fun _ => ?_, fun _ => ?_, fun _ => ?_, fun _ => ?_,
    fun _ => ?_, fun _ => ?_⟩, pending, now, fun _ => ?_⟩
  · simpa only [State.slotsPlaced, frames] using placed
  · simpa only [State.legsSound, State.legAt, frames] using sound
  · simpa only [State.triggersBounded, taps] using triggers
  · simpa only [State.placesBounded, State.placesTaken, trunk] using places
  · simpa only [State.quotasKept, State.pendingOf, tx] using quotas
  · simpa only [State.poolAccounted, State.heldSlots, State.tapHolds, taps, turn] using pool
  · simpa only [State.recordsBounded, records] using few
  · simpa only [State.eventsBounded, noticesWaiting, events, port] using eventful
  · simpa only [State.grantsBounded, frames] using grants
  · simpa only [State.schedulesBounded, signals] using schedules
  · simpa only [State.areaCanonical, area] using canonical

/-- Every command, the four writers of the area too. -/
theorem exec_keepsButArea (c : Instr) (s : State) :
    ∃ u, exec c s = .next u ∧ KeepsButArea (s.tick c.moment) u := by
  by_cases reads : c.writesArea = false
  · obtain ⟨u, next, kept⟩ := exec_keeps c s reads
    exact ⟨u, next, kept.butArea⟩
  · have start : Keeps (s.tick c.moment) (s.tick c.moment) := .refl _
    cases c <;> try exact absurd rfl reads
    all_goals dsimp only [Instr.moment] at start ⊢; refine ⟨_, rfl, ?_⟩
    case powerOnReset t => apply keepsButArea_of_reset <;> rfl
    case resetStation t =>
      unfold State.take
      split
      · exact start.collide.butArea
      · apply keepsButArea_of_reset <;> rfl
    case configCheck t upsets =>
      dsimp only
      split
      case h_1 deadline _ =>
        split
        case isTrue =>
          have upset : KeepsButArea (s.tick t) ((s.tick t).upset upsets) := keepsButArea_writeAll _ _
          have next : ∀ v : State,
              Keeps v { v with window := { v.window with nextCheck := some (deadline + cfgCheckInterval v.area) } } :=
            fun v => {}
          have checked := (upset.trans ((Keeps.refl _).bump
            (countWindow fun c => { c with configChecks := c.configChecks + 1 }))).trans (next _)
          split
          · exact checked
          · exact checked.trans (Keeps.refl _).corrupt.keepLeaveClaimed.settle
        case isFalse => exact start.butArea
      case h_2 => exact start.butArea
    case configWrite t location value =>
      dsimp only
      split
      · exact start.butArea
      · split
        · exact start.collide.butArea
        · split
          · exact (start.bump _).butArea
          · split
            · exact keepsButArea_writeAll _ _
            · exact start.butArea

/-- A step that answers a next state keeps the bounds and the area's canonical form. -/
theorem step_keepsBounds {s u : State} (next : step s = .next u) :
    KeepsBounds s u ∧ (s.areaCanonical → u.areaCanonical) := by
  unfold step at next
  split at next
  · cases next
    exact ⟨{}, id⟩
  case h_2 c rest _ =>
    obtain ⟨v, runs, kept⟩ := exec_keepsButArea c { s with pending := rest }
    cases runs.symm.trans next
    exact ⟨⟨kept.placed, kept.sound, kept.triggers, kept.places, kept.quotas, kept.pool, kept.records, kept.events,
      kept.grants, kept.schedules⟩, kept.canonical⟩

end Machine

/-- Settles O2: every command keeps the queue of commands from its moment on. -/
theorem commandsAnswerAndKeepQueue : Obligations.CommandsAnswerAndKeepQueue := by
  intro c s
  obtain ⟨u, next, kept⟩ := exec_keepsButArea c s
  exact ⟨u, next, kept.pending, kept.now⟩

/-- Settles O7: writes keep the canonical form, and no command changes the area otherwise. -/
theorem areaStaysCanonical : Obligations.AreaStaysCanonical := fun _ _ canonical next =>
  (step_keepsBounds next).2 canonical

/-- Settles O8: every operation on the frame table keeps its placement and its legs' sets. -/
theorem frameTableStaysSound : Obligations.FrameTableStaysSound :=
  ⟨fun _ _ placed next => (step_keepsBounds next).1.placed placed,
    fun _ _ sound next => (step_keepsBounds next).1.sound sound⟩

/-- Settles O9: every operation on the queues keeps their bounds. -/
theorem queuesStayBounded : Obligations.QueuesStayBounded :=
  ⟨⟨fun _ _ bounded next => (step_keepsBounds next).1.triggers bounded,
      fun _ _ bounded next => (step_keepsBounds next).1.places bounded⟩,
    fun _ _ kept next => (step_keepsBounds next).1.quotas kept,
    fun _ _ accounted next => (step_keepsBounds next).1.pool accounted⟩

/-- Settles O10: every operation on the records, events, grants and schedules keeps their bounds. -/
theorem recordEventGrantAndScheduleListsStayBounded : Obligations.RecordEventGrantAndScheduleListsStayBounded :=
  ⟨fun _ _ records events next =>
      ⟨(step_keepsBounds next).1.records records, (step_keepsBounds next).1.events events⟩,
    fun _ _ grants schedules next =>
      ⟨(step_keepsBounds next).1.grants grants, (step_keepsBounds next).1.schedules schedules⟩⟩

/-- Settles O12: the commands but the four writers leave the area as it is. -/
theorem areaFrame : Obligations.AreaFrame := by
  intro c s u reads next a
  obtain ⟨v, runs, kept⟩ := exec_keeps c s reads
  cases runs.symm.trans next
  exact congrArg (Memory.read · a) kept.area

end Sys2Proof

/-! What an operation touches. A `Piece` is a part of the state that operations touch or leave alone as a whole, and
`Only S s u` says that from `s` to `u` no piece but those of `S` has changed. One lemma per operation names its pieces, for
the counters and the values that the laws of the fields do not speak of. -/

namespace Sys2Proof.Machine

-- One proof at a time: the proofs of many statements at once take more threads than the memory holds.
set_option Elab.async false

/-! ### The pieces of the state -/

/-- The pieces: the state's own fields; the position unit's mode, and the rest of it; the taps' line queues, and the rest of
the taps; the veto run, and the rest of the trunk port; the membership unit's; the frame table but own parts, own parts, and
the frame unit's other values; those of the delivery engine, the signal unit and the window; a group of counters each, with the window's two counts of records apart. -/
inductive Piece
  | pending | now | draws | lastRequest
  | mode | position
  | lines | tapBodies | freeLow
  | vetoRun | trunk | tx
  | state | roster | peers | timers
  | entries | parts | h | channels | rotation | lostGrant | gate
  | turn | port | link | flushCount | handled | store | waiting
  | records | outputs | inputs
  | area | registers | faults | events | checks
  | posCtr | tapsCtr | trunkCtr | queueCtr | memCtr | framesCtr | deliveryCtr | recordsCtr | inputsCtr | signalsCtr
  | outputsCtr | windowCtr | noticeCtr | raisesCtr
  deriving DecidableEq

/-- A leg without its own part. -/
def Leg.bare (l : Leg) : Leg := { l with own := none }

/-- A slot without its own parts. -/
def Slot.bare : Slot → Slot
  | .free => .free
  | .foreign k => .foreign k
  | .known e => .known { e with legs := e.legs.map Leg.bare }

/-- A tap without its line queue. -/
def TapState.body (x : TapState) : TapState := { x with lines := [] }

/-- What a piece holds. -/
def Piece.Value : Piece → Type
  | .pending => List Instr
  | .now | .draws | .freeLow | .vetoRun | .h | .flushCount => Nat
  | .lastRequest => Option Request
  | .mode => PositionMode
  | .position => Position
  | .lines => Vector (List Line) 2
  | .tapBodies => Vector TapState 2
  | .trunk => Trunk
  | .tx => TransmitQueue
  | .state => StationState
  | .roster => Option Station × StationSet × Nat × Bool × Option (BitVec 16)
  | .peers => Vector (Option Peer) 8
  | .timers => Vector Timer 8 × Timer × Timer × Bool × Option Moment
  | .entries => Vector Slot 8
  | .parts => Fin 8 → Fin 2 → Option OwnPart
  | .channels => Vector Channel 8
  | .rotation => Vector (Option (Fin 8)) 2
  | .lostGrant => Option Steer
  | .gate => Bool × Nat × Option Nat × Bool
  | .turn => Option Turn × Tap
  | .port => List PortRequest
  | .link => Bool
  | .handled => Vector Nat 2
  | .store => Vector (Vector (Option StoredRow) 4) 2
  | .waiting => Vector Bool 2
  | .records => Records
  | .outputs => Vector Output 4
  | .inputs => Vector (Option Bool) 4 × Vector (Option Sample) 4
  | .area => List Host.Cell × BitVec 16
  | .registers => Option Taking × Byte × Vector Word 4 × ResultWord × Bool
  | .faults => BitVec 16
  | .events => List Event × Word
  | .checks => Option Bool × Option Moment
  | .posCtr => PositionCounters
  | .tapsCtr => Vector TapCounters 2
  | .trunkCtr => TrunkCounters
  | .queueCtr => QueueCounters
  | .memCtr => MembershipCounters
  | .framesCtr => FrameCounters
  | .deliveryCtr => DeliveryCounters
  | .recordsCtr => RecordCounters
  | .inputsCtr => Vector InputCounters 4
  | .signalsCtr => SignalCounters
  | .outputsCtr => Vector OutputCounters 4
  | .windowCtr => WindowCounters
  | .noticeCtr => Counter × Counter
  | .raisesCtr => Vector Counter 16

/-- The value of a piece. -/
def Piece.view : (p : Piece) → State → p.Value
  | .pending, s => s.pending
  | .now, s => s.now
  | .draws, s => s.draws
  | .lastRequest, s => s.lastRequest
  | .mode, s => s.pos.mode
  | .position, s => { s.pos with mode := .stopped }
  | .lines, s => s.taps.map TapState.lines
  | .tapBodies, s => s.taps.map TapState.body
  | .freeLow, s => s.freeLow
  | .vetoRun, s => s.trunk.vetoRun
  | .trunk, s => { s.trunk with vetoRun := 0 }
  | .tx, s => s.tx
  | .state, s => s.mem.state
  | .roster, s => (s.mem.number, s.mem.roster, s.mem.joinFrame, s.mem.heardRoll, s.mem.latestDigest)
  | .peers, s => s.mem.peers
  | .timers, s => (s.mem.silence, s.mem.roll, s.mem.listen, s.mem.leavingByReset, s.mem.lapsedAt)
  | .entries, s => s.frames.slots.map Slot.bare
  | .parts, s => s.partAt
  | .h, s => s.frames.h
  | .channels, s => s.frames.channels
  | .rotation, s => s.frames.rotation
  | .lostGrant, s => s.frames.lostGrant
  | .gate, s => (s.frames.gateOpen, s.frames.gateFrame, s.frames.resume, s.frames.founded)
  | .turn, s => (s.delivery.turn, s.delivery.lastTap)
  | .port, s => s.delivery.port
  | .link, s => s.delivery.linkUp
  | .flushCount, s => s.delivery.flushCount
  | .handled, s => s.delivery.handled
  | .store, s => s.delivery.store
  | .waiting, s => s.delivery.waiting
  | .records, s => s.records
  | .outputs, s => s.signals.outputs
  | .inputs, s => (s.signals.filtered, s.signals.sampled)
  | .area, s => (s.window.area, s.window.digest)
  | .registers, s => (s.window.taking, s.window.command, s.window.args, s.window.result, s.window.collision)
  | .faults, s => s.window.faults
  | .events, s => (s.window.events, s.window.eventNumber)
  | .checks, s => (s.window.tkflt, s.window.nextCheck)
  | .posCtr, s => s.ctr.pos
  | .tapsCtr, s => s.ctr.taps
  | .trunkCtr, s => s.ctr.trunk
  | .queueCtr, s => s.ctr.queue
  | .memCtr, s => s.ctr.mem
  | .framesCtr, s => s.ctr.frames
  | .deliveryCtr, s => s.ctr.delivery
  | .recordsCtr, s => s.ctr.records
  | .inputsCtr, s => s.ctr.inputs
  | .signalsCtr, s => s.ctr.signals
  | .outputsCtr, s => s.ctr.outputs
  | .windowCtr, s => { s.ctr.window with eventsOverwritten := 0, noticesLost := 0 }
  | .noticeCtr, s => (s.ctr.window.eventsOverwritten, s.ctr.window.noticesLost)
  | .raisesCtr, s => s.ctr.raises

/-! ### The relation -/

theorem getElem_map_fin {α β : Type} {n : Nat} (f : α → β) (v : Vector α n) (i : Fin n) : (v.map f)[i] = f v[i] :=
  Vector.getElem_map ..

theorem map_eq_getElem {α β : Type} {n : Nat} {f : α → β} {v w : Vector α n} (same : v.map f = w.map f) (i : Fin n) :
    f v[i] = f w[i] := by
  exact ((getElem_map_fin f v i).symm.trans (congrArg (·[i]) same)).trans (getElem_map_fin f w i)

/-- From `s` to `u` no piece has changed but those of `S`. -/
def Only (S : List Piece) (s u : State) : Prop := ∀ p : Piece, p ∉ S → p.view u = p.view s

namespace Only

theorem refl (S : List Piece) (s : State) : Only S s s := fun _ _ => rfl

theorem trans {S : List Piece} {s u v : State} (hu : Only S s u) (hv : Only S u v) : Only S s v := fun p out =>
  (hv p out).trans (hu p out)

theorem mono {S T : List Piece} {s u : State} (h : Only T s u) (fit : T ⊆ S) : Only S s u := fun p out =>
  h p fun within => out (fit within)

/-- The next operation, whose pieces are among those that may change. -/
theorem next {S T : List Piece} {s u v : State} (hu : Only S s u) (hv : Only T u v)
    (fit : T ⊆ S := by decide) : Only S s v := hu.trans (hv.mono fit)

theorem foldl {α : Type} {S : List Piece} {f : State → α → State} (hf : ∀ u a, Only S u (f u a)) (l : List α)
    (s : State) : Only S s (l.foldl f s) := by
  induction l generalizing s with
  | nil => exact refl S s
  | cons a l ih => exact (hf s a).trans (ih _)

theorem ite {p : Prop} [Decidable p] {S : List Piece} {s u v : State} (yes : p → Only S s u) (no : ¬ p → Only S s v) :
    Only S s (if p then u else v) := by
  split
  · next hp => exact yes hp
  · next hp => exact no hp

section Values

variable {S : List Piece} {s u : State} (h : Only S s u)
include h

/-- The position unit but for its mode. -/
theorem pos_eq (out : .position ∉ S := by decide) : u.pos = { s.pos with mode := u.pos.mode } :=
  congrArg (fun p : Position => { p with mode := u.pos.mode }) (h .position out)

theorem pos_same (out : .position ∉ S := by decide) (out' : .mode ∉ S := by decide) : u.pos = s.pos :=
  (h.pos_eq out).trans (by rw [show u.pos.mode = s.pos.mode from h .mode out'])

/-- The trunk port but for its veto run. -/
theorem trunk_eq (out : .trunk ∉ S := by decide) : u.trunk = { s.trunk with vetoRun := u.trunk.vetoRun } :=
  congrArg (fun t : Trunk => { t with vetoRun := u.trunk.vetoRun }) (h .trunk out)

theorem trunk_same (out : .trunk ∉ S := by decide) (out' : .vetoRun ∉ S := by decide) : u.trunk = s.trunk :=
  (h.trunk_eq out).trans (by rw [show u.trunk.vetoRun = s.trunk.vetoRun from h .vetoRun out'])

theorem body_eq (t : Tap) (out : .tapBodies ∉ S := by decide) : (u.taps[t]).body = (s.taps[t]).body :=
  map_eq_getElem (h .tapBodies out) t

/-- A tap but for its line queue. -/
theorem tap_eq (t : Tap) (out : .tapBodies ∉ S := by decide) :
    u.taps[t] = { s.taps[t] with lines := (u.taps[t]).lines } :=
  congrArg (fun x : TapState => { x with lines := (u.taps[t]).lines }) (h.body_eq t out)

theorem lines_eq (t : Tap) (out : .lines ∉ S := by decide) : (u.taps[t]).lines = (s.taps[t]).lines :=
  map_eq_getElem (h .lines out) t

/-- The membership unit but for its peers and timers. -/
theorem roster_eq (out : .roster ∉ S := by decide) : u.mem.number = s.mem.number ∧ u.mem.roster = s.mem.roster
    ∧ u.mem.joinFrame = s.mem.joinFrame ∧ u.mem.heardRoll = s.mem.heardRoll ∧ u.mem.latestDigest = s.mem.latestDigest := by
  have same : (u.mem.number, u.mem.roster, u.mem.joinFrame, u.mem.heardRoll, u.mem.latestDigest) = _ := h .roster out
  simpa only [Piece.view, Prod.mk.injEq] using same

theorem timers_eq (out : .timers ∉ S := by decide) : u.mem.silence = s.mem.silence ∧ u.mem.roll = s.mem.roll
    ∧ u.mem.listen = s.mem.listen ∧ u.mem.leavingByReset = s.mem.leavingByReset ∧ u.mem.lapsedAt = s.mem.lapsedAt := by
  have same : (u.mem.silence, u.mem.roll, u.mem.listen, u.mem.leavingByReset, u.mem.lapsedAt) = _ := h .timers out
  simpa only [Piece.view, Prod.mk.injEq] using same

theorem mem_eq (out : .roster ∉ S := by decide) (out' : .timers ∉ S := by decide) (out'' : .peers ∉ S := by decide) :
    u.mem = { s.mem with state := u.mem.state } := by
  obtain ⟨number, roster, joinFrame, heardRoll, latestDigest⟩ := h.roster_eq out
  obtain ⟨silence, roll, listen, leavingByReset, lapsedAt⟩ := h.timers_eq out'
  have peers : u.mem.peers = s.mem.peers := h .peers out''
  dsimp only
  rw [← number, ← roster, ← joinFrame, ← heardRoll, ← latestDigest, ← silence, ← roll, ← listen, ← leavingByReset,
    ← lapsedAt, ← peers]

theorem mem_same (out : .roster ∉ S := by decide) (out' : .timers ∉ S := by decide) (out'' : .peers ∉ S := by decide)
    (out''' : .state ∉ S := by decide) : u.mem = s.mem :=
  (h.mem_eq out out' out'').trans (by rw [show u.mem.state = s.mem.state from h .state out'''])

theorem signals_same (out : .outputs ∉ S := by decide) (out' : .inputs ∉ S := by decide) : u.signals = s.signals := by
  have outputs : u.signals.outputs = s.signals.outputs := h .outputs out
  have inputs : (u.signals.filtered, u.signals.sampled) = (s.signals.filtered, s.signals.sampled) := h .inputs out'
  obtain ⟨filtered, sampled⟩ := Prod.mk.inj inputs
  calc u.signals = ⟨u.signals.filtered, u.signals.sampled, u.signals.outputs⟩ := rfl
    _ = s.signals := by rw [outputs, filtered, sampled]

/-- The frame unit but for its table. -/
theorem frames_eq (h_out : .h ∉ S := by decide) (channels_out : .channels ∉ S := by decide)
    (rotation_out : .rotation ∉ S := by decide) (lost_out : .lostGrant ∉ S := by decide)
    (gate_out : .gate ∉ S := by decide) : u.frames = { s.frames with slots := u.frames.slots } := by
  have level : u.frames.h = s.frames.h := h .h h_out
  have channels : u.frames.channels = s.frames.channels := h .channels channels_out
  have rotation : u.frames.rotation = s.frames.rotation := h .rotation rotation_out
  have lost : u.frames.lostGrant = s.frames.lostGrant := h .lostGrant lost_out
  have gate : (u.frames.gateOpen, u.frames.gateFrame, u.frames.resume, u.frames.founded) = _ := h .gate gate_out
  simp only [Piece.view, Prod.mk.injEq] at gate
  obtain ⟨isOpen, frame, resume, founded⟩ := gate
  dsimp only
  rw [← level, ← channels, ← rotation, ← lost, ← isOpen, ← frame, ← resume, ← founded]

theorem area_eq (out : .area ∉ S := by decide) : u.area = s.area ∧ u.window.digest = s.window.digest := by
  have same : (u.window.area, u.window.digest) = _ := h .area out
  exact Prod.mk.inj same

/-- The window but for what records and notices write. -/
theorem window_eq (area_out : .area ∉ S := by decide) (registers_out : .registers ∉ S := by decide)
    (checks_out : .checks ∉ S := by decide) : u.window = { s.window with
      faults := u.window.faults, events := u.window.events, eventNumber := u.window.eventNumber } := by
  obtain ⟨area, digest⟩ := h.area_eq area_out
  have registers : (u.window.taking, u.window.command, u.window.args, u.window.result, u.window.collision) = _ :=
    h .registers registers_out
  have checks : (u.window.tkflt, u.window.nextCheck) = _ := h .checks checks_out
  simp only [Piece.view, Prod.mk.injEq] at registers checks
  obtain ⟨taking, command, args, result, collision⟩ := registers
  obtain ⟨tkflt, nextCheck⟩ := checks
  have area' : u.window.area = s.window.area := area
  dsimp only
  rw [← area', ← digest, ← taking, ← command, ← args, ← result, ← collision, ← tkflt, ← nextCheck]

/-- The legs but for their own parts. -/
theorem leg_bare (i : Fin 8) (j : Fin 2) (out : .entries ∉ S := by decide) :
    (u.legAt i j).map Leg.bare = (s.legAt i j).map Leg.bare := by
  have bared (x : Slot) : (x.bare.entry.map fun e => e.legs[j]) = (x.entry.map fun e => e.legs[j]).map Leg.bare := by
    cases x <;> simp [Slot.bare, Slot.entry]
  have same : (u.frames.slots[i]).bare = (s.frames.slots[i]).bare := map_eq_getElem (h .entries out) i
  unfold State.legAt
  rw [← bared, ← bared, same]

theorem leg_eq {i : Fin 8} {j : Fin 2} {l : Leg} (leg : s.legAt i j = some l) (out : .entries ∉ S := by decide) :
    ∃ l', u.legAt i j = some l' ∧ l = { l' with own := l.own } := by
  have same := h.leg_bare i j out
  rw [leg, Option.map_some, Option.map_eq_some_iff] at same
  obtain ⟨l', leg', bare⟩ := same
  exact ⟨l', leg', congrArg (fun x : Leg => { x with own := l.own }) bare.symm⟩

/-- What stands in a slot but for own parts and legs. -/
theorem slot_frame (i : Fin 8) (out : .entries ∉ S := by decide) :
    (u.frames.slots[i]).frame = (s.frames.slots[i]).frame := by
  have bared (x : Slot) : x.bare.frame = x.frame := by cases x <;> rfl
  rw [← bared, ← bared (s.frames.slots[i]), map_eq_getElem (h .entries out) i]

end Values

end Only

end Sys2Proof.Machine

/-! The pieces that each operation touches: records and notices, the transmit queue, the tables, legs and records, line
delivery. -/

namespace Sys2Proof.Machine

-- One proof at a time: the proofs of many statements at once take more threads than the memory holds.
set_option Elab.async false

/-! ### Counters -/

theorem bumpPosition_only (s : State) (f : PositionCounters → PositionCounters) :
    Only [.posCtr] s (s.bump (countPosition f)) := by
  intro p out
  cases p
  case posCtr => exact absurd (List.mem_cons_self ..) out
  all_goals rfl

theorem bumpTap_only (s : State) (t : Tap) (f : TapCounters → TapCounters) :
    Only [.tapsCtr] s (s.bump (countTap t f)) := by
  intro p out
  cases p
  case tapsCtr => exact absurd (List.mem_cons_self ..) out
  all_goals rfl

theorem bumpTrunk_only (s : State) (f : TrunkCounters → TrunkCounters) :
    Only [.trunkCtr] s (s.bump (countTrunk f)) := by
  intro p out
  cases p
  case trunkCtr => exact absurd (List.mem_cons_self ..) out
  all_goals rfl

theorem bumpQueue_only (s : State) (f : QueueCounters → QueueCounters) :
    Only [.queueCtr] s (s.bump (countQueue f)) := by
  intro p out
  cases p
  case queueCtr => exact absurd (List.mem_cons_self ..) out
  all_goals rfl

theorem bumpMembership_only (s : State) (f : MembershipCounters → MembershipCounters) :
    Only [.memCtr] s (s.bump (countMembership f)) := by
  intro p out
  cases p
  case memCtr => exact absurd (List.mem_cons_self ..) out
  all_goals rfl

theorem bumpFrames_only (s : State) (f : FrameCounters → FrameCounters) :
    Only [.framesCtr] s (s.bump (countFrames f)) := by
  intro p out
  cases p
  case framesCtr => exact absurd (List.mem_cons_self ..) out
  all_goals rfl

theorem bumpDelivery_only (s : State) (f : DeliveryCounters → DeliveryCounters) :
    Only [.deliveryCtr] s (s.bump (countDelivery f)) := by
  intro p out
  cases p
  case deliveryCtr => exact absurd (List.mem_cons_self ..) out
  all_goals rfl

theorem bumpRecords_only (s : State) (f : RecordCounters → RecordCounters) :
    Only [.recordsCtr] s (s.bump (countRecords f)) := by
  intro p out
  cases p
  case recordsCtr => exact absurd (List.mem_cons_self ..) out
  all_goals rfl

theorem bumpSignals_only (s : State) (f : SignalCounters → SignalCounters) :
    Only [.signalsCtr] s (s.bump (countSignals f)) := by
  intro p out
  cases p
  case signalsCtr => exact absurd (List.mem_cons_self ..) out
  all_goals rfl

theorem bumpOutput_only (s : State) (j : Fin 4) (f : OutputCounters → OutputCounters) :
    Only [.outputsCtr] s (s.bump (countOutput j f)) := by
  intro p out
  cases p
  case outputsCtr => exact absurd (List.mem_cons_self ..) out
  all_goals rfl

theorem bumpWindow_only (s : State) (f : WindowCounters → WindowCounters) :
    Only [.windowCtr, .noticeCtr] s (s.bump (countWindow f)) := by
  intro p out
  cases p
  case windowCtr => exact absurd (List.mem_cons_self ..) out
  case noticeCtr => exact absurd (by decide) out
  all_goals rfl

/-- A count of records or of notices: the window's other counters stay. -/
theorem bumpNotices_only (s : State) (f : WindowCounters → WindowCounters)
    (others : ∀ c, { f c with eventsOverwritten := 0, noticesLost := 0 }
      = { c with eventsOverwritten := 0, noticesLost := 0 }) : Only [.noticeCtr] s (s.bump (countWindow f)) := by
  intro p out
  cases p
  case noticeCtr => exact absurd (List.mem_cons_self ..) out
  case windowCtr => exact others s.ctr.window
  all_goals rfl

/-! ### Records and notices -/

theorem present_only (s : State) (r : PortRequest) : Only [.port] s (s.present r) := by
  intro p out
  cases p
  case port => exact absurd (List.mem_cons_self ..) out
  all_goals rfl

theorem notice_only (s : State) : Only [.port, .noticeCtr] s s.notice := by
  unfold State.notice
  refine .ite (fun _ => ?_) fun _ => ?_
  · exact (present_only s _).mono (by decide)
  · exact Only.mono (T := [.noticeCtr]) (bumpNotices_only s _ fun _ => rfl) (by decide)

theorem setEvents_only (s : State) (l : List Event) (n : Word) :
    Only [.events] s { s with window := { s.window with events := l, eventNumber := n } } := by
  intro p out
  cases p
  case events => exact absurd (List.mem_cons_self ..) out
  all_goals rfl

theorem event_only (s : State) (k : EventKind) : Only [.events, .noticeCtr] s (s.event k) := by
  unfold State.event
  refine .ite (fun _ => ?_) fun _ => ?_
  · exact (setEvents_only s _ _).mono (by decide)
  · exact ((setEvents_only s _ _).mono (by decide)).next (bumpNotices_only _ _ fun _ => rfl)

theorem eventNoticed_only (s : State) (k : EventKind) (enabled : Bool) :
    Only [.port, .events, .noticeCtr] s (s.eventNoticed k enabled) := by
  have recorded := (event_only s k).mono (S := [.port, .events, .noticeCtr]) (by decide)
  exact .ite (fun _ => recorded.next (notice_only _)) fun _ => recorded

/-- The pieces that a raise touches. -/
def raisePieces : List Piece := [.faults, .port, .events, .noticeCtr, .raisesCtr]

theorem flag_only (s : State) (k : FaultKind) : Only [.faults, .raisesCtr] s ({ s with window := { s.window with
    faults := s.window.faults ||| (1#16 <<< k.bit.val) } }.bump (countRaise k)) := by
  intro p out
  cases p
  case faults => exact absurd (List.mem_cons_self ..) out
  case raisesCtr => exact absurd (by decide) out
  all_goals rfl

theorem raise_only (s : State) (k : FaultKind) : Only raisePieces s (s.raise k) := by
  have flagged := (flag_only s k).mono (S := raisePieces) (by decide)
  unfold State.raise
  exact .ite (fun _ => flagged) fun _ => flagged.next (eventNoticed_only _ _ _)

theorem setState_only (s : State) (st : StationState) : Only [.state, .memCtr] s ({ s with
    mem := { s.mem with state := st } }.bump
      fun c => { c with mem := { c.mem with stateChanges := c.mem.stateChanges + 1 } }) := by
  intro p out
  cases p
  case state => exact absurd (List.mem_cons_self ..) out
  case memCtr => exact absurd (by decide) out
  all_goals rfl

/-- The pieces that a change of the station's state touches. -/
def changePieces : List Piece := [.state, .memCtr, .port, .events, .noticeCtr]

theorem changeState_only (s : State) (st : StationState) : Only changePieces s (s.changeState st) :=
  ((setState_only s st).mono (by decide)).next (eventNoticed_only _ _ _)

/-! ### The transmit queue -/

theorem setTx_only (s : State) (x : TransmitQueue) : Only [.tx] s { s with tx := x } := by
  intro p out
  cases p
  case tx => exact absurd (List.mem_cons_self ..) out
  all_goals rfl

theorem setPending_only (s : State) (k : NoteKind) (l : List Pending) : Only [.tx] s (s.setPending k l) :=
  setTx_only s _

theorem joinList_only (s : State) (c : Claim) : Only [.tx, .queueCtr] s (s.joinList c) :=
  ((setPending_only s _ _).mono (by decide)).next (bumpQueue_only _ _)

theorem claimMet_only (s : State) : Only [.queueCtr] s s.claimMet := bumpQueue_only s _

theorem claimRefused_only (s : State) : Only [.queueCtr] s s.claimRefused := bumpQueue_only s _

theorem claimFifo_only (s : State) (c : Claim) : Only [.tx, .queueCtr] s (s.claimFifo c) :=
  .ite (fun _ => joinList_only s c) fun _ => (claimRefused_only s).mono (by decide)

theorem claimDrop_only (s : State) (p : Station) : Only [.tx, .queueCtr] s (s.claimDrop p) :=
  .ite (fun _ => (claimMet_only s).mono (by decide)) fun _ => claimFifo_only s _

theorem claimRoll_only (s : State) : Only [.tx, .queueCtr] s s.claimRoll :=
  .ite (fun _ => joinList_only s _) fun _ => (claimMet_only s).mono (by decide)

theorem lostGrantBy_only (s : State) (c : Claim) : Only [.lostGrant] s (s.lostGrantBy c) := by
  cases c with
  | grant channel seq base =>
    intro p out
    cases p
    case lostGrant => exact absurd (List.mem_cons_self ..) out
    all_goals rfl
  | _ => exact .refl _ _

/-- The pieces that claims and withdrawals touch. -/
def claimPieces : List Piece := [.tx, .queueCtr, .lostGrant]

theorem withdrawn_only (s : State) (n : Pending) (byReset : Bool) :
    Only [.queueCtr, .lostGrant] s (s.withdrawn n byReset) := by
  have counted := (bumpQueue_only s fun q => { q with notesWithdrawn := q.notesWithdrawn + BitVec.ofNat 32 1 }).mono
    (S := [.queueCtr, .lostGrant]) (by decide)
  exact .ite (fun _ => counted) fun _ => counted.next (lostGrantBy_only _ _)

theorem claimOpening_only (s : State) (k : Nat) : Only claimPieces s (s.claimOpening k) := by
  unfold State.claimOpening
  split
  · exact (joinList_only s _).mono (by decide)
  · split
    · refine .ite (fun _ => (claimMet_only s).mono (by decide)) fun _ => .ite (fun _ => ?_) fun _ => ?_
      · exact (claimRefused_only s).mono (by decide)
      · exact (((withdrawn_only s _ _).mono (by decide)).next (setPending_only _ _ _)).next (joinList_only _ _)
    all_goals exact (claimRefused_only s).mono (by decide)

theorem claimRoster_only (s : State) (c : Claim) : Only claimPieces s (s.claimRoster c) := by
  unfold State.claimRoster
  split
  · exact (joinList_only s _).mono (by decide)
  · refine .ite (fun _ => (claimMet_only s).mono (by decide)) fun _ => .ite (fun _ => ?_) fun _ => ?_
    · exact (setTx_only s _).mono (by decide)
    · exact (((withdrawn_only s _ _).mono (by decide)).next (setPending_only _ _ _)).next (joinList_only _ _)

theorem withdrawFrom_only (s : State) (k : NoteKind) (doom : Doom) (hit : Pending → Bool) :
    Only claimPieces s (s.withdrawFrom k doom hit) := by
  have gone (l : List Pending) (u : State) :
      Only claimPieces u (l.foldl (fun s n => s.withdrawn n (doom == .reset)) u) :=
    .foldl (fun v n => (withdrawn_only v n _).mono (by decide)) l u
  unfold State.withdrawFrom
  dsimp only
  split <;> exact ((setPending_only s _ _).mono (by decide)).trans (gone _ _)

theorem withdrawAll_only (s : State) (doom : Doom) (keepDone : Bool) :
    Only claimPieces s (s.withdrawAll doom keepDone) := by
  have emptied := Only.foldl (fun v k => withdrawFrom_only v k doom fun _ => true)
    (NoteKind.all.filter fun k => !(keepDone && k == .done)) s
  exact .ite (fun _ => emptied) fun _ => emptied.next (setTx_only _ _)

theorem keepLeaveClaimed_only (s : State) : Only claimPieces s s.keepLeaveClaimed :=
  .ite (fun _ => claimRoster_only s _) fun _ => .refl _ s

/-! ### Taps and the frame table -/

theorem map_set_of_eq {α β : Type} {n : Nat} (f : α → β) (v : Vector α n) (i : Fin n) (x : α) (same : f x = f v[i]) :
    (v.set i x).map f = v.map f := by
  refine Vector.ext fun j hj => ?_
  rw [Vector.getElem_map, Vector.getElem_map, Vector.getElem_set]
  split
  case isTrue at_i =>
    subst at_i
    exact same
  case isFalse => rfl

theorem setTap_only (s : State) (t : Tap) (x : TapState) : Only [.lines, .tapBodies] s (s.setTap t x) := by
  intro p out
  cases p
  case lines => exact absurd (List.mem_cons_self ..) out
  case tapBodies => exact absurd (by decide) out
  all_goals rfl

/-- A tap that keeps its line queue. -/
theorem setTap_only_body (s : State) (t : Tap) (x : TapState) (lines : x.lines = (s.taps[t]).lines) :
    Only [.tapBodies] s (s.setTap t x) := by
  intro p out
  by_cases at_lines : p = .lines
  · subst at_lines
    exact map_set_of_eq TapState.lines s.taps t x lines
  · refine setTap_only s t x p fun within => ?_
    rw [List.mem_cons] at within
    exact within.elim at_lines out

theorem setLines_only (s : State) (t : Tap) (lines : List Line) : Only [.lines] s (s.setLines t lines) := by
  intro p out
  by_cases at_bodies : p = .tapBodies
  · subst at_bodies
    exact map_set_of_eq TapState.body s.taps t _ rfl
  · refine setTap_only s t _ p fun within => ?_
    rw [List.mem_cons, List.mem_singleton] at within
    exact within.elim (fun lines => out (List.mem_singleton.mpr lines)) at_bodies

theorem setPort_only (s : State) (t : Tap) (port : LinePort) : Only [.tapBodies] s (s.setPort t port) :=
  setTap_only_body s t _ rfl

theorem setSlot_only (s : State) (i : Fin 8) (x : Slot) : Only [.entries, .parts] s (s.setSlot i x) := by
  intro p out
  cases p
  case entries => exact absurd (List.mem_cons_self ..) out
  case parts => exact absurd (by decide) out
  all_goals rfl

theorem modifyLeg_only (s : State) (i : Fin 8) (j : Fin 2) (f : Leg → Leg) :
    Only [.entries, .parts] s (s.modifyLeg i j f) := by
  unfold State.modifyLeg
  split
  · exact setSlot_only s i _
  all_goals exact .refl _ s

theorem modifyPart_only (s : State) (i : Fin 8) (j : Fin 2) (f : OwnPart → OwnPart) :
    Only [.parts] s (s.modifyPart i j f) := by
  unfold State.modifyPart State.modifyLeg
  split
  case h_1 e known =>
    intro p out
    by_cases at_entries : p = .entries
    · subst at_entries
      refine map_set_of_eq Slot.bare s.frames.slots i _ ?_
      have legs : (e.setLeg j { e.legs[j] with own := e.legs[j].own.map f }).legs.map Leg.bare = e.legs.map Leg.bare :=
        map_set_of_eq Leg.bare e.legs j _ rfl
      rw [known]
      simp only [Slot.bare, Entry.setLeg]
      exact congrArg (fun legs => Slot.known { e with legs := legs }) legs
    · refine setSlot_only s i _ p fun within => ?_
      rw [List.mem_cons] at within
      exact within.elim at_entries out
  all_goals exact .refl _ s

/-! ### Own parts -/

theorem filterPort_only (s : State) (kept : PortRequest → Bool) :
    Only [.port] s { s with delivery := { s.delivery with port := s.delivery.port.filter kept } } := by
  intro p out
  cases p
  case port => exact absurd (List.mem_cons_self ..) out
  all_goals rfl

theorem dropFlush_only (s : State) (i : Fin 8) (j : Fin 2) : Only [.port] s (s.dropFlush i j) := filterPort_only s _

theorem claimDone_only (s : State) (i : Fin 8) (j : Fin 2) (delivered : Bool) :
    Only [.tx, .queueCtr] s (s.claimDone i j delivered) := by
  unfold State.claimDone
  split
  · exact claimFifo_only s _
  · exact .refl _ s

theorem markVoid_only (s : State) (i : Fin 8) (j : Fin 2) : Only [.parts, .port] s (s.markVoid i j) :=
  ((modifyPart_only s i j _).mono (by decide)).next (dropFlush_only _ i j)

/-- The pieces that the end of an own part touches. -/
def voidPieces : List Piece := [.parts, .port, .tx, .queueCtr, .deliveryCtr]

theorem voidPart_only (s : State) (i : Fin 8) (j : Fin 2) : Only voidPieces s (s.voidPart i j) :=
  (((markVoid_only s i j).mono (by decide)).next (claimDone_only _ i j false)).next (bumpDelivery_only _ _)

theorem reportPart_only (s : State) (i : Fin 8) (j : Fin 2) :
    Only [.parts, .tx, .queueCtr, .deliveryCtr] s (s.reportPart i j) :=
  (((modifyPart_only s i j _).mono (by decide)).next (claimDone_only _ i j true)).next (bumpDelivery_only _ _)

theorem startLegTimers_only (s : State) : Only [.parts] s s.startLegTimers :=
  .ite (fun _ => .refl _ s) fun _ => .foldl (fun v _ => .ite (fun _ => modifyPart_only v _ _ _) fun _ => .refl _ v) _ s

theorem stopLegTimers_only (s : State) : Only [.parts] s s.stopLegTimers :=
  .foldl (fun v _ => modifyPart_only v _ _ _) _ s

theorem closeTurn_only (s : State) (tu : Option Turn) (last : Tap) :
    Only [.turn] s { s with delivery := { s.delivery with turn := tu, lastTap := last } } := by
  intro p out
  cases p
  case turn => exact absurd (List.mem_cons_self ..) out
  all_goals rfl

theorem dropTurn_only (s : State) : Only [.turn, .deliveryCtr] s s.dropTurn := by
  unfold State.dropTurn
  split
  · exact .refl _ s
  case h_2 tu _ => exact ((closeTurn_only s none tu.tap).mono (by decide)).next (bumpDelivery_only _ _)

/-! ### Legs and records -/

theorem setRecords_only (s : State) (x : Records) : Only [.records] s { s with records := x } := by
  intro p out
  cases p
  case records => exact absurd (List.mem_cons_self ..) out
  all_goals rfl

theorem beginRecord_only (s : State) : Only [.records, .port] s s.beginRecord := by
  unfold State.beginRecord
  split
  · exact (setRecords_only s _).mono (by decide)
  · exact ((setRecords_only s _).mono (by decide)).next (present_only _ _)

theorem offerRecord_only (s : State) (r : FrameRecord) : Only [.records, .port, .recordsCtr] s (s.offerRecord r) := by
  refine .ite (fun _ => (bumpRecords_only s _).mono (by decide)) fun _ => .ite (fun _ => ?_) fun _ => ?_
  · have queued := ((setRecords_only s { s.records with queue := s.records.queue ++ [r] }).mono
      (S := [.records, .port, .recordsCtr]) (by decide)).next
        (bumpRecords_only _ fun c => { c with recordsQueued := c.recordsQueued + 1 })
    exact .ite (fun _ => queued.next (beginRecord_only _)) fun _ => queued
  · exact (bumpRecords_only s _).mono (by decide)

/-- The pieces that the completion of legs touches. -/
def legPieces : List Piece := [.entries, .parts, .port, .records, .recordsCtr]

theorem retireLeg_only (s : State) (i : Fin 8) (j : Fin 2) : Only legPieces s (s.retireLeg i j) := by
  unfold State.retireLeg
  split
  · have counted := ((dropFlush_only s i j).mono (S := legPieces) (by decide)).next
      (bumpRecords_only _ fun c => { c with legsRetired := c.legsRetired + 1 })
    exact .ite (fun _ => (counted.next (setSlot_only _ i _)).next (bumpRecords_only _ _)) fun _ =>
      counted.next (setSlot_only _ i _)
  all_goals exact .refl _ s

theorem postLeg_only (s : State) (i : Fin 8) (j : Fin 2) (poster : Option Station) :
    Only [.records, .port, .recordsCtr] s (s.postLeg i j poster) := by
  unfold State.postLeg
  split
  · exact (bumpRecords_only s _).mono (by decide)
  · refine .ite (fun _ => ?_) fun _ => .refl _ s
    split
    · exact ((bumpRecords_only s _).mono (by decide)).next (offerRecord_only _ _)
    all_goals exact .refl _ s

theorem testLeg_only (s : State) (i : Fin 8) (j : Fin 2) (poster : Option Station) (byRemoval : Bool) :
    Only legPieces s (s.testLeg i j poster byRemoval) := by
  unfold State.testLeg
  split
  · refine .ite (fun _ => ?_) fun _ => .refl _ s
    exact (((bumpRecords_only s _).mono (by decide)).next (postLeg_only _ i j poster)).next (retireLeg_only _ i j)
  · exact .refl _ s

theorem removeFromLegs_only (s : State) (p : Station) (poster : Option Station) :
    Only legPieces s (s.removeFromLegs p poster) := by
  refine .foldl (fun v _ => ?_) _ s
  dsimp only
  split
  · refine .ite (fun _ => ?_) fun _ => .refl _ v
    exact (((modifyLeg_only v _ _ _).mono (by decide)).next (bumpRecords_only _ _)).next (testLeg_only _ _ _ _ _)
  · exact .refl _ v

theorem dropHeadRecord_only (s : State) : Only [.records, .port] s s.dropHeadRecord :=
  ((setRecords_only s _).mono (by decide)).next (beginRecord_only _)

theorem emptyRecords_only (s : State) : Only [.records, .port] s s.emptyRecords :=
  ((setRecords_only s { queue := [], step := .idle }).mono (by decide)).next
    (filterPort_only { s with records := { queue := [], step := .idle } } _)

theorem applyDone_only (s : State) (sender : Station) (frame : BitVec 16) (stream : Fin 2) (delivered : Bool)
    (gapRows : BitVec 17) : Only legPieces s (s.applyDone sender frame stream delivered gapRows) := by
  have ignored := (bumpRecords_only s fun c => { c with donesIgnored := c.donesIgnored + 1 }).mono
    (S := legPieces) (by decide)
  unfold State.applyDone
  dsimp only
  split
  · exact ignored
  · refine .ite (fun _ => ?_) fun _ => ignored
    exact (((modifyLeg_only s _ _ _).mono (by decide)).next (bumpRecords_only _ _)).next (testLeg_only _ _ _ _ _)

/-! ### Head decisions and ends of parts -/

theorem setWaiting_only (s : State) (t : Tap) (b : Bool) : Only [.waiting] s (s.setWaiting t b) := by
  intro p out
  cases p
  case waiting => exact absurd (List.mem_cons_self ..) out
  all_goals rfl

theorem bumpDiscard_only (s : State) (why : DiscardCase) : Only [.deliveryCtr] s (s.bump (countDiscard why)) := by
  cases why <;> exact bumpDelivery_only s _

theorem discardHeads_only (t : Tap) (lines : List Line) (s : State) :
    Only [.lines, .waiting, .deliveryCtr] s (State.discardHeads t lines s) := by
  induction lines generalizing s with
  | nil => exact .refl _ s
  | cons l rest ih =>
    unfold State.discardHeads
    split
    · exact ((((setLines_only s t rest).mono (by decide)).next (setWaiting_only _ t false)).next
        (bumpDiscard_only _ _)).trans (ih _)
    all_goals exact .refl _ s

theorem judgeWait_only (s : State) (t : Tap) : Only [.waiting, .deliveryCtr] s (s.judgeWait t) := by
  have set (b : Bool) := (setWaiting_only s t b).mono (S := [.waiting, .deliveryCtr]) (by decide)
  unfold State.judgeWait
  split
  · exact set false
  · exact .ite (fun _ => .ite (fun _ => .refl _ s) fun _ => (set true).next (bumpDelivery_only _ _)) fun _ => set false

theorem tapDone_only (s : State) (t : Tap) (k : Nat) : Only [.parts] s (s.tapDone t k) :=
  .foldl (fun v _ => .ite (fun _ => modifyPart_only v _ _ _) fun _ => .refl _ v) _ s

theorem finishMarked_only (s : State) (t : Tap) : Only [.parts] s (s.finishMarked t) :=
  .foldl (fun v _ => .ite (fun _ => tapDone_only v t _) fun _ => .refl _ v) _ s

theorem startFlushes_only (s : State) : Only [.parts, .port] s s.startFlushes := by
  refine .foldl (fun v _ => ?_) _ s
  dsimp only
  split
  · exact .ite (fun _ => ((modifyPart_only v _ _ _).mono (by decide)).next (present_only _ _)) fun _ => .refl _ v
  · exact .refl _ v

theorem endCheck_only (s : State) (t : Tap) : Only [.parts, .port] s (s.endCheck t) :=
  .ite (fun _ => .refl _ s) fun _ => ((finishMarked_only s t).mono (by decide)).next (startFlushes_only _)

theorem endChecks_only (s : State) : Only [.parts, .port] s s.endChecks := (endCheck_only s 0).trans (endCheck_only _ 1)

/-- The pieces that the decisions for the line queues and the checks that follow them touch. -/
def settlePieces : List Piece := [.lines, .waiting, .deliveryCtr, .parts, .port]

theorem settleTap_only (s : State) (t : Tap) : Only settlePieces s (s.settleTap t) := by
  have judged := ((discardHeads_only t (s.taps[t]).lines s).mono (S := settlePieces) (by decide)).next
    (judgeWait_only _ t)
  exact .ite (fun _ => judged.next (endCheck_only _ t)) fun _ => judged

theorem settle_only (s : State) : Only settlePieces s s.settle := (settleTap_only s 0).trans (settleTap_only _ 1)

theorem afterTap_only (s : State) : Only settlePieces s s.afterTap := (settle_only s).next (endChecks_only _)

/-! ### Turns and the host write port -/

theorem setTurn_only (s : State) (tu : Option Turn) : Only [.turn] s (s.setTurn tu) := closeTurn_only s tu s.delivery.lastTap

theorem setHandled_only (s : State) (t : Tap) (n : Nat) : Only [.handled] s (s.setHandled t n) := by
  intro p out
  cases p
  case handled => exact absurd (List.mem_cons_self ..) out
  all_goals rfl

theorem rowFilled_only (s : State) (t : Tap) (r : Nat) : Only [.parts, .handled, .deliveryCtr] s (s.rowFilled t r) := by
  unfold State.rowFilled
  dsimp only
  split
  · exact (((modifyPart_only s _ _ _).mono (by decide)).next (setHandled_only _ t r)).next (bumpDelivery_only _ _)
  · exact ((setHandled_only s t r).mono (by decide)).next (bumpDelivery_only _ _)

theorem endTurn_only (s : State) (tu : Turn) : Only [.turn, .handled, .parts, .port] s (s.endTurn tu) := by
  have closed := (closeTurn_only s none tu.tap).mono (S := [.turn, .handled, .parts, .port]) (by decide)
  unfold State.endTurn
  dsimp only
  split
  · exact ((closed.next (setHandled_only _ _ _)).next (tapDone_only _ _ _)).next (endCheck_only _ _)
  · exact closed.next (endCheck_only _ _)

theorem setLastRequest_only (s : State) (r : Option Request) : Only [.lastRequest] s { s with lastRequest := r } := by
  intro p out
  cases p
  case lastRequest => exact absurd (List.mem_cons_self ..) out
  all_goals rfl

theorem burst_only (s : State) (t : Tap) (i : Fin 8) (j : Fin 2) (r sent : Nat) (pixels : List Byte) :
    Only [.lastRequest, .deliveryCtr] s (s.burst t i j r sent pixels).1 :=
  ((setLastRequest_only s _).mono (by decide)).next (bumpDelivery_only _ _)

theorem storeRow_only (s : State) (t : Tap) (l : Line) : Only [.store] s (s.storeRow t l) := by
  unfold State.storeRow
  split
  · intro p out
    cases p
    case store => exact absurd (List.mem_cons_self ..) out
    all_goals rfl
  · exact .refl _ s

theorem lineWritten_only (s : State) (t : Tap) (l : Line) (i : Fin 8) (j : Fin 2) :
    Only [.store, .parts, .handled, .deliveryCtr] s (s.lineWritten t l i j) :=
  ((((storeRow_only s t l).mono (by decide)).next (modifyPart_only _ i j _)).next (setHandled_only _ t _)).next
    (bumpDelivery_only _ _)

theorem issueFlush_only (s : State) : Only [.flushCount, .lastRequest, .deliveryCtr] s s.issueFlush := by
  intro p out
  cases p
  case flushCount => exact absurd (List.mem_cons_self ..) out
  case lastRequest | deliveryCtr => exact absurd (by decide) out
  all_goals rfl

/-- The pieces that the host write port's work touches. -/
def portPieces : List Piece :=
  [.lastRequest, .lines, .waiting, .deliveryCtr, .parts, .port, .turn, .handled, .store, .flushCount, .records,
    .recordsCtr, .windowCtr, .noticeCtr]

theorem issueRecordClass_only (s : State) (r : PortRequest) : Only portPieces s (s.issueRecordClass r) := by
  cases r with
  | notice address data => exact ((setLastRequest_only s _).mono (by decide)).next (bumpWindow_only _ _)
  | partFlush i j => exact ((issueFlush_only s).mono (by decide)).next (modifyPart_only _ i j _)
  | recordWrite =>
    unfold State.issueRecordClass
    dsimp only
    split
    · exact .refl _ s
    case h_2 rec _ _ =>
      have requested := (setLastRequest_only s (some (.memoryWrite (recordAddress s.area rec) (recordBytes rec)))).mono
        (S := portPieces) (by decide)
      exact (requested.next (setRecords_only _ { s.records with step := .flushWaiting })).next (present_only _ _)
  | recordFlush => exact ((issueFlush_only s).mono (by decide)).next (setRecords_only _ _)
  | recordMessage =>
    unfold State.issueRecordClass
    dsimp only
    split
    · exact .refl _ s
    · exact (((setLastRequest_only s _).mono (by decide)).next (bumpRecords_only _ _)).next (dropHeadRecord_only _)

theorem turnBurst_only (s : State) (tu : Turn) : Only portPieces s (s.turnBurst tu).1 := by
  have issued (i : Fin 8) (j : Fin 2) (r : Nat) (pixels : List Byte) :=
    (burst_only s tu.tap i j r tu.sent pixels).mono (S := portPieces) (by decide)
  unfold State.turnBurst
  split
  case h_1 _ r rest rows =>
    split
    · exact (setTurn_only s _).mono (by decide)
    case h_2 i j _ =>
      have now := issued i j r (s.fillPixels tu.tap r)
      dsimp only
      split
      · split
        · exact (now.next (rowFilled_only _ _ _)).next (endTurn_only _ _)
        · exact (now.next (rowFilled_only _ _ _)).next (setTurn_only _ _)
      · exact now.next (setTurn_only _ _)
  case h_2 l rows line =>
    split
    · exact (dropTurn_only s).mono (by decide)
    case h_2 i j _ =>
      have now := issued i j l.index l.pixels
      dsimp only
      split
      · exact (now.next (lineWritten_only _ _ _ _ _)).next (endTurn_only _ _)
      · exact now.next (setTurn_only _ _)
  case h_3 => exact (endTurn_only s tu).mono (by decide)

theorem startTurn_only (s : State) (t : Tap) : Only portPieces s (s.startTurn t) := by
  have begun {v : State} (start : Only portPieces s v) (rows : List Nat) (line : Option Line) (finish : Option Nat) :
      Only portPieces s (if cfgFill v.area = .skip then
          (rows.foldl (fun s r => s.rowFilled t r) v).setTurn (some { tap := t, rows := [], sent := 0, line, finish })
        else v.setTurn (some { tap := t, rows, sent := 0, line, finish })) :=
    .ite (fun _ => (start.next (Only.foldl (fun v r => rowFilled_only v t r) rows v)).next (setTurn_only _ _)) fun _ =>
      start.next (setTurn_only _ _)
  unfold State.startTurn
  dsimp only
  split
  · exact begun (.refl _ s) _ _ _
  · split
    · exact begun (((setLines_only s t _).mono (by decide)).next (setWaiting_only _ t false)) _ _ _
    · exact .refl _ s

theorem portIssue_only (fuel : Nat) (s : State) : Only portPieces s (State.portIssue fuel s) := by
  refine portIssue_related (R := Only portPieces) (Only.refl _) Only.trans (fun v r rest _ => ?_)
    (fun v tu _ => turnBurst_only v tu) (fun v t _ _ => startTurn_only v t) fuel s
  have taken : Only [.port] v { v with delivery := { v.delivery with port := rest } } := by
    intro p out
    cases p
    case port => exact absurd (List.mem_cons_self ..) out
    all_goals rfl
  exact (taken.mono (by decide)).next (issueRecordClass_only _ r)

theorem cutTurn_only (s : State) (i : Fin 8) (j : Fin 2) : Only [.turn, .deliveryCtr] s (s.cutTurn i j) := by
  obtain same | ⟨tu, tu', dropped, _, _, _, same | same, _⟩ := cutTurn_cases s i j <;> rw [same]
  · exact .refl _ s
  · exact ((bumpDelivery_only s dropped).mono (by decide)).next (closeTurn_only _ none tu.tap)
  · exact ((bumpDelivery_only s dropped).mono (by decide)).next (setTurn_only _ _)

theorem voidParts_only (s : State) : Only voidPieces s s.voidParts := by
  refine .foldl (fun v _ => ?_) _ s
  dsimp only
  split
  · exact .ite (fun _ => voidPart_only v _ _) fun _ => .refl _ v
  · exact .refl _ v

end Sys2Proof.Machine

/-! The pieces that each operation touches: changes of the station's state, signals, frames, taps, the position unit and the
trunk port. -/

namespace Sys2Proof.Machine

-- One proof at a time: the proofs of many statements at once take more threads than the memory holds.
set_option Elab.async false

/-! ### Changes of the station's state -/

theorem setMem_only (s : State) (m : Membership) :
    Only [.state, .roster, .peers, .timers] s { s with mem := m } := by
  intro p out
  cases p
  case state | roster | peers | timers => exact absurd (by decide) out
  all_goals rfl

theorem setPos_only (s : State) (x : Position) : Only [.mode, .position] s { s with pos := x } := by
  intro p out
  cases p
  case mode | position => exact absurd (by decide) out
  all_goals rfl

theorem setMode_only (s : State) (m : PositionMode) : Only [.mode] s { s with pos := { s.pos with mode := m } } := by
  intro p out
  cases p
  case mode => exact absurd (List.mem_cons_self ..) out
  all_goals rfl

/-- The pieces that the entry into LAPSED touches. -/
def lapsePieces : List Piece :=
  [.state, .timers, .mode, .vetoRun, .tx, .lostGrant, .turn, .lines, .waiting, .parts, .port, .events, .memCtr, .queueCtr,
    .deliveryCtr, .noticeCtr]

/-- The values that the entry into LAPSED sets at once. -/
theorem setLapsed_only (s : State) (m : PositionMode) (v : Nat) (x : Membership) (state : x.state = s.mem.state)
    (peers : x.peers = s.mem.peers) (roster : (x.number, x.roster, x.joinFrame, x.heardRoll, x.latestDigest)
      = (s.mem.number, s.mem.roster, s.mem.joinFrame, s.mem.heardRoll, s.mem.latestDigest)) :
    Only [.timers, .mode, .vetoRun] s
      { s with pos := { s.pos with mode := m }, trunk := { s.trunk with vetoRun := v }, mem := x } := by
  intro p out
  cases p
  case timers | mode | vetoRun => exact absurd (by decide) out
  case state => exact state
  case peers => exact peers
  case roster => exact roster
  all_goals rfl

theorem lapse_only (s : State) : Only lapsePieces s s.lapse := by
  have changed := ((changeState_only s .lapsed).mono (S := lapsePieces) (by decide)).next
    (bumpMembership_only _ fun c => { c with lapses := c.lapses + 1 })
  unfold State.lapse
  dsimp only
  generalize (s.changeState .lapsed).bump _ = v at changed ⊢
  refine Only.next ?_ (settle_only _)
  refine Only.next ?_ (claimRoster_only _ _)
  refine Only.next ?_ (stopLegTimers_only _)
  refine Only.next ?_ (dropTurn_only _)
  refine Only.next ?_ (withdrawAll_only _ _ _)
  refine changed.next (setLapsed_only v _ _ _ ?_ ?_ ?_)
  all_goals rfl

theorem lapseFrom_only (s : State) (l : List StationState) : Only lapsePieces s (s.lapseFrom l) :=
  .ite (fun _ => lapse_only s) fun _ => .refl _ s

/-! ### Removals -/

theorem setChannels_only (s : State) (x : Vector Channel 8) :
    Only [.channels] s { s with frames := { s.frames with channels := x } } := by
  intro p out
  cases p
  case channels => exact absurd (List.mem_cons_self ..) out
  all_goals rfl

theorem setChannel_only (s : State) (c : Fin 8) (x : Channel) : Only [.channels] s (s.setChannel c x) :=
  setChannels_only s _

theorem orphanRule_only (s : State) : Only [.channels, .framesCtr] s s.orphanRule :=
  .foldl (fun v _ => .ite (fun _ => ((setChannel_only v _ _).mono (by decide)).next (bumpFrames_only _ _)) fun _ =>
    .refl _ v) _ s

theorem soleRule_only (s : State) : Only [.channels] s s.soleRule :=
  .ite (fun _ => .foldl (fun v _ => .ite (fun _ => .refl _ v) fun _ => setChannel_only v _ _) _ s) fun _ => .refl _ s

theorem draw_only (s : State) (n : Nat) : Only [.draws] s { s with draws := n } := by
  intro p out
  cases p
  case draws => exact absurd (List.mem_cons_self ..) out
  all_goals rfl

theorem memberChecks_only (s : State) : Only [.channels, .framesCtr, .draws] s s.memberChecks := by
  refine .ite (fun _ => ?_) fun _ => .refl _ s
  have drawn := (draw_only s (s.draws + 1)).mono (S := [.channels, .framesCtr, .draws]) (by decide)
  exact .ite (fun _ => (drawn.next (orphanRule_only _)).next (soleRule_only _)) fun _ =>
    (drawn.next (soleRule_only _)).next (orphanRule_only _)

theorem dropFromRoster_only (s : State) (p : Station) : Only [.roster, .peers, .timers] s (s.dropFromRoster p) := by
  intro q out
  cases q
  case roster | peers | timers => exact absurd (by decide) out
  all_goals rfl

/-- The pieces that the removal of a station touches. -/
def removalPieces : List Piece :=
  [.roster, .peers, .timers, .memCtr, .entries, .parts, .port, .records, .recordsCtr, .channels, .framesCtr, .draws]

theorem removeStation_only (s : State) (p : Station) (dropSender : Option Station) :
    Only removalPieces s (s.removeStation p dropSender) := by
  have dropped := (dropFromRoster_only s p).mono (S := removalPieces) (by decide)
  have counted := Only.ite (p := s.mem.state = .member ∨ s.mem.state = .leaving)
    (fun _ => dropped.next (bumpMembership_only _ fun c => { c with removals := c.removals + 1 })) fun _ => dropped
  exact (Only.ite (fun _ => counted) fun _ => counted.next (removeFromLegs_only _ _ _)).next (memberChecks_only _)

/-! ### Signals -/

theorem setOutputState_only (s : State) (j : Fin 4) (o : Output) : Only [.outputs] s (s.setOutputState j o) := by
  intro p out
  cases p
  case outputs => exact absurd (List.mem_cons_self ..) out
  all_goals rfl

/-- The pieces that an output touches which takes a SIGNAL. -/
def outputPieces : List Piece := [.outputs, .outputsCtr, .faults, .port, .events, .noticeCtr, .raisesCtr]

theorem takePulse_only (s : State) (j : Fin 4) (x : Nat) : Only outputPieces s (s.takePulse j x) := by
  have counted (u : State) (f : OutputCounters → OutputCounters) :=
    (bumpOutput_only u j f).mono (S := outputPieces) (by decide)
  have set (o : Output) (f : OutputCounters → OutputCounters) :=
    ((setOutputState_only s j o).mono (S := outputPieces) (by decide)).trans (counted _ f)
  refine .ite (fun _ => counted s _) fun _ => .ite (fun _ => counted s _) fun _ => .ite (fun _ => ?_) fun _ =>
    .ite (fun _ => (counted s _).next (raise_only _ _)) fun _ => ?_
  · exact .ite (fun _ => (set _ _).trans (counted _ _)) fun _ => set _ _
  · exact .ite (fun _ => (set _ _).trans (counted _ _)) fun _ => set _ _

theorem takeFollow_only (s : State) (j : Fin 4) (x : Nat) (v : Bool) : Only outputPieces s (s.takeFollow j x v) := by
  have counted (u : State) (f : OutputCounters → OutputCounters) :=
    (bumpOutput_only u j f).mono (S := outputPieces) (by decide)
  have set (o : Output) (f : OutputCounters → OutputCounters) :=
    ((setOutputState_only s j o).mono (S := outputPieces) (by decide)).trans (counted _ f)
  refine .ite (fun _ => counted s _) fun _ => .ite (fun _ => .ite (fun _ => counted s _) fun _ => set _ _) fun _ =>
    .ite (fun _ => set _ _) fun _ => .ite (fun _ => (counted s _).next (raise_only _ _)) fun _ => set _ _

theorem takeSignal_only (s : State) (j : Fin 4) (id : BitVec 4) (level : Bool) (x : Nat) :
    Only outputPieces s (s.takeSignal j id level x) := by
  unfold State.takeSignal
  refine .ite (fun _ => ?_) fun _ => .refl _ s
  split
  · exact takePulse_only s j x
  · exact takeFollow_only s j x level
  all_goals exact .refl _ s

/-- The outputs take a SIGNAL, unless delivery is closed (R162, R169). -/
theorem takeSignals_only (s : State) (id : BitVec 4) (level : Bool) (x : Nat) :
    Only outputPieces s (if s.closed then s else (List.finRange 4).foldl (fun s j => s.takeSignal j id level x) s) :=
  .ite (fun _ => .refl _ s) fun _ => .foldl (fun v j => takeSignal_only v j id level x) _ s

theorem setFlag_only (s : State) (i x : Nat) : Only [.entries, .parts, .signalsCtr] s (s.setFlag i x) := by
  unfold State.setFlag
  dsimp only
  split
  · exact ((setSlot_only s _ _).mono (by decide)).next (bumpSignals_only _ _)
  · exact (bumpSignals_only s _).mono (by decide)

theorem applySignal_only (s : State) (id : BitVec 4) (level : Bool) (line : Word) :
    Only (outputPieces ++ [.entries, .parts, .signalsCtr]) s (s.applySignal id level line) := by
  have taken := (takeSignals_only s id level line.toNat).mono
    (S := outputPieces ++ [.entries, .parts, .signalsCtr]) (by decide)
  exact (Only.ite (fun _ => taken.next (setFlag_only _ _ _)) fun _ => taken).next (bumpSignals_only _ _)

theorem claimEdge_only (s : State) (i : Fin 4) (level : Bool) :
    Only [.tx, .queueCtr, .signalsCtr, .faults, .port, .events, .noticeCtr, .raisesCtr] s (s.claimEdge i level) := by
  refine .ite (fun _ => (claimFifo_only s _).mono (by decide)) fun _ => ?_
  exact (((claimFifo_only s _).mono (by decide)).next (bumpSignals_only _ _)).next (raise_only _ _)

/-! ### Frames -/

theorem claimAtAdvance_only (s : State) : Only claimPieces s s.claimAtAdvance :=
  .ite (fun _ => claimOpening_only s _) fun _ => .refl _ s

theorem pruneFlushes_only (s : State) : Only [.port] s s.pruneFlushes := filterPort_only s _

theorem setFrames_only (s : State) (f : FrameUnit) :
    Only [.entries, .parts, .h, .channels, .rotation, .lostGrant, .gate] s { s with frames := f } := by
  intro p out
  cases p
  case entries | parts | h | channels | rotation | lostGrant | gate => exact absurd (by decide) out
  all_goals rfl

/-- The pieces of the frame unit, but for the view of the latest lost grant. -/
def framePieces : List Piece := [.entries, .parts, .h, .channels, .rotation, .gate, .port]

theorem setFrames_only_lost (s : State) (f : FrameUnit) (lost : f.lostGrant = s.frames.lostGrant) :
    Only framePieces s { s with frames := f } := by
  intro p out
  by_cases at_lost : p = .lostGrant
  · subst at_lost
    exact lost
  · refine setFrames_only s f p fun within => out ?_
    simp only [List.mem_cons, List.not_mem_nil, or_false] at within
    obtain rfl | rfl | rfl | rfl | rfl | rfl | rfl := within
    case inr.inr.inr.inr.inr.inl => exact absurd rfl at_lost
    all_goals decide

theorem found_only (s : State) : Only framePieces s s.found := by
  unfold State.found
  refine Only.next ?_ (pruneFlushes_only _)
  exact setFrames_only_lost s _ rfl

theorem learnFrames_only (s : State) (r : Roll) : Only framePieces s (s.learnFrames r) := by
  unfold State.learnFrames
  refine Only.next ?_ (pruneFlushes_only _)
  exact setFrames_only_lost s _ rfl

theorem setRotation_only (s : State) (x : Vector (Option (Fin 8)) 2) :
    Only [.rotation] s { s with frames := { s.frames with rotation := x } } := by
  intro p out
  cases p
  case rotation => exact absurd (List.mem_cons_self ..) out
  all_goals rfl

theorem consumeSteer_only (s : State) (j : Fin 2) (e : Steer) :
    Only [.channels, .framesCtr, .rotation] s (s.consumeSteer j e) := by
  unfold State.consumeSteer
  refine Only.next (.ite (fun _ => ?_) fun _ => .refl _ s) (setRotation_only _ _)
  exact ((setChannel_only s _ _).mono (by decide)).next (bumpFrames_only _ _)

/-- The pieces that a DESYNC touches. -/
def desyncPieces : List Piece := .framesCtr :: .faults :: .raisesCtr :: lapsePieces

theorem desync_only (s : State) : Only desyncPieces s s.desync :=
  (((raise_only s _).mono (by decide)).next (bumpFrames_only _ _)).next (lapseFrom_only _ _)

theorem applyGrant_only (s : State) (c : Fin 8) (seq : Byte) (base : Page) :
    Only (.channels :: desyncPieces) s (s.applyGrant c seq base) := by
  refine .ite (fun _ => (bumpFrames_only s _).mono (by decide)) fun _ => .ite (fun _ => .ite (fun _ => ?_) fun _ => ?_)
    fun _ => ?_
  · exact (setChannel_only s _ _).mono (by decide)
  · exact (desync_only s).mono (by decide)
  · exact ((setChannel_only s _ _).mono (by decide)).next (bumpFrames_only _ _)

theorem bornVoid_only (s : State) (i : Fin 8) (j : Fin 2) : Only voidPieces s (s.bornVoid i j) :=
  .ite (fun _ => .ite (fun _ => (markVoid_only s i j).mono (by decide)) fun _ => .ite (fun _ => .refl _ s) fun _ =>
    voidPart_only s i j) fun _ => .refl _ s

theorem enterFrame_only (s : State) (k : Nat) (mask : StationSet) (entries : StreamEntries) :
    Only (.entries :: .framesCtr :: voidPieces) s (s.enterFrame k mask entries) := by
  unfold State.enterFrame
  refine Only.next ?_ (endChecks_only _)
  refine Only.next ?_ (startLegTimers_only _)
  refine Only.next ?_ (bornVoid_only _ _ 1)
  refine Only.next ?_ (bornVoid_only _ _ 0)
  exact ((setSlot_only s _ _).mono (by decide)).next (bumpFrames_only _ _)

theorem raiseH_only (s : State) (k : Nat) : Only [.h, .framesCtr] s (s.raiseH k) := by
  intro p out
  cases p
  case h | framesCtr => exact absurd (by decide) out
  all_goals rfl

theorem clearForeign_only (s : State) (i : Fin 8) : Only [.entries, .parts] s (s.clearForeign i) :=
  .ite (fun _ => setSlot_only s i _) fun _ => .refl _ s

/-- The pieces that an OPEN touches. -/
def openPieces : List Piece := .h :: .channels :: .rotation :: .entries :: .framesCtr :: desyncPieces

theorem applyOpening_only (s : State) (frame : BitVec 16) (mask : StationSet) (entries : StreamEntries) :
    Only openPieces s (s.applyOpening frame mask entries) := by
  unfold State.applyOpening
  dsimp only
  refine .ite (fun _ => (bumpFrames_only s _).mono (by decide)) fun _ => ?_
  have raised := (raiseH_only s (extendFrame s.area s.currentFrame frame)).mono (S := openPieces) (by decide)
  generalize s.raiseH _ = v at raised ⊢
  refine .ite (fun _ => raised.next (bumpFrames_only _ _)) fun _ => .ite (fun _ => ?_) fun _ => ?_
  · exact (raised.next (bumpFrames_only _ _)).next (desync_only _)
  · have cleared := raised.next (clearForeign_only v (slotOf (extendFrame s.area s.currentFrame frame)))
    generalize v.clearForeign _ = x at cleared ⊢
    refine .ite (fun _ => ?_) fun _ => (cleared.next (bumpFrames_only _ _)).next (desync_only _)
    refine Only.next ?_ (enterFrame_only _ _ _ _)
    exact cleared.next (Only.foldl (fun v (e : Fin 2 × Steer) => consumeSteer_only v e.1 e.2) _ _)

theorem applyGate_only (s : State) (isOpen : Bool) (frame : BitVec 16) :
    Only [.gate, .framesCtr] s (s.applyGate isOpen frame) := by
  unfold State.applyGate
  split
  case h_1 f after =>
    have gated : f = { s.frames with gateOpen := f.gateOpen, gateFrame := f.gateFrame, resume := f.resume } := by
      unfold FrameUnit.gateAfter at after
      split at after
      · split at after
        · cases after
          rfl
        · cases after
      · cases after
        rfl
      · cases after
        rfl
      · split at after
        · cases after
          rfl
        · cases after
    rw [gated]
    intro p out
    cases p
    case gate => exact absurd (List.mem_cons_self ..) out
    all_goals rfl
  case h_2 => exact (bumpFrames_only s _).mono (by decide)

theorem forgetForeign_only (s : State) (r : Roll) : Only [.entries, .parts] s (s.forgetForeign r) := by
  intro p out
  cases p
  case entries | parts => exact absurd (by decide) out
  all_goals rfl

theorem takeCompleteness_only (s : State) (r : Roll) : Only [.channels, .framesCtr] s (s.takeCompleteness r) := by
  refine .ite (fun _ => .foldl (fun v c => ?_) _ s) fun _ => .refl _ s
  dsimp only
  split
  · exact .ite (fun _ => ((setChannel_only v c _).mono (by decide)).next (bumpFrames_only _ _)) fun _ => .refl _ v
  · exact .refl _ v

/-! ### Taps -/

theorem takeLive_only (s : State) (t : Tap) (r : Trigger) : Only [.tapBodies, .tapsCtr] s (s.takeLive t r) := by
  refine .ite (fun _ => ?_) fun _ => (bumpTap_only s t _).mono (by decide)
  refine Only.next (Only.mono ?_ (T := [.tapBodies]) (by decide)) (bumpTap_only _ t _)
  exact setTap_only_body s t _ rfl

theorem slotTaken_only (s : State) : Only [.draws, .freeLow] s s.slotTaken := by
  intro p out
  cases p
  case draws | freeLow => exact absurd (by decide) out
  all_goals rfl

/-- The pieces that a tap touches which is handed a trigger record. -/
def recordPieces : List Piece :=
  [.tapBodies, .lines, .draws, .freeLow, .tapsCtr, .faults, .port, .events, .noticeCtr, .raisesCtr]

theorem takePattern_only (s : State) (t : Tap) (r : Trigger) : Only recordPieces s (s.takePattern t r) := by
  refine .ite (fun _ => ?_) fun _ => ((bumpTap_only s t _).mono (by decide)).next (raise_only _ _)
  exact (((setLines_only s t _).mono (by decide)).next (slotTaken_only _)).next (bumpTap_only _ t _)

theorem handRecord_only (s : State) (t : Tap) (r : Trigger) : Only recordPieces s (s.handRecord t r) := by
  unfold State.handRecord
  split
  · exact .refl _ s
  · exact (takeLive_only s t r).mono (by decide)
  · exact takePattern_only s t r

theorem handRecords_only (s : State) (r : Trigger) : Only recordPieces s (s.handRecords r) := by
  have drawn := (draw_only s (s.draws + 1)).mono (S := recordPieces) (by decide)
  exact .ite (fun _ => (drawn.trans (handRecord_only _ 1 r)).trans (handRecord_only _ 0 r)) fun _ =>
    (drawn.trans (handRecord_only _ 0 r)).trans (handRecord_only _ 1 r)

theorem beginPacket_only (s : State) (t : Tap) : Only [.tapBodies, .draws, .freeLow] s (s.beginPacket t) := by
  refine .ite (fun _ => Only.next ?_ (slotTaken_only _)) fun _ => ?_
  · exact Only.mono (T := [.tapBodies]) (setTap_only_body s t _ rfl) (by decide)
  · exact Only.mono (T := [.tapBodies]) (setTap_only_body s t _ rfl) (by decide)

theorem badPacket_only (s : State) (t : Tap) (bytes : List Byte) :
    Only [.tapBodies, .tapsCtr] s (s.badPacket t bytes) := by
  refine Only.next (Only.mono ?_ (T := [.tapBodies]) (by decide)) (bumpTap_only _ t _)
  exact setTap_only_body s t _ rfl

/-- The pieces that a packet touches. -/
def packetPieces : List Piece :=
  [.tapBodies, .lines, .draws, .freeLow, .tapsCtr, .faults, .port, .events, .noticeCtr, .raisesCtr]

theorem overrun_only (s : State) (t : Tap) :
    Only [.tapsCtr, .faults, .port, .events, .noticeCtr, .raisesCtr] s (s.overrun t) :=
  ((bumpTap_only s t _).mono (by decide)).next (raise_only _ _)

theorem reconcile_only (s : State) (t : Tap) (slot : Fin 256) (c : Byte) (pixels : List Byte) :
    Only [.tapBodies, .lines, .tapsCtr] s (s.reconcile t slot c pixels) := by
  have set (x : TapState) (f : TapCounters → TapCounters) : Only [.tapBodies, .lines, .tapsCtr] s _ :=
    ((setTap_only s t x).mono (by decide)).next (bumpTap_only _ t f)
  refine .ite (fun _ => set _ _) fun _ => .ite (fun _ => set _ _) fun _ => ?_
  dsimp only
  split
  · exact set _ _
  · exact set _ _

theorem arrive_only (s : State) (t : Tap) (slot : Fin 256) (bytes : List Byte) :
    Only [.tapBodies, .lines, .tapsCtr] s (s.arrive t slot bytes) := by
  refine .ite (fun _ => ?_) fun _ => ((badPacket_only s t bytes).mono (by decide)).next (setPort_only _ t _)
  exact (Only.ite (fun _ => .refl _ s) fun _ => (bumpTap_only s t _).mono (by decide)).trans (reconcile_only _ t slot _ _)

/-! ### The position unit -/

theorem advanceOutputs_only (s : State) : Only [.outputs] s s.advanceOutputs := by
  intro p out
  cases p
  case outputs => exact absurd (List.mem_cons_self ..) out
  all_goals rfl

/-- The pieces that the units touch at a line-index advance. -/
def advancePieces : List Piece :=
  [.tx, .queueCtr, .lostGrant, .outputs, .lines, .waiting, .deliveryCtr, .parts, .port]

theorem presentAdvance_only (s : State) : Only advancePieces s s.presentAdvance :=
  (((((claimAtAdvance_only s).mono (by decide)).next (startLegTimers_only _)).next (advanceOutputs_only _)).next
    (settle_only _)).next (endChecks_only _)

theorem fireStrobes_only (s : State) (phase : Nat) : Only [.position] s (s.fireStrobes phase) := by
  intro p out
  cases p
  case position => exact absurd (List.mem_cons_self ..) out
  all_goals rfl

theorem setLastIssue_only (s : State) (m : Option Moment) :
    Only [.position] s { s with pos := { s.pos with lastIssue := m } } := by
  intro p out
  cases p
  case position => exact absurd (List.mem_cons_self ..) out
  all_goals rfl

theorem issueLine_only (s : State) (n : Nat) : Only (.position :: .posCtr :: recordPieces) s (s.issueLine n) := by
  have issued := ((setLastIssue_only s (some s.now)).mono (S := .position :: .posCtr :: recordPieces) (by decide)).next
    (bumpPosition_only _ fun c => { c with linesIssued := c.linesIssued + 1 })
  exact (issued.next (handRecords_only _ _)).next (fireStrobes_only _ _)

theorem takeDue_only (s : State) (n : Nat) : Only (.position :: .posCtr :: recordPieces) s (s.takeDue n) := by
  unfold State.takeDue
  split
  · exact .ite (fun _ => (bumpPosition_only s _).mono (by decide)) fun _ => issueLine_only s n
  all_goals exact .refl _ s

theorem align_only (s : State) (offset : Word) : Only (.mode :: .position :: advancePieces) s (s.align offset) :=
  ((setPos_only s _).mono (by decide)).next (presentAdvance_only _)

/-! ### The trunk port -/

theorem setTrunk_only (s : State) (x : Trunk) : Only [.trunk, .vetoRun] s { s with trunk := x } := by
  intro p out
  cases p
  case trunk | vetoRun => exact absurd (by decide) out
  all_goals rfl

theorem setTrunk_only_trunk (s : State) (x : Trunk) (run : x.vetoRun = s.trunk.vetoRun) :
    Only [.trunk] s { s with trunk := x } := by
  intro p out
  cases p
  case trunk => exact absurd (List.mem_cons_self ..) out
  case vetoRun => exact run
  all_goals rfl

theorem setVetoRun_only (s : State) (n : Nat) : Only [.vetoRun] s { s with trunk := { s.trunk with vetoRun := n } } := by
  intro p out
  cases p
  case vetoRun => exact absurd (List.mem_cons_self ..) out
  all_goals rfl

theorem setWire_only (s : State) (w : Option Wire) : Only [.trunk] s (s.setWire w) := setTrunk_only_trunk s _ rfl

theorem takeHead_only (s : State) (rest : List Received) : Only [.trunk] s (s.takeHead rest) :=
  setTrunk_only_trunk s _ rfl

theorem enterQueue_only (s : State) (r : Received) : Only [.trunk, .trunkCtr] s (s.enterQueue r) :=
  ((setTrunk_only_trunk s { s.trunk with queue := s.trunk.queue ++ [r] } rfl).mono (by decide)).next
    (bumpTrunk_only { s with trunk := { s.trunk with queue := s.trunk.queue ++ [r] } } _)

/-- The pieces that a fault touches which lapses the station in some states. -/
def faultPieces : List Piece := .trunkCtr :: .faults :: .raisesCtr :: lapsePieces

theorem giveVeto_only (s : State) : Only faultPieces s s.giveVeto := by
  have given := ((setVetoRun_only s (s.trunk.vetoRun + 1)).mono (S := faultPieces) (by decide)).next
    (bumpTrunk_only _ fun c => { c with vetoesGiven := c.vetoesGiven + 1 })
  exact .ite (fun _ => (given.next (raise_only _ _)).next (lapseFrom_only _ _)) fun _ => given

theorem duplicate_only (s : State) : Only faultPieces s s.duplicate :=
  (((bumpTrunk_only s _).mono (by decide)).next (raise_only _ _)).next (lapseFrom_only _ _)

theorem joinHeld_only (s : State) : Only [.tx, .queueCtr] s s.joinHeld := by
  unfold State.joinHeld
  split
  · exact ((setTx_only s { s.tx with held := none }).mono (by decide)).next (joinList_only _ _)
  · exact .refl _ s

/-- The pieces of the changed values when a station declares a stall or the trunk runs again (R54). -/
theorem setStalled_only (s : State) (x : Trunk) (m : Membership) (run : x.vetoRun = s.trunk.vetoRun)
    (state : m.state = s.mem.state) (peers : m.peers = s.mem.peers)
    (roster : (m.number, m.roster, m.joinFrame, m.heardRoll, m.latestDigest)
      = (s.mem.number, s.mem.roster, s.mem.joinFrame, s.mem.heardRoll, s.mem.latestDigest)) :
    Only [.trunk, .timers] s { s with trunk := x, mem := m } := by
  intro p out
  cases p
  case trunk | timers => exact absurd (by decide) out
  case vetoRun => exact run
  case state => exact state
  case peers => exact peers
  case roster => exact roster
  all_goals rfl

theorem declareStall_only (s : State) :
    Only [.trunk, .timers, .trunkCtr, .faults, .port, .events, .noticeCtr, .raisesCtr] s s.declareStall := by
  have held := (setStalled_only s { s.trunk with stalled := true } (s.mem.holdTimers s.now) rfl rfl rfl rfl).mono
    (S := [.trunk, .timers, .trunkCtr, .faults, .port, .events, .noticeCtr, .raisesCtr]) (by decide)
  exact (held.next (bumpTrunk_only _ _)).next (raise_only _ _)

theorem resumeTrunk_only (s : State) : Only [.trunk, .timers] s s.resumeTrunk :=
  setStalled_only s _ _ rfl rfl rfl rfl

/-! ### The window -/

theorem setRegisters_only (s : State) (taking : Option Taking) (command : Byte) (args : Vector Word 4)
    (result : ResultWord) (collision : Bool) : Only [.registers] s { s with window := { s.window with
      taking := taking, command := command, args := args, result := result, collision := collision } } := by
  intro p out
  cases p
  case registers => exact absurd (List.mem_cons_self ..) out
  all_goals rfl

theorem answer_only (s : State) (code : Byte) (r : Result) (value : Word) :
    Only [.registers, .windowCtr, .noticeCtr] s (s.answer code r value) :=
  ((setRegisters_only s none s.window.command s.window.args { code, result := r, value, done := true }
    s.window.collision).mono (by decide)).next (bumpWindow_only _ _)

theorem tick_only (s : State) (t : Moment) : Only [.now] s (s.tick t) := by
  intro p out
  cases p
  case now => exact absurd (List.mem_cons_self ..) out
  all_goals rfl

end Sys2Proof.Machine

/-! What the commands of the taps, of the host link, and the processing of notes leave alone (R10, R53, R123, R136, R138,
R178, R181). -/

namespace Sys2Proof.Machine

-- One proof at a time: the proofs of many statements at once take more threads than the memory holds.
set_option Elab.async false

/-! ### The commands of the taps -/

/-- The pieces that a command of a tap touches. -/
def tapPieces : List Piece :=
  [.now, .draws, .lines, .tapBodies, .freeLow, .parts, .port, .waiting, .faults, .events, .tapsCtr, .deliveryCtr,
    .noticeCtr, .raisesCtr]

theorem exec_tap_only {c : Instr} {t : Moment} {tap : Tap} {bytes : List Byte} {s u : State}
    (command : c ∈ [Instr.trigPulseEnd t tap, .triggerTimeout t tap, .syncWord t tap bytes, .packetArrival t tap bytes])
    (next : exec c s = .next u) : Only tapPieces s u := by
  have start := (tick_only s t).mono (S := tapPieces) (by decide)
  have set_body (v : State) (x : TapState) (lines : x.lines = (v.taps[tap]).lines) :=
    (setTap_only_body v tap x lines).mono (S := tapPieces) (by decide)
  simp only [List.mem_cons, List.not_mem_nil, or_false] at command
  obtain rfl | rfl | rfl | rfl := command
  all_goals cases next
  · split
    · exact .ite (fun _ => start.trans (set_body _ _ rfl)) fun _ => start
    · exact start
  · refine .ite (fun _ => Only.next (Only.next ?_ (bumpTap_only _ tap _)) (afterTap_only _)) fun _ => start
    exact start.trans (set_body _ _ rfl)
  · refine .ite (fun _ => ?_) fun _ => start
    split
    · exact start.next (beginPacket_only _ tap)
    · exact (start.next (badPacket_only _ tap bytes)).next (afterTap_only _)
    · exact ((((start.next (overrun_only _ tap)).next (badPacket_only _ tap bytes)).next (setPort_only _ tap _)).next
        (beginPacket_only _ tap)).next (afterTap_only _)
  · refine .ite (fun _ => ?_) fun _ => start
    split
    · exact start
    · exact (start.next (arrive_only _ tap _ bytes)).next (afterTap_only _)
    · exact (((start.next (overrun_only _ tap)).next (badPacket_only _ tap bytes)).next (setPort_only _ tap _)).next
        (afterTap_only _)

/-! ### The commands of the host link -/

/-- The pieces that a command of the taps or of the host link touches. -/
def linkPieces : List Piece := [.freeLow, .tapBodies, .draws, .now, .tapsCtr, .tx, .queueCtr, .link, .faults, .events,
  .raisesCtr] ++ portPieces

theorem closePort_only (s : State) :
    Only [.port, .link] s { s with delivery := { s.delivery with port := [], linkUp := false } } := by
  intro p out
  cases p
  case port | link => exact absurd (by decide) out
  all_goals rfl

theorem setLink_only (s : State) : Only [.link] s { s with delivery := { s.delivery with linkUp := true } } := by
  intro p out
  cases p
  case link => exact absurd (by decide) out
  all_goals rfl

theorem exec_link_only {c : Instr} {t : Moment} {i : Fin 8} {j : Fin 2} {number : Nat} {s u : State}
    (command : c ∈ [Instr.portIssue t, .flushCompletion t number, .flushTimeout t i j, .recordFlushTimeout t,
      .legTimerExpiry t i j, .linkDown t, .linkUp t])
    (next : exec c s = .next u) : Only linkPieces s u := by
  have start := (tick_only s t).mono (S := linkPieces) (by decide)
  simp only [List.mem_cons, List.not_mem_nil, or_false] at command
  obtain rfl | rfl | rfl | rfl | rfl | rfl | rfl := command
  all_goals cases next
  · exact .ite (fun _ => ((start.next (settle_only _)).next (portIssue_only 100 _)).next (settle_only _)) fun _ => start
  · refine .ite (fun _ => ?_) fun _ => .ite (fun _ => start) fun _ => ?_
    · exact (start.next (setRecords_only _ _)).next (present_only _ _)
    · split
      · exact start.next (reportPart_only _ _ _)
      · exact start
  · split
    · exact .ite (fun _ => (((start.next (voidPart_only _ i j)).next (bumpDelivery_only _ _)).next
        (raise_only _ _)).next (settle_only _)) fun _ => start
    all_goals exact start
  · split
    · exact .ite (fun _ => ((start.next (bumpRecords_only _ _)).next (raise_only _ _)).next (dropHeadRecord_only _))
        fun _ => start
    all_goals exact start
  · split
    · refine .ite (fun _ => .ite (fun _ => ?_) fun _ => start.next (modifyPart_only _ i j _)) fun _ => start
      exact (((start.next (cutTurn_only _ i j)).next (voidPart_only _ i j)).next (bumpDelivery_only _ _)).next
        (settle_only _)
    all_goals exact start
  · refine .ite (fun _ => ?_) fun _ => start
    have dropped := (Only.ite (p := (s.tick t).closed = true) (fun _ => start)
      fun _ => start.next (voidParts_only _)).next (dropTurn_only _)
    generalize State.dropTurn _ = v at dropped ⊢
    refine Only.next ?_ (settle_only _)
    refine Only.next ?_ (raise_only _ _)
    refine Only.next ?_ (bumpDelivery_only _ _)
    refine Only.next ?_ (bumpRecords_only _ _)
    refine Only.next ?_ (bumpWindow_only _ _)
    exact (dropped.next (emptyRecords_only v)).next (closePort_only _)
  · exact start.next (setLink_only _)

/-! ### The processing of a note (R53) -/

/-- The pieces that the withdrawals that follow a note touch, but for those of a JOINING station's return to LISTENING. -/
theorem withdrawTold_only (s : State) (r : Received) (told : r.note.isJoin = false) :
    Only claimPieces s (s.withdrawTold r) := by
  have heard := withdrawFrom_only s .drop .withdrawn fun n => n.claim == .drop r.sender
  unfold State.withdrawTold
  dsimp only
  split
  · exact heard.trans (withdrawFrom_only _ _ _ _)
  · exact heard.trans (withdrawFrom_only _ _ _ _)
  case h_3 note => simp [note, Note.isJoin] at told
  all_goals exact heard

theorem setHeard_only (s : State) (peers : Vector (Option Peer) 8) (silence : Vector Timer 8) :
    Only [.peers, .timers] s { s with mem := { s.mem with peers := peers, silence := silence } } := by
  intro p out
  cases p
  case peers | timers => exact absurd (by decide) out
  all_goals rfl

theorem hear_only (s : State) (p : Station) : Only [.peers, .timers] s (s.hear p) :=
  .ite (fun _ => .refl _ s) fun _ => setHeard_only s _ _

/-- The pieces that the processing of a note touches beside those of its effects. -/
def notePieces : List Piece :=
  [.now, .trunk, .tx, .queueCtr, .lostGrant, .peers, .timers, .lines, .waiting, .deliveryCtr, .parts, .port]

/-- The head note's processing, up to its effects. -/
def State.told (s : State) (r : Received) (rest : List Received) : State :=
  ((s.takeHead rest).withdrawTold r).hear r.sender

theorem processHead_eq (s : State) (r : Received) (rest : List Received) :
    s.processHead r rest = (if (s.told r rest).applies r then (s.told r rest).applyNote r
      else (s.told r rest).ignoreNote).keepLeaveClaimed.afterTap := rfl

theorem told_only (s : State) (r : Received) (rest : List Received) (told : r.note.isJoin = false) :
    Only [.trunk, .tx, .queueCtr, .lostGrant, .peers, .timers] s (s.told r rest) :=
  (((takeHead_only s rest).mono (by decide)).next (withdrawTold_only _ r told)).next (hear_only _ _)

/-- A note whose effects touch no more than `S` touches no more than `S` and the pieces of its processing. -/
theorem processHead_only {S : List Piece} (s : State) (r : Received) (rest : List Received)
    (told : r.note.isJoin = false) (applied : ∀ v : State, Only S v (v.applyNote r)) :
    Only (notePieces ++ S) s (s.processHead r rest) := by
  have fit {T : List Piece} (within : T ⊆ notePieces) : T ⊆ notePieces ++ S := fun _ h => List.mem_append_left S (within h)
  have begun := (told_only s r rest told).mono (S := notePieces ++ S) (fit (by decide))
  have ended (v : State) := ((keepLeaveClaimed_only v).mono (S := notePieces ++ S) (fit (by decide))).next
    (afterTap_only _) (fit (by decide))
  rw [processHead_eq]
  refine begun.trans (.trans ?_ (ended _))
  exact .ite (fun _ => (applied _).mono (List.subset_append_right ..)) fun _ =>
    (bumpQueue_only _ _).mono (fit (by decide))

/-- The pieces that the effects of SIGNAL, OPEN, DONE, GATE and GRANT touch. -/
def effectPieces : List Piece :=
  .outputs :: .outputsCtr :: .entries :: .parts :: .signalsCtr :: .records :: .recordsCtr :: .gate :: openPieces

theorem isJoin_of_kind {n : Note} (other : n.kind ≠ .roster) : n.isJoin = false := by
  cases n
  case rosterJoin => exact absurd rfl other
  all_goals rfl

theorem applyNote_only (s : State) (r : Received)
    (kind : r.note.kind ∈ [NoteKind.signal, .opening, .done, .gate, .grant]) : Only effectPieces s (s.applyNote r) := by
  unfold State.applyNote
  cases note : r.note
  case signal => exact (applySignal_only s _ _ _).mono (by decide)
  case opening => exact (applyOpening_only s _ _ _).mono (by decide)
  case done => exact (applyDone_only s _ _ _ _ _).mono (by decide)
  case gate => exact (applyGate_only s _ _).mono (by decide)
  case grant => exact (applyGrant_only s _ _ _).mono (by decide)
  all_goals
    rw [note] at kind
    exact absurd kind (by simp [Note.kind])

theorem exec_note_only {c : Instr} {t : Moment} {s u : State}
    (command : c ∈ [Instr.processSignal t, .processOpen t, .processDone t, .processGate t, .processGrant t])
    (next : exec c s = .next u) : Only (notePieces ++ effectPieces) s u := by
  have start := (tick_only s t).mono (S := notePieces ++ effectPieces) (by decide)
  have processed (k : NoteKind) (kind : k ∈ [NoteKind.signal, .opening, .done, .gate, .grant]) :
      Only (notePieces ++ effectPieces) s ((s.tick t).process fun n => n.kind == k) := by
    unfold State.process
    split
    case h_1 r rest _ =>
      refine .ite (fun wanted => ?_) fun _ => start
      rw [beq_iff_eq] at wanted
      have not_roster : r.note.kind ≠ .roster := by
        rintro roster
        rw [wanted] at roster
        exact absurd (roster ▸ kind) (by decide)
      exact start.trans (processHead_only _ r rest (isJoin_of_kind not_roster) fun v =>
        applyNote_only v r (wanted ▸ kind))
    case h_2 => exact start
  simp only [List.mem_cons, List.not_mem_nil, or_false] at command
  obtain rfl | rfl | rfl | rfl | rfl := command
  all_goals cases next
  · exact processed .signal (by decide)
  · exact processed .opening (by decide)
  · exact processed .done (by decide)
  · exact processed .gate (by decide)
  · exact processed .grant (by decide)

end Sys2Proof.Machine

namespace Sys2Proof

open Machine

/-- Settles O13: each clause from the pieces that its commands touch. -/
theorem unitFrames : Obligations.UnitFrames := by
  refine ⟨?link, ?tap, ?note⟩
  case link =>
    intro c t tap bytes i j number s u command next
    have only : Only linkPieces s u := by
      have split : c ∈ [Instr.trigPulseEnd t tap, .triggerTimeout t tap, .syncWord t tap bytes,
          .packetArrival t tap bytes] ∨ c ∈ [Instr.portIssue t, .flushCompletion t number, .flushTimeout t i j,
          .recordFlushTimeout t, .legTimerExpiry t i j, .linkDown t, .linkUp t] :=
        List.mem_append.mp command
      obtain of_tap | of_link := split
      · exact (exec_tap_only of_tap next).mono (by decide)
      · exact exec_link_only of_link next
    exact ⟨only.pos_same, only.trunk_same, only.mem_same, only.signals_same, only.frames_eq,
      fun i j l leg => only.leg_eq leg, only.window_eq⟩
  case tap =>
    intro c t tap bytes s u command next
    have only := exec_tap_only command next
    exact ⟨only .tx (by decide), only .records (by decide), only .lastRequest (by decide)⟩
  case note =>
    intro c t s u command next
    have only := exec_note_only command next
    obtain ⟨number, roster, joinFrame, _⟩ := only.roster_eq
    exact ⟨only.pos_eq, only .lastRequest (by decide), roster, number, joinFrame, fun tap => only.tap_eq tap,
      only.window_eq⟩

end Sys2Proof

/-! The stations outside the group (R77, R94): in UNCONFIGURED and CONFIGURED the roster, the peer records and the timers stay
empty. Every operation that sets one of them acts in another state, or ends in one, or empties them all. -/

namespace Sys2Proof.Machine

-- One proof at a time: the proofs of many statements at once take more threads than the memory holds.
set_option Elab.async false

/-! ### The pieces of a line that falls due, and of a window command -/

/-- The pieces that an up-count touches. -/
def countPieces : List Piece := .position :: .posCtr :: (recordPieces ++ advancePieces)

theorem setPos_only_position (s : State) (x : Position) (mode : x.mode = s.pos.mode) :
    Only [.position] s { s with pos := x } := by
  intro p out
  cases p
  case position => exact absurd (List.mem_cons_self ..) out
  case mode => exact mode
  all_goals rfl

theorem lineDue_only (s : State) : Only countPieces s s.lineDue := by
  refine Only.next (Only.next (Only.mono (T := [.position]) ?_ (by decide)) (takeDue_only _ _)) (presentAdvance_only _)
  exact setPos_only_position s _ rfl

theorem countUp_only (s : State) : Only countPieces s s.countUp := by
  have counted := (setPos_only_position s { s.pos with raw := s.pos.raw + 1 } rfl).mono (S := countPieces) (by decide)
  unfold State.countUp
  dsimp only
  refine .ite (fun _ => ?_) fun _ => counted
  have followed := counted.next (setPos_only_position _ { s.pos with raw := s.pos.raw + 1, w := s.pos.w + 1 } rfl)
  exact .ite (fun _ => followed.trans (lineDue_only _)) fun _ => followed

theorem setWindow_only (s : State) (w : Window) :
    Only [.area, .registers, .faults, .events, .checks] s { s with window := w } := by
  intro p out
  cases p
  case area | registers | faults | events | checks => exact absurd (by decide) out
  all_goals rfl

theorem collide_only (s : State) : Only [.registers, .windowCtr, .noticeCtr] s s.collide := by
  intro p out
  cases p
  case registers | windowCtr | noticeCtr => exact absurd (by decide) out
  all_goals rfl

theorem beginNote_only (s : State) (role : WireRole) (reserved : Bool) (stretch : Option Moment) :
    Only [.position, .trunk] s (s.beginNote role reserved stretch) := by
  intro p out
  cases p
  case position | trunk => exact absurd (by decide) out
  all_goals rfl

/-! ### The pieces that ROLL, DROP and ROSTER notes touch -/

theorem setPeers_only (s : State) (x : Vector (Option Peer) 8) :
    Only [.peers] s { s with mem := { s.mem with peers := x } } := by
  intro p out
  cases p
  case peers => exact absurd (List.mem_cons_self ..) out
  all_goals rfl

theorem recordRoll_only (s : State) (p : Station) (r : Roll) : Only [.peers] s (s.recordRoll p r) :=
  .ite (fun _ => .refl _ s) fun _ => setPeers_only s _

theorem keepRosterPeers_only (s : State) : Only [.peers] s s.keepRosterPeers := setPeers_only s _

theorem setRoll_only (s : State) (x : Timer) : Only [.timers] s { s with mem := { s.mem with roll := x } } := by
  intro p out
  cases p
  case timers => exact absurd (List.mem_cons_self ..) out
  all_goals rfl

theorem setRollTimer_only (s : State) (p : Station) : Only [.timers] s (s.setRollTimer p) :=
  .ite (fun _ => .refl _ s) fun _ => .ite (fun _ => setRoll_only s _) fun _ => .ite (fun _ => setRoll_only s _) fun _ =>
    .refl _ s

theorem setListen_only (s : State) (x : Timer) : Only [.timers] s { s with mem := { s.mem with listen := x } } := by
  intro p out
  cases p
  case timers => exact absurd (List.mem_cons_self ..) out
  all_goals rfl

theorem restartListen_only (s : State) : Only [.timers] s s.restartListen :=
  .ite (fun _ => setListen_only s _) fun _ => .refl _ s

theorem setRoster_only (s : State) (x : StationSet) :
    Only [.roster] s { s with mem := { s.mem with roster := x } } := by
  intro p out
  cases p
  case roster => exact absurd (List.mem_cons_self ..) out
  all_goals rfl

theorem addToRoster_only (s : State) (j : Station) : Only [.roster, .peers, .timers, .memCtr] s (s.addToRoster j) := by
  have added := ((setRoster_only s (addStation s.mem.roster j)).mono (S := [.roster, .peers, .timers, .memCtr])
    (by decide)).next (bumpMembership_only _ fun c => { c with joinsSeen := c.joinsSeen + 1 })
  unfold State.addToRoster
  dsimp only
  generalize State.bump _ _ = v at added ⊢
  exact .ite (fun _ => added.next (setHeard_only v _ _)) fun _ => added

theorem removeIfIn_only (s : State) (p : Station) (dropSender : Option Station) :
    Only removalPieces s (s.removeIfIn p dropSender) :=
  .ite (fun _ => removeStation_only s p dropSender) fun _ => .refl _ s

theorem enrol_only (s : State) (j : Station) : Only removalPieces s (s.enrol j) :=
  (Only.ite (fun _ => removeStation_only s j none) fun _ => .refl _ s).next (addToRoster_only _ j)

theorem peerJoin_only (s : State) (j : Station) (digest : BitVec 16) (founding : Bool) :
    Only removalPieces s (s.peerJoin j digest founding) :=
  .ite (fun _ => .refl _ s) fun _ => .ite (fun _ => .refl _ s) fun _ => enrol_only s j

/-- The pieces that a ROLL touches at a LISTENING or JOINING station which accepts it. -/
def learnPieces : List Piece :=
  .roster :: .peers :: .framesCtr :: .mode :: .position :: (framePieces ++ advancePieces)

theorem setLearned_only (s : State) (roster : StationSet) (digest : Option (BitVec 16)) : Only [.roster] s
    { s with mem := { s.mem with roster := roster, heardRoll := true, latestDigest := digest } } := by
  intro p out
  cases p
  case roster => exact absurd (List.mem_cons_self ..) out
  all_goals rfl

/-- A LISTENING or JOINING station takes what a ROLL of its own digest says (R80, R109, R118). -/
def State.learnRoll (s : State) (p : Station) (r : Roll) (latch : Latch) : State :=
  (((({ s with mem := { s.mem with roster := r.roster, heardRoll := true, latestDigest := some r.digest } }).recordRoll p
    r).keepRosterPeers.learnFrames r).takeCompleteness r).align (r.groupCount - latch.raw)

theorem listenRoll_eq (s : State) (p : Station) (r : Roll) (latch : Latch) :
    s.listenRoll p r latch = if r.digest ≠ s.window.digest then (s.raise .configMismatch).enterConfigured false
      else s.learnRoll p r latch := rfl

theorem learnRoll_only (s : State) (p : Station) (r : Roll) (latch : Latch) :
    Only learnPieces s (s.learnRoll p r latch) := by
  have learned := (setLearned_only s r.roster (some r.digest)).mono (S := learnPieces) (by decide)
  exact ((((learned.next (recordRoll_only _ p r)).next (keepRosterPeers_only _)).next (learnFrames_only _ r)).next
    (takeCompleteness_only _ r)).next (align_only _ _)

/-- What a ROLL brings a MEMBER or LEAVING station before the vote: a mismatch raised, the sender's record, the foreign
entries, completeness and the roll timer (R84, R85, R109, R119). -/
def State.noteRoll (s : State) (p : Station) (r : Roll) : State :=
  ((if p = s.self then s
    else (((if r.digest ≠ s.window.digest then s.raise .configMismatch else s).recordRoll p r).forgetForeign
      r)).takeCompleteness r).setRollTimer p

theorem memberRoll_eq (s : State) (p : Station) (r : Roll) (latch : Latch) :
    s.memberRoll p r latch = if s.mem.state = .member then
      if p = s.self then (s.noteRoll p r).orphanRule else (s.noteRoll p r).orphanRule.skewVote p r latch
    else s.noteRoll p r := rfl

theorem noteRoll_only (s : State) (p : Station) (r : Roll) :
    Only (.peers :: .timers :: .entries :: .parts :: .channels :: .framesCtr :: raisePieces) s (s.noteRoll p r) := by
  have raised : Only (.peers :: .timers :: .entries :: .parts :: .channels :: .framesCtr :: raisePieces) s
      (if r.digest ≠ s.window.digest then s.raise .configMismatch else s) :=
    .ite (fun _ => (raise_only s _).mono (by decide)) fun _ => .refl _ s
  have noted := (raised.next (recordRoll_only _ p r)).next (forgetForeign_only _ r)
  exact ((Only.ite (fun _ => .refl _ s) fun _ => noted).next (takeCompleteness_only _ r)).next (setRollTimer_only _ p)

/-! ### The emptiness outside the group, through the operations -/

/-- The station is outside the group: UNCONFIGURED or CONFIGURED. -/
def State.outside (s : State) : Prop := s.mem.state = .unconfigured ∨ s.mem.state = .configured

/-- The membership unit has been emptied: it holds its state and its number, and no more. -/
def State.memEmptied (s : State) : Prop :=
  s.mem = { Membership.reset with state := s.mem.state, number := s.mem.number }

theorem State.memEmptied.outsidersEmpty {s : State} (h : s.memEmptied) : s.outsidersEmpty := by
  intro _
  rw [h]
  refine ⟨rfl, rfl, rfl, rfl, fun p => ?_⟩
  simp [Membership.reset]

theorem State.memEmptied.changeState {s : State} (h : s.memEmptied) (st : StationState) :
    (s.changeState st).memEmptied := by
  unfold State.memEmptied at h ⊢
  rw [changeState_mem, h]

theorem State.memEmptied.enterUnconfigured {s : State} (h : s.memEmptied) : s.enterUnconfigured.memEmptied := by
  have changed := h.changeState .unconfigured
  unfold State.memEmptied at changed
  unfold State.memEmptied State.enterUnconfigured
  dsimp only
  rw [changed]

theorem unitsToConfigured_mem (s : State) (byReset : Bool) :
    (s.unitsToConfigured byReset).mem = s.mem.toConfigured := by
  cases byReset <;> simp [State.unitsToConfigured, State.countDropped]

theorem unitsToConfigured_memEmptied (s : State) (byReset : Bool) : (s.unitsToConfigured byReset).memEmptied := by
  rw [State.memEmptied, unitsToConfigured_mem]
  rfl

theorem ite_of {p : Prop} [Decidable p] {P : State → Prop} {u v : State} (yes : p → P u) (no : ¬ p → P v) :
    P (if p then u else v) := by
  split
  · next hp => exact yes hp
  · next hp => exact no hp

theorem enterConfigured_memEmptied (s : State) (byReset : Bool) : (s.enterConfigured byReset).memEmptied := by
  have entered : (if (s.unitsToConfigured byReset).mem.state = .configured then s.unitsToConfigured byReset
      else (s.unitsToConfigured byReset).changeState .configured).memEmptied :=
    ite_of (fun _ => unitsToConfigured_memEmptied s byReset) fun _ =>
      (unitsToConfigured_memEmptied s byReset).changeState _
  exact ite_of (fun _ => entered.enterUnconfigured) fun _ => entered

namespace State.outsidersEmpty

theorem of_inside {s : State} (inside : ¬ s.outside) : s.outsidersEmpty := fun out => absurd out inside

theorem of_mem {s u : State} (h : s.outsidersEmpty) (mem : u.mem = s.mem) : u.outsidersEmpty := by
  unfold State.outsidersEmpty
  rw [mem]
  exact h

/-- An operation that leaves the membership unit alone. -/
theorem next {T : List Piece} {s u : State} (h : s.outsidersEmpty) (only : Only T s u)
    (state : .state ∉ T := by decide) (roster : .roster ∉ T := by decide) (peers : .peers ∉ T := by decide)
    (timers : .timers ∉ T := by decide) : u.outsidersEmpty :=
  of_mem h (only.mem_same roster timers peers state)

theorem ite {p : Prop} [Decidable p] {u v : State} (yes : p → u.outsidersEmpty) (no : ¬ p → v.outsidersEmpty) :
    (if p then u else v).outsidersEmpty := ite_of yes no

/-! #### Changes of the station's state -/

theorem of_state {s : State} {st : StationState} (state : s.mem.state = st)
    (inside : st ≠ .unconfigured ∧ st ≠ .configured) : s.outsidersEmpty :=
  of_inside fun out => out.elim (fun h => inside.1 (state.symm.trans h)) fun h => inside.2 (state.symm.trans h)

theorem lapse (s : State) : s.lapse.outsidersEmpty := of_state (lapse_mem_state s) (by decide)

theorem lapseFrom {s : State} (h : s.outsidersEmpty) (l : List StationState) : (s.lapseFrom l).outsidersEmpty :=
  ite (fun _ => lapse s) fun _ => h

theorem enterListening (s : State) : s.enterListening.outsidersEmpty := by
  refine of_state (st := .listening) ?_ (by decide)
  simp [State.enterListening]

theorem enterLeaving (s : State) : s.enterLeaving.outsidersEmpty := by
  refine of_state (st := .leaving) ?_ (by decide)
  unfold State.enterLeaving
  dsimp only
  rw [claimRoster_mem]
  split
  · rw [withdrawAll_mem]
    simp [Membership.stopTimers]
  · simp [Membership.stopTimers]

theorem unitsToConfigured (s : State) (byReset : Bool) : (s.unitsToConfigured byReset).outsidersEmpty :=
  (unitsToConfigured_memEmptied s byReset).outsidersEmpty

theorem enterConfigured (s : State) (byReset : Bool) : (s.enterConfigured byReset).outsidersEmpty :=
  (enterConfigured_memEmptied s byReset).outsidersEmpty

theorem leaveLapsed (s : State) : s.leaveLapsed.outsidersEmpty :=
  ite (fun _ => enterListening _) fun _ => enterConfigured s false

theorem corrupt {s : State} (h : s.outsidersEmpty) : s.corrupt.outsidersEmpty := by
  have raised := (h.next (bumpWindow_only s fun c => { c with configCorruptSeen := c.configCorruptSeen + 1 })).next
    (raise_only _ .configCorrupt)
  unfold State.corrupt
  dsimp only
  split
  case h_1 | h_2 => exact lapse _
  case h_3 | h_4 | h_5 => exact (unitsToConfigured_memEmptied _ _).enterUnconfigured.outsidersEmpty
  case h_6 | h_7 => exact raised

/-! #### The trunk port -/

theorem keepLeaveClaimed_settle {s : State} (h : s.outsidersEmpty) : s.keepLeaveClaimed.settle.outsidersEmpty :=
  (h.next (keepLeaveClaimed_only s)).next (settle_only _)

theorem giveVeto {s : State} (h : s.outsidersEmpty) : s.giveVeto.outsidersEmpty := by
  have given := (h.next (setVetoRun_only s (s.trunk.vetoRun + 1))).next
    (bumpTrunk_only _ fun c => { c with vetoesGiven := c.vetoesGiven + 1 })
  exact ite (fun _ => lapseFrom (given.next (raise_only _ _)) _) fun _ => given

theorem duplicate {s : State} (h : s.outsidersEmpty) : s.duplicate.outsidersEmpty :=
  lapseFrom ((h.next (bumpTrunk_only s _)).next (raise_only _ _)) _

theorem exhaust {s : State} (h : s.outsidersEmpty) (c : Claim) : (s.exhaust c).outsidersEmpty := by
  have raised := (h.next (bumpQueue_only s fun q => { q with notesExhausted := q.notesExhausted + 1 })).next
    (raise_only _ .noise)
  unfold State.exhaust
  dsimp only
  split
  · exact (raised.next (lostGrantBy_only _ _)).next (raise_only _ _)
  · exact lapseFrom raised _
  · exact ite (fun _ => enterConfigured _ _) fun _ => raised
  · exact ite (fun _ => enterConfigured _ _) fun _ => ite (fun _ => leaveLapsed _) fun _ => raised
  all_goals exact raised

theorem joinWithdrawn {s : State} (h : s.outsidersEmpty) (c : Claim) : (s.joinWithdrawn c).outsidersEmpty :=
  ite (fun _ => enterListening s) fun _ => h

theorem leaveList {s : State} (h : s.outsidersEmpty) (k : NoteKind) (n : Pending) (rest : List Pending) (byReset : Bool)
    (held : Bool) : ((if held = true then ((s.setPending k rest).withdrawn n byReset).joinHeld
      else (s.setPending k rest).withdrawn n byReset).joinWithdrawn n.claim).outsidersEmpty := by
  have gone := (h.next (setPending_only s k rest)).next (withdrawn_only _ n byReset)
  exact joinWithdrawn (ite (fun _ => gone.next (joinHeld_only _)) fun _ => gone) _

theorem endAttempt {s : State} (h : s.outsidersEmpty) (k : NoteKind) (a : Attempt) :
    (s.endAttempt k a).outsidersEmpty := by
  unfold State.endAttempt
  split
  · exact h
  case h_2 n rest _ =>
    cases a with
    | accepted =>
      have sent := (h.next (setPending_only s k rest)).next
        (bumpTrunk_only _ fun c => { c with notesSent := c.notesSent + 1 })
      exact ite (fun _ => sent.next (joinHeld_only _)) fun _ => sent
    | failed =>
      have failed := h.next (bumpTrunk_only s fun c => { c with attemptsFailed := c.attemptsFailed + 1 })
      refine ite (fun _ => leaveList failed k n rest _ _) fun _ => ite (fun _ => exhaust ?_ _) fun _ => ?_
      · exact failed.next (setPending_only _ k rest)
      · exact failed.next (setPending_only _ k _)
    | lost => exact ite (fun _ => leaveList h k n rest _ _) fun _ => h

theorem endStanding {s : State} (h : s.outsidersEmpty) (st : Standing) (ofCarried ofLate : Attempt) :
    (s.endStanding st ofCarried ofLate).outsidersEmpty := by
  cases st with
  | carried k _ => exact endAttempt h k _
  | lostHeader k => exact endAttempt (h.next (bumpTrunk_only s _)) k _
  | lostLate k => exact endAttempt h k _
  | heard => exact h
  | aside => exact h

theorem sampleNote {s : State} (h : s.outsidersEmpty) (w : Wire) (cells : List Bool) (accepted : Bool) :
    (s.sampleNote w cells accepted).outsidersEmpty := by
  have taken := h.next (setWire_only s none)
  have run := ite (p := accepted = true) (fun _ => taken.next (setVetoRun_only _ 0)) fun _ => taken
  unfold State.sampleNote
  dsimp only
  have ended (v : State) (entered : v.outsidersEmpty) := endStanding entered (w.role.standing cells)
    (if accepted = true then .accepted else .failed) .lost
  refine ite (fun _ => duplicate (ended _ ?_)) fun _ => ended _ ?_
  all_goals
    split
    · exact run.next (enterQueue_only _ _)
    · exact run

theorem abandon {s : State} (h : s.outsidersEmpty) (w : Wire) (cells : List Bool) :
    (s.abandon w cells).outsidersEmpty := by
  have taken := h.next (setWire_only s none)
  exact endStanding (ite (fun _ => taken) fun _ => taken.next (bumpTrunk_only _ _)) _ _ _

theorem stallSender {s : State} (h : s.outsidersEmpty) (w : Wire) (cells : List Bool) :
    (s.stallSender w cells).outsidersEmpty := by
  unfold State.stallSender
  split
  · exact endAttempt (h.next (setWire_only s _)) _ _
  · exact endAttempt ((h.next (setWire_only s _)).next (bumpTrunk_only _ _)) _ _
  · exact h.next (setWire_only s _)
  all_goals exact h

/-- Timers that stand still, or run on, are stopped where they were (R54). -/
theorem of_heldTimers {s u : State} (h : s.outsidersEmpty) (f : Timer → Timer) (stopped : f .stopped = .stopped)
    (mem : u.mem = { s.mem with silence := s.mem.silence.map f, listen := f s.mem.listen }) : u.outsidersEmpty := by
  intro out
  rw [mem] at out ⊢
  obtain ⟨roster, joinFrame, roll, listen, peers⟩ := h out
  refine ⟨roster, joinFrame, roll, ?_, fun p => ⟨(peers p).1, ?_⟩⟩
  · exact (congrArg f listen).trans stopped
  · exact (getElem_map_fin f s.mem.silence p).trans ((congrArg f (peers p).2).trans stopped)

theorem declareStall {s : State} (h : s.outsidersEmpty) : s.declareStall.outsidersEmpty :=
  of_heldTimers h (Timer.hold s.now) rfl (raise_mem _ _)

theorem resumeTrunk {s : State} (h : s.outsidersEmpty) : s.resumeTrunk.outsidersEmpty :=
  of_heldTimers h (Timer.run s.now) rfl rfl

/-! #### The note processor -/

theorem withdrawTold {s : State} (h : s.outsidersEmpty) (r : Received) : (s.withdrawTold r).outsidersEmpty := by
  have heard := h.next (withdrawFrom_only s .drop .withdrawn fun n => n.claim == .drop r.sender)
  unfold State.withdrawTold
  dsimp only
  split
  · exact heard.next (withdrawFrom_only _ _ _ _)
  · exact heard.next (withdrawFrom_only _ _ _ _)
  · exact ite (fun _ => heard) fun _ => ite (fun _ => enterListening _) fun _ => heard.next (withdrawFrom_only _ _ _ _)
  all_goals exact heard

theorem hear {s : State} (h : s.outsidersEmpty) (p : Station) : (s.hear p).outsidersEmpty := by
  refine ite (fun _ => h) fun _ out => ?_
  have out' : s.outside := out
  obtain ⟨roster, joinFrame, roll, listen, peers⟩ := h out
  have not_member : ¬ s.mem.state = .member := fun member => by
    rw [State.outside, member] at out'
    exact absurd out' (by decide)
  refine ⟨roster, joinFrame, roll, listen, fun q => ?_⟩
  have heard : s.mem.peers.set p (s.mem.peers[p].map (Peer.heard s.now)) = s.mem.peers := by
    rw [(peers p).1, Option.map_none, ← (peers p).1]
    exact Vector.set_getElem_self ..
  simp only [not_member, false_and, if_false, heard]
  exact peers q

theorem desync {s : State} (h : s.outsidersEmpty) : s.desync.outsidersEmpty :=
  lapseFrom ((h.next (raise_only s _)).next (bumpFrames_only _ _)) _

theorem applyOpening {s : State} (h : s.outsidersEmpty) (frame : BitVec 16) (mask : StationSet)
    (entries : StreamEntries) : (s.applyOpening frame mask entries).outsidersEmpty := by
  unfold State.applyOpening
  dsimp only
  refine ite (fun _ => h.next (bumpFrames_only s _)) fun _ => ?_
  have raised := h.next (raiseH_only s (extendFrame s.area s.currentFrame frame))
  generalize s.raiseH _ = v at raised ⊢
  refine ite (fun _ => raised.next (bumpFrames_only _ _)) fun _ => ite (fun _ => ?_) fun _ => ?_
  · exact (raised.next (bumpFrames_only _ _)).desync
  · have cleared := raised.next (clearForeign_only v (slotOf (extendFrame s.area s.currentFrame frame)))
    generalize v.clearForeign _ = x at cleared ⊢
    refine ite (fun _ => ?_) fun _ => (cleared.next (bumpFrames_only _ _)).desync
    exact (cleared.next (Only.foldl (fun v (e : Fin 2 × Steer) => consumeSteer_only v e.1 e.2) _ _)).next
      (enterFrame_only _ _ _ _)

theorem applyGrant {s : State} (h : s.outsidersEmpty) (c : Fin 8) (seq : Byte) (base : Page) :
    (s.applyGrant c seq base).outsidersEmpty := by
  refine ite (fun _ => h.next (bumpFrames_only s _)) fun _ => ite (fun _ => ite (fun _ => ?_) fun _ => h.desync) fun _ => ?_
  · exact h.next (setChannel_only s _ _)
  · exact (h.next (setChannel_only s _ _)).next (bumpFrames_only _ _)

/-- An operation that leaves the station's state alone keeps a station inside the group there. -/
theorem next_inside {T : List Piece} {s u : State} (inside : ¬ s.outside) (only : Only T s u)
    (state : .state ∉ T := by decide) : u.outsidersEmpty := by
  have same : u.mem.state = s.mem.state := only .state state
  exact of_inside fun out => inside (by rw [State.outside, ← same]; exact out)

theorem skewVote {s : State} (inside : ¬ s.outside) (p : Station) (r : Roll) (latch : Latch) :
    (s.skewVote p r latch).outsidersEmpty := by
  unfold State.skewVote
  dsimp only
  refine ite (fun _ => lapse _) fun _ => ?_
  have compared := fun x => (setPeers_only s x).mono (S := [.peers, .memCtr]) (by decide)
  refine next_inside inside (T := [.peers, .memCtr]) (.ite (fun _ => compared _) fun _ => ?_)
  exact (compared _).next (bumpMembership_only _ _)

theorem memberRoll {s : State} (inside : ¬ s.outside) (p : Station) (r : Roll) (latch : Latch) :
    (s.memberRoll p r latch).outsidersEmpty := by
  have noted := noteRoll_only s p r
  rw [memberRoll_eq]
  refine ite (fun member => ite (fun _ => ?_) fun _ => ?_) fun _ => next_inside inside noted
  · exact (next_inside inside noted).next (orphanRule_only _)
  · have state : (s.noteRoll p r).orphanRule.mem.state = s.mem.state :=
      (orphanRule_only _ .state (by decide)).trans (noted .state (by decide))
    refine skewVote (fun out => inside ?_) p r latch
    rw [State.outside, ← state]
    exact out

theorem enterMember (s : State) (founding : Bool) : (s.enterMember founding).outsidersEmpty := by
  refine of_state (st := .member) ?_ (by decide)
  unfold State.enterMember
  dsimp only
  generalize (if founding = true then s.found else s) = v
  have checks := fun x => memberChecks_only x .state (by decide)
  refine (checks _).trans ?_
  show (v.changeState .member).mem.state = .member
  rw [changeState_mem]

theorem applyNote {s : State} {r : Received} (applies : s.applies r = true) : (s.applyNote r).outsidersEmpty := by
  have inside : ¬ s.outside := by
    intro out
    unfold State.applies at applies
    obtain state | state := out <;> rw [state] at applies <;> cases applies
  have h : s.outsidersEmpty := of_inside inside
  unfold State.applyNote
  split
  · exact h.next (applySignal_only s _ _ _)
  · unfold State.applyDrop
    split
    · exact leaveLapsed _
    case h_2 | h_3 => exact ite (fun _ => enterConfigured _ _) fun _ => next_inside inside (removeIfIn_only s _ _)
    case h_4 | h_5 => exact next_inside inside (removeIfIn_only s _ _)
    all_goals exact h
  · exact h.applyOpening _ _ _
  · exact h.next (applyDone_only s _ _ _ _ _)
  · exact h.next (applyGate_only s _ _)
  · exact h.applyGrant _ _ _
  · refine ite (fun _ => ?_) fun _ => memberRoll inside _ _ _
    rw [listenRoll_eq]
    exact ite (fun _ => enterConfigured _ _) fun _ => next_inside inside (learnRoll_only s _ _ _)
  · refine ite (fun _ => ?_) fun _ => ite (fun _ => ?_) fun _ => ?_
    · exact ite (fun _ => enterConfigured _ _) fun _ => ite (fun _ => enterListening _) fun _ => enterMember _ _
    · exact ite (fun _ => h.next (raise_only s _)) fun _ => ite (fun _ => h) fun _ => next_inside inside (enrol_only s _)
    · exact next_inside inside ((peerJoin_only s _ _ _).next (restartListen_only _))
  · unfold State.applyLeave
    split
    · exact leaveLapsed _
    case h_2 => exact ite (fun _ => enterConfigured _ _) fun _ => next_inside inside (removeIfIn_only s _ _)
    case h_3 => exact ite (fun _ => h) fun _ => next_inside inside (removeIfIn_only s _ _)
    case h_4 | h_5 => exact next_inside inside (removeIfIn_only s _ _)
    all_goals exact h

theorem process {s : State} (h : s.outsidersEmpty) (wanted : Note → Bool) : (s.process wanted).outsidersEmpty := by
  unfold State.process
  split
  case h_1 r rest _ =>
    refine ite (fun _ => ?_) fun _ => h
    rw [processHead_eq]
    have told : (s.told r rest).outsidersEmpty := ((h.next (takeHead_only s rest)).withdrawTold r).hear r.sender
    have effect := ite (p := (s.told r rest).applies r = true) (fun applies => applyNote applies)
      fun _ => told.next (bumpQueue_only _ fun q => { q with notesIgnored := q.notesIgnored + 1 })
    exact (effect.next (keepLeaveClaimed_only _)).next (afterTap_only _)
  case h_2 => exact h

/-! #### The window -/

theorem answer {s : State} (h : s.outsidersEmpty) (code : Byte) (r : Result) (value : Word) :
    (s.answer code r value).outsidersEmpty := h.next (answer_only s code r value)

theorem take {s : State} (h : s.outsidersEmpty) (code : Byte) {body : State → State}
    (taken : ∀ v : State, v.outsidersEmpty → (body v).outsidersEmpty) : (s.take code body).outsidersEmpty :=
  ite (fun _ => h.next (collide_only s)) fun _ => taken _ (h.next (setWindow_only s _))

theorem acceptConfig {s : State} (h : s.outsidersEmpty) (unconfigured : s.mem.state = .unconfigured) (straps : Station)
    (samples : Vector Bool 4) : (s.acceptConfig straps samples).outsidersEmpty := by
  refine answer (fun _ => ?_) 1 .accepted _
  rw [changeState_mem]
  exact h (.inl unconfigured)

theorem resetMember (s : State) : s.resetMember.outsidersEmpty := by
  refine of_state (st := .leaving) ?_ (by decide)
  unfold State.resetMember
  dsimp only
  have claimed := fun x c => claimRoster_only x c .state (by decide)
  have withdrawn := fun x d k => withdrawAll_only x d k .state (by decide)
  refine (claimed _ _).trans ((withdrawn _ _ _).trans ?_)
  refine (Only.foldl (S := [.parts]) (fun v (p : Fin 8 × Fin 2) => modifyPart_only v p.1 p.2 _) _ _
    .state (by decide)).trans ?_
  show (s.changeState .leaving).mem.state = .leaving
  rw [changeState_mem]

theorem withCounters {s : State} (h : s.outsidersEmpty) (c : Counters) : ({ s with ctr := c } : State).outsidersEmpty := h

end State.outsidersEmpty

/-! ### The commands -/

open State.outsidersEmpty in
theorem signalEdge_outsidersEmpty (t : Moment) (i : Fin 4) (level : Bool) {s u : State} (start : (s.tick t).outsidersEmpty)
    (runs : execSignalEdge t i level s = .next u) : u.outsidersEmpty := by
  cases runs
  have taken (v : State) (mem : v.mem = (s.tick t).mem) : v.outsidersEmpty := start.of_mem mem
  dsimp only
  refine ite (fun _ => start) fun _ => ite (fun _ => taken _ rfl) fun _ => ite (fun _ => taken _ rfl) fun _ =>
    ite (fun _ => ?_) fun _ => taken _ rfl
  refine State.outsidersEmpty.next ?_ (claimEdge_only _ _ _)
  exact taken _ rfl

open State.outsidersEmpty in
theorem configCheck_outsidersEmpty (t : Moment) (upsets : List Host.Cell) {s u : State}
    (start : (s.tick t).outsidersEmpty) (runs : execConfigCheck t upsets s = .next u) : u.outsidersEmpty := by
  cases runs
  dsimp only
  split
  · refine ite (fun _ => ?_) fun _ => start
    split
    · exact start.of_mem (by simp only [bump_mem, State.upset])
    · refine (State.outsidersEmpty.corrupt ?_).keepLeaveClaimed_settle
      exact start.of_mem (by simp only [bump_mem, State.upset])
  · exact start

open State.outsidersEmpty in
theorem postGrant_outsidersEmpty (t : Moment) {s u : State} (start : (s.tick t).outsidersEmpty)
    (runs : execPostGrant t s = .next u) : u.outsidersEmpty := by
  cases runs
  refine start.take 4 fun v kept => ite (fun _ => kept.answer _ _ _) fun _ => ?_
  split
  · refine ite (fun _ => ?_) fun _ => kept.answer _ _ _
    refine ite (fun _ => kept.answer _ _ _) fun _ => ite (fun _ => kept.answer _ _ _) fun _ =>
      ite (fun _ => kept.answer _ _ _) fun _ => ite (fun _ => kept.answer _ _ _) fun _ =>
      ite (fun _ => kept.answer _ _ _) fun _ => answer ?_ _ _ _
    exact ((kept.next (setChannel_only _ _ _)).next (joinList_only _ _)).next (bumpFrames_only _ _)
  · exact kept.answer _ _ _

open State.outsidersEmpty in
theorem exec_outsidersEmpty (c : Instr) {s u : State} (h : s.outsidersEmpty) (next : exec c s = .next u) :
    u.outsidersEmpty := by
  have start : (s.tick c.moment).outsidersEmpty := h.next (tick_only s c.moment)
  have reset : State.reset.outsidersEmpty := by
    obtain ⟨_, _, _, _, _, _, _, _, _, _, _, outsiders⟩ := invariantsAtReset
    exact outsiders
  cases c <;> dsimp only [Instr.moment] at start
  case trigPulseEnd t tap => exact h.next (exec_tap_only (t := t) (tap := tap) (bytes := []) (by simp) next)
  case triggerTimeout t tap => exact h.next (exec_tap_only (t := t) (tap := tap) (bytes := []) (by simp) next)
  case syncWord t tap cut => exact h.next (exec_tap_only (t := t) (tap := tap) (bytes := cut) (by simp) next)
  case packetArrival t tap bytes => exact h.next (exec_tap_only (t := t) (tap := tap) (bytes := bytes) (by simp) next)
  case portIssue t => exact h.next (exec_link_only (t := t) (i := 0) (j := 0) (number := 0) (by simp) next)
  case flushCompletion t number => exact h.next (exec_link_only (t := t) (i := 0) (j := 0) (number := number) (by simp) next)
  case flushTimeout t i j => exact h.next (exec_link_only (t := t) (i := i) (j := j) (number := 0) (by simp) next)
  case recordFlushTimeout t => exact h.next (exec_link_only (t := t) (i := 0) (j := 0) (number := 0) (by simp) next)
  case legTimerExpiry t i j => exact h.next (exec_link_only (t := t) (i := i) (j := j) (number := 0) (by simp) next)
  case linkDown t => exact h.next (exec_link_only (t := t) (i := 0) (j := 0) (number := 0) (by simp) next)
  case linkUp t => exact h.next (exec_link_only (t := t) (i := 0) (j := 0) (number := 0) (by simp) next)
  all_goals cases next
  case powerOnReset t => exact reset
  case resetStation t => exact start.take 11 fun v _ => reset
  case encoderEvent t a b =>
    have paired := start.next (setPos_only _ { s.pos with reference := some (a, b) })
    dsimp only
    split
    · exact paired
    · split
      · exact paired
      · exact paired.next (countUp_only _)
      · exact paired.next (setPos_only _ _)
      · exact ((paired.next (bumpPosition_only _ _)).next (raise_only _ _)).lapseFrom _
  case strobeTimerExpiry t strobe =>
    dsimp only
    split
    · exact ite (fun _ => start.next (setPos_only _ _)) fun _ => start
    · exact start
  case noteSendStart t =>
    dsimp only
    split
    · exact start
    · have begun := fun role => start.next (beginNote_only _ role true none)
      exact ite (fun _ => (begun _).next (align_only _ _)) fun _ => begun _
  case leadMark t =>
    refine ite (fun _ => ite (fun _ => ?_) fun _ => ?_) fun _ => start
    · exact start.next (beginNote_only _ _ _ _)
    · exact (start.next (beginNote_only _ _ _ _)).next (bumpTrunk_only _ _)
  case stretchLimit t =>
    split
    · split
      · exact ite (fun _ => ((start.next (setWire_only _ _)).next (raise_only _ _)).lapseFrom _) fun _ => start
      · exact start
    · exact start
  case confirmSlot t cells othersVeto =>
    dsimp only
    split
    · exact ite (fun _ => start) fun _ =>
        ((ite (fun _ => start.giveVeto) fun _ => start).sampleNote _ _ _).keepLeaveClaimed_settle
    · exact start
  case noteAbandoned t cells =>
    split
    · exact ite (fun _ => start) fun _ => (start.abandon _ _).keepLeaveClaimed_settle
    · exact start
  case trunkIdle t => exact ite (fun _ => start.next (setTrunk_only _ _)) fun _ => start
  case trunkError t => exact ite (fun _ => (start.next (setTrunk_only _ _)).next (bumpTrunk_only _ _)) fun _ => start
  case stall t cells =>
    refine ite (fun _ => ?_) fun _ => start
    split
    · exact ite (fun _ => start) fun _ => (start.declareStall.stallSender _ _).keepLeaveClaimed_settle
    · exact start.declareStall
  case processSignal | processDrop | processOpen | processDone | processGate | processGrant | processRoll
    | processRosterJoin | processRosterLeave => exact start.process _
  case signalEdge t i level => exact signalEdge_outsidersEmpty t i level start rfl
  case groupFaultEdge t =>
    have low : ((s.tick t).setFaultLine false).outsidersEmpty := start.next (setWindow_only _ _)
    have counted := low.next (bumpWindow_only _ fun c => { c with groupFaultEdges := c.groupFaultEdges + 1 })
    exact ite (fun _ => ite (fun _ => counted.next (eventNoticed_only _ _ _)) fun _ => counted) fun _ => low
  case configCheck t upsets => exact configCheck_outsidersEmpty t upsets start rfl
  case listenTimerExpiry t => exact ite (fun _ => of_state (st := .joining) (by rw [changeState_mem]) (by decide)) fun _ => start
  case rollTimerExpiry t =>
    refine ite (fun member => of_state (st := .member) ?_ (by decide)) fun _ => start
    exact (claimRoll_only _ .state (by decide)).trans member.1
  case silenceTimerExpiry t p =>
    refine ite (fun member => of_state (st := .member) ?_ (by decide)) fun _ => start
    exact (claimDrop_only _ p .state (by decide)).trans member.1
  case acceptConfig t => exact start.take 1 fun v kept => ite (fun _ => kept) fun _ => kept.answer _ _ _
  case acceptConfigDone t straps samples =>
    refine ite (fun taken => ?_) fun _ => start
    split
    · exact start.answer _ _ _
    · exact start.acceptConfig taken.2 _ _
  case join t =>
    exact start.take 2 fun v kept => ite (fun _ => (State.outsidersEmpty.enterListening v).answer _ _ _) fun _ =>
      kept.answer _ _ _
  case leave t =>
    refine start.take 3 fun v kept => ?_
    split
    case h_1 | h_2 => exact ((State.outsidersEmpty.enterLeaving v).next (settle_only _)).answer _ _ _
    case h_3 => exact (State.outsidersEmpty.enterConfigured v _).answer _ _ _
    all_goals exact kept.answer _ _ _
  case postGrant t => exact postGrant_outsidersEmpty t start rfl
  case gateClose t =>
    exact start.take 5 fun v kept => ite (fun _ => kept.answer _ _ _) fun _ => ite (fun _ => kept.answer _ _ _) fun _ =>
      (kept.next (joinList_only _ _)).answer _ _ _
  case gateOpen t =>
    exact start.take 6 fun v kept => ite (fun _ => kept.answer _ _ _) fun _ => ite (fun _ => kept.answer _ _ _) fun _ =>
      (kept.next (joinList_only _ _)).answer _ _ _
  case mark t =>
    exact start.take 7 fun v kept => ite (fun _ => kept.answer _ _ _) fun _ => ite (fun _ => kept.answer _ _ _) fun _ =>
      ite (fun _ => kept.answer _ _ _) fun _ =>
      ((kept.next (joinList_only _ _)).next (bumpSignals_only _ _)).answer _ _ _
  case setOutput t =>
    refine start.take 8 fun v kept => ite (fun _ => kept.answer _ _ _) fun _ => ?_
    split
    · exact ite (fun _ => kept.answer _ _ _) fun _ => ite (fun _ => kept.answer _ _ _) fun _ =>
        (kept.next (setOutputState_only _ _ _)).answer _ _ _
    · exact kept.answer _ _ _
  case clearFaults t =>
    exact start.take 9 fun v kept => ite (fun _ => kept.answer _ _ _) fun _ =>
      (kept.next (setWindow_only _ _)).answer _ _ _
  case resetAcquisition t =>
    refine start.take 10 fun v kept => ?_
    dsimp only
    split
    · exact kept.answer _ _ _
    · exact ((State.outsidersEmpty.resetMember v.resetWindow).withCounters {}).answer _ _ _
    all_goals exact ((State.outsidersEmpty.enterConfigured v.resetWindow true).withCounters {}).answer _ _ _
  case resetStationComplete t => exact ite (fun _ => start.answer _ _ _) fun _ => start
  case unknownCommand t code =>
    exact ite (fun _ => start) fun _ => start.take code fun v kept => kept.answer _ _ _
  case commandCollision t => exact ite (fun _ => start.next (collide_only _)) fun _ => start
  case configWrite t location value =>
    exact ite (fun _ => start) fun _ => ite (fun _ => start.next (collide_only _)) fun _ =>
      ite (fun _ => start.next (bumpWindow_only _ _)) fun _ => ite (fun _ => start.next (setWindow_only _ _)) fun _ => start
  case ignoredWrite t location value => exact start
  case stallEnd t =>
    refine ite (fun _ => ?_) fun _ => start
    split
    · exact (start.resumeTrunk.abandon _ _).keepLeaveClaimed_settle
    · exact start.resumeTrunk
  case tkfltReleased t => exact start.next (setWindow_only _ _)
  case argumentWordWrite t index value => exact start.next (setWindow_only _ _)

end Sys2Proof.Machine

namespace Sys2Proof

open Machine

/-- Settles O11: every command keeps the emptiness outside the group. -/
theorem outsidersStayEmpty : Obligations.OutsidersStayEmpty := by
  intro s u h next
  unfold step at next
  split at next
  · cases next
    exact h
  case h_2 c rest _ => exact exec_outsidersEmpty c (s := { s with pending := rest }) h next

end Sys2Proof

/-! A received frame number is extended by a reference frame (R74). A note is read from its cells as it was written (R39, R46, R65 to R73, R186): each field, each list of fields, the payload
of each kind, the check. -/

namespace Sys2Proof.Machine

-- One proof at a time: the proofs of many statements at once take more threads than the memory holds.
set_option Elab.async false

/-! ### Fields -/

theorem length_cellsOf {w : Nat} (x : BitVec w) : (cellsOf x).length = w := by
  simp [cellsOf]

/-- The value of the first cells of a field is that of its highest bits. -/
theorem cellsValue_take_cellsOf {w : Nat} (x : BitVec w) (k : Nat) (few : k ≤ w) :
    cellsValue ((List.range k).map x.getMsbD) = x.toNat / 2 ^ (w - k) := by
  induction k with
  | zero =>
    have small := x.isLt
    simp [cellsValue, Nat.div_eq_of_lt small]
  | succ k ih =>
    have halves : x.toNat / 2 ^ (w - k) = x.toNat / 2 ^ (w - (k + 1)) / 2 := by
      rw [Nat.div_div_eq_div_mul, ← Nat.pow_succ]
      congr 2
      omega
    have bit : x.getMsbD k = decide (x.toNat / 2 ^ (w - (k + 1)) % 2 = 1) := by
      have within : k < w := by omega
      have place : w - 1 - k = w - (k + 1) := by omega
      rw [BitVec.getMsbD, BitVec.getLsbD, Nat.testBit_eq_decide_div_mod_eq, place]
      simp [within]
    have first := ih (by omega)
    unfold cellsValue at first ⊢
    rw [List.range_succ, List.map_append, List.foldl_append, first, halves, List.map_singleton, List.foldl_cons,
      List.foldl_nil, bit]
    by_cases odd : x.toNat / 2 ^ (w - (k + 1)) % 2 = 1
    · simp only [odd, decide_true, Bool.toNat_true]
      omega
    · simp only [odd, decide_false, Bool.toNat_false]
      omega

theorem cellsValue_cellsOf {w : Nat} (x : BitVec w) : cellsValue (cellsOf x) = x.toNat := by
  have whole := cellsValue_take_cellsOf x w le_rfl
  rwa [Nat.sub_self, pow_zero, Nat.div_one] at whole

@[simp] theorem takeField_cellsOf {w : Nat} (x : BitVec w) (rest : List Bool) :
    takeField w (cellsOf x ++ rest) = some (x, rest) := by
  have long : w ≤ (cellsOf x ++ rest).length := by rw [List.length_append, length_cellsOf]; omega
  rw [takeField, if_pos long, List.take_left' (length_cellsOf x), List.drop_left' (length_cellsOf x), cellsValue_cellsOf,
    BitVec.ofNat_toNat, BitVec.setWidth_eq]

@[simp] theorem readFlag_flagCell (b : Bool) (rest : List Bool) : readFlag (flagCell b ++ rest) = some (b, rest) := rfl

@[simp] theorem readStation_cellsOf (p : Fin 8) (rest : List Bool) :
    readStation (cellsOf (BitVec.ofNat 3 p.val) ++ rest) = some (p, rest) := by
  have value : (BitVec.ofNat 3 p.val).toFin = p := Fin.ext (Nat.mod_eq_of_lt p.isLt)
  rw [readStation, takeField_cellsOf, Option.map_some]
  dsimp only
  rw [value]

@[simp] theorem readOrigin_originCode (o : Origin) (rest : List Bool) :
    readOrigin (cellsOf (originCode o) ++ rest) = some (o, rest) := by
  rw [readOrigin, takeField_cellsOf, Option.bind_some]
  cases o with
  | sin input =>
    have small := input.isLt
    have value : (originCode (.sin input)).toNat = input.val := by
      rw [originCode, BitVec.toNat_ofNat]
      exact Nat.mod_eq_of_lt (by omega)
    simp only [value, small, dif_pos]
  | host => rfl

@[simp] theorem readSteer_steerCells (e : Option Steer) (rest : List Bool) :
    readSteer (steerCells e ++ rest) = some (e, rest) := by
  cases e with
  | none => rfl
  | some e =>
    simp only [steerCells, readSteer, readFlag, List.cons_append, List.append_assoc, Option.bind_some, if_true,
      readStation_cellsOf, takeField_cellsOf, Option.map_some]

@[simp] theorem readEntries_entriesCells (e : StreamEntries) (rest : List Bool) :
    readEntries (entriesCells e ++ rest) = some (e, rest) := by
  cases e <;> simp [entriesCells, readEntries, List.append_assoc]

@[simp] theorem readCode12_cellsOf (b : Bool) (rest : List Bool) :
    readCode12 (cellsOf (if b then 2#2 else 1#2) ++ rest) = some (b, rest) := by
  rw [readCode12, takeField_cellsOf, Option.bind_some]
  cases b <;> rfl

/-! ### Lists of fields -/

theorem readMany_flatMap {α : Type} (readOne : List Bool → Option (α × List Bool)) (cells : α → List Bool) (l : List α)
    (one : ∀ x ∈ l, ∀ rest, readOne (cells x ++ rest) = some (x, rest)) (rest : List Bool) :
    readMany readOne l.length (l.flatMap cells ++ rest) = some (l, rest) := by
  induction l with
  | nil => rfl
  | cons x l ih =>
    rw [List.length_cons, readMany, List.flatMap_cons, List.append_assoc, one x (List.mem_cons_self ..), Option.bind_some]
    dsimp only
    rw [ih fun y hy => one y (List.mem_cons_of_mem x hy), Option.map_some]

theorem readRollChannel_cells (c : RollChannel) (legal : c.queueLength.toNat ≤ 16) (rest : List Bool) :
    readRollChannel (rollChannelCells c ++ rest) = some (c, rest) := by
  simp only [readRollChannel, rollChannelCells, List.append_assoc, readFlag_flagCell, Option.bind_some, takeField_cellsOf,
    if_pos legal]

/-- A count of at most 8 in its field of four cells. -/
theorem toNat_count {n : Nat} (few : n ≤ 8) : (BitVec.ofNat 4 n).toNat = n := by
  rw [BitVec.toNat_ofNat]
  exact Nat.mod_eq_of_lt (by omega)

theorem readRoll_rollCells (r : Roll) (legal : (Note.roll r).wf = true) (rest : List Bool) :
    readRoll (rollCells r ++ rest) = some (.roll r, rest) := by
  simp only [Note.wf, Bool.and_eq_true, decide_eq_true_iff, List.all_eq_true] at legal
  obtain ⟨⟨⟨occupied, some_channel⟩, channels⟩, lengths⟩ := legal
  simp only [readRoll, rollCells, List.append_assoc, takeField_cellsOf, readCode12_cellsOf, readFlag_flagCell,
    Option.bind_some, toNat_count occupied, if_pos occupied]
  rw [readMany_flatMap _ (fun f => cellsOf f) r.occupied fun f _ rest => takeField_cellsOf f rest]
  simp only [Option.bind_some, takeField_cellsOf, toNat_count channels, if_pos (And.intro some_channel channels)]
  rw [readMany_flatMap _ rollChannelCells r.channels fun c hc rest => readRollChannel_cells c (lengths c hc) rest]
  rfl

/-! ### Payloads and notes -/

theorem readPayload_payloadCells (n : Note) (legal : n.wf = true) (rest : List Bool) :
    readPayload (BitVec.ofNat 3 n.kind.code.val) (payloadCells n ++ rest) = some (n, rest) := by
  have join : cellsOf 1#2 = cellsOf (if false then 2#2 else 1#2) := rfl
  have leave : cellsOf 2#2 = cellsOf (if true then 2#2 else 1#2) := rfl
  cases n with
  | signal id level origin line =>
    simp only [readPayload, Note.kind, NoteKind.code, Fin.coe_ofNat_eq_mod, Nat.reduceMod, BitVec.reduceToNat, payloadCells, List.append_assoc, takeField_cellsOf, readFlag_flagCell, readOrigin_originCode,
      Option.bind_some, Option.map_some]
  | drop p =>
    simp only [readPayload, Note.kind, NoteKind.code, Fin.coe_ofNat_eq_mod, Nat.reduceMod, BitVec.reduceToNat, payloadCells, readStation_cellsOf, Option.map_some]
  | opening frame mask entries =>
    simp only [readPayload, Note.kind, NoteKind.code, Fin.coe_ofNat_eq_mod, Nat.reduceMod, BitVec.reduceToNat, payloadCells, List.append_assoc, takeField_cellsOf, readEntries_entriesCells, Option.bind_some,
      Option.map_some]
  | done frame stream delivered gapRows =>
    have code : (if delivered = true then 1#2 else 2#2) = if (!delivered) = true then 2#2 else 1#2 := by
      cases delivered <;> rfl
    have number : (if decide (stream = 1) = true then 1 else 0) = stream := by
      obtain rfl | rfl : stream = 0 ∨ stream = 1 := tap_cases stream <;> rfl
    simp only [readPayload, Note.kind, NoteKind.code, Fin.coe_ofNat_eq_mod, Nat.reduceMod, BitVec.reduceToNat, payloadCells, List.append_assoc, code, takeField_cellsOf, readFlag_flagCell, readCode12_cellsOf,
      Option.bind_some, Option.map_some, number, Bool.not_not]
  | gate isOpen frame =>
    simp only [readPayload, Note.kind, NoteKind.code, Fin.coe_ofNat_eq_mod, Nat.reduceMod, BitVec.reduceToNat, payloadCells, List.append_assoc, takeField_cellsOf, readCode12_cellsOf, Option.bind_some, Option.map_some]
  | grant channel seq base =>
    simp only [readPayload, Note.kind, NoteKind.code, Fin.coe_ofNat_eq_mod, Nat.reduceMod, BitVec.reduceToNat, payloadCells, List.append_assoc, takeField_cellsOf, readStation_cellsOf, Option.bind_some, Option.map_some]
  | roll r => exact readRoll_rollCells r legal rest
  | rosterJoin digest founding =>
    simp only [readPayload, Note.kind, NoteKind.code, Fin.coe_ofNat_eq_mod, Nat.reduceMod, BitVec.reduceToNat, payloadCells, List.append_assoc, join, readCode12_cellsOf, takeField_cellsOf, readFlag_flagCell,
      Option.bind_some, Option.map_some, Bool.false_eq_true, if_false]
  | rosterLeave =>
    simp only [readPayload, Note.kind, NoteKind.code, Fin.coe_ofNat_eq_mod, Nat.reduceMod, BitVec.reduceToNat, payloadCells, leave, readCode12_cellsOf, Option.bind_some, if_true]

end Sys2Proof.Machine

namespace Sys2Proof

open Machine

/-- Settles O14: header, payload and check in turn. -/
theorem notesReadAsWritten : Obligations.NotesReadAsWritten := by
  intro p n legal
  have body : (noteCells p n).take ((noteCells p n).length - 8) = bodyCells p n := by
    have length : (noteCells p n).length - 8 = (bodyCells p n).length := by
      rw [noteCells, List.length_append, length_cellsOf]
      omega
    rw [length, noteCells, List.take_left]
  unfold readNote
  rw [body]
  simp only [noteCells, bodyCells, List.append_assoc, takeField_cellsOf, readStation_cellsOf, Option.bind_some,
    readPayload_payloadCells n legal, if_true]

/-- Settles O17: the cases of the signed distance, by linear arithmetic modulo 65,536. -/
theorem framesExtended : Obligations.FramesExtended := by
  refine ⟨fun a c f => ?extended, fun a c k last below above => ?restored, fun a last => ⟨?high, ?low⟩⟩
  case extended =>
    have small := f.isLt
    unfold extendFrame
    dsimp only
    generalize frameOf a (lastLine a) = last
    split_ifs <;> omega
  case restored =>
    unfold extendFrame
    rw [BitVec.toNat_ofNat]
    dsimp only
    generalize frameOf a (lastLine a) = top at last ⊢
    split_ifs <;> omega
  case high =>
    have field : (1 : BitVec 16).toNat = 1 := rfl
    unfold extendFrame
    rw [field]
    dsimp only
    generalize frameOf a (lastLine a) = top at last ⊢
    split_ifs <;> omega
  case low =>
    have field : (65534 : BitVec 16).toNat = 65534 := rfl
    unfold extendFrame
    rw [field]
    dsimp only
    generalize frameOf a (lastLine a) = top at last ⊢
    split_ifs <;> omega

end Sys2Proof

/-! The position unit: encoder counting (R1, R5), due lines (R4, R6, R7, R8, R10, R11), and the pulses' ends (R8, R18). -/

namespace Sys2Proof.Machine

-- One proof at a time: the proofs of many statements at once take more threads than the memory holds.
set_option Elab.async false

/-! ### Encoder steps (R1) -/

theorem encoderStep_of_forward {p q : Bool × Bool} (forward : (p, q) ∈ forwardSteps) : encoderStep p q = .up := by
  revert p q
  decide

theorem encoderStep_of_backward {p q : Bool × Bool} (backward : (q, p) ∈ forwardSteps) : encoderStep p q = .down := by
  revert p q
  decide

/-- The station at an encoder event's moment, with the event's pair as the reference. -/
def State.paired (s : State) (t : Moment) (a b : Bool) : State :=
  { s.tick t with pos := { s.pos with reference := some (a, b) } }

theorem exec_encoderEvent_up {t : Moment} {a b : Bool} {s : State} {p : Bool × Bool} (reference : s.pos.reference = some p)
    (forward : (p, (a, b)) ∈ forwardSteps) : exec (.encoderEvent t a b) s = .next (s.paired t a b).countUp := by
  have meaning : exec (.encoderEvent t a b) s = execEncoderEvent t a b s := rfl
  simp only [meaning, execEncoderEvent, State.tick, reference, encoderStep_of_forward forward]
  rfl

theorem exec_encoderEvent_down {t : Moment} {a b : Bool} {s : State} {p : Bool × Bool}
    (reference : s.pos.reference = some p) (backward : ((a, b), p) ∈ forwardSteps) :
    exec (.encoderEvent t a b) s
      = .next { s.tick t with pos := { s.pos with reference := some (a, b), raw := s.pos.raw - 1 } } := by
  have meaning : exec (.encoderEvent t a b) s = execEncoderEvent t a b s := rfl
  simp only [meaning, execEncoderEvent, State.tick, reference, encoderStep_of_backward backward]

/-! ### Up-counts (R5) -/

/-- The group count passes W at an up-count when it stood at W. -/
theorem groupCount_passes (raw offset w : Word) : raw + 1 + offset = w + 1 ↔ raw + offset = w := by
  rw [add_right_comm]
  exact add_left_inj 1

theorem countUp_of_still {s : State} (still : s.pos.mode = .stopped ∨ s.groupCount ≠ s.pos.w) :
    s.countUp = { s with pos := { s.pos with raw := s.pos.raw + 1 } } := by
  unfold State.countUp
  dsimp only
  rw [if_neg]
  rintro ⟨running, passes⟩
  exact still.elim running fun off => off ((groupCount_passes _ _ _).mp passes)

/-- The station after an up-count that passes W, before the line that may be due. -/
def State.followed (s : State) : State := { s with pos := { s.pos with raw := s.pos.raw + 1, w := s.pos.w + 1 } }

/-- The next line is due (R5, R11). -/
def State.isDue (s : State) : Prop :=
  0 ≤ (s.pos.w + 1 - s.pos.nextDue).toInt ∧ s.pos.lineIndex < lastLine s.area

theorem countUp_of_passing {s : State} (running : s.pos.mode ≠ .stopped) (at_w : s.groupCount = s.pos.w) :
    (s.isDue → s.countUp = s.followed.lineDue) ∧ (¬ s.isDue → s.countUp = s.followed) := by
  have passes : ({ s with pos := { s.pos with raw := s.pos.raw + 1 } } : State).groupCount = s.pos.w + 1 :=
    (groupCount_passes _ _ _).mpr at_w
  have due : (countReached s.followed.pos.w s.followed.pos.nextDue = true
      ∧ s.followed.pos.lineIndex < lastLine s.followed.area) ↔ s.isDue := by
    rw [countReached, decide_eq_true_iff]
    rfl
  unfold State.countUp
  dsimp only
  rw [if_pos ⟨running, passes⟩]
  refine ⟨fun is_due => ?_, fun not_due => ?_⟩
  · exact if_pos (due.mpr is_due)
  · exact if_neg fun is_due => not_due (due.mp is_due)

/-! ### The line that is due (R5 to R8, R11) -/

/-- The line index rises, and the next due count by D. -/
def State.advanced (s : State) : State :=
  { s with pos := { s.pos with
      lineIndex := s.pos.lineIndex + 1, nextDue := s.pos.nextDue + BitVec.ofNat 32 (cfgD s.area)
      indexEnd := s.pos.lineIndex + 1 == lastLine s.area } }

theorem lineDue_eq (s : State) : s.lineDue = (s.advanced.takeDue (s.pos.lineIndex + 1)).presentAdvance := rfl

/-- The strobes after those of a phase have fired. -/
def State.strobesFired (s : State) (phase : Nat) : Vector (Option Moment) 4 :=
  Vector.ofFn fun i : Fin 4 =>
    if cfgStrobeNamed s.area phase i then some (s.now + cfgStrobeWidth s.area) else s.pos.strobes[i]

theorem takeDue_of_idle {s : State} (idle : s.pos.mode ≠ .issuing) (n : Nat) : s.takeDue n = s := by
  unfold State.takeDue
  split
  · next issuing => exact absurd issuing idle
  all_goals rfl

theorem takeDue_of_soon {s : State} (issuing : s.pos.mode = .issuing) (soon : s.tooSoon = true) (n : Nat) :
    s.takeDue n = s.bump (countPosition fun c => { c with linesSuppressed := c.linesSuppressed + 1 }) := by
  unfold State.takeDue
  rw [issuing, if_pos soon]

theorem takeDue_of_late {s : State} (issuing : s.pos.mode = .issuing) (late : s.tooSoon = false) (n : Nat) :
    s.takeDue n = s.issueLine n := by
  unfold State.takeDue
  rw [issuing, late, if_neg Bool.false_ne_true]

theorem issueLine_pos (s : State) (n : Nat) :
    (s.issueLine n).pos = { s.pos with lastIssue := some s.now, strobes := s.strobesFired (phaseOf s.area n) } := by
  simp [State.issueLine, State.fireStrobes, State.strobesFired]

/-- A due line moves nothing of the position unit but the last issue time and the strobes. -/
theorem takeDue_pos (s : State) (n : Nat) : ∃ last strobes,
    (s.takeDue n).pos = { s.pos with lastIssue := last, strobes := strobes } := by
  by_cases issuing : s.pos.mode = .issuing
  · cases soon : s.tooSoon
    · rw [takeDue_of_late issuing soon]
      exact ⟨_, _, issueLine_pos s n⟩
    · rw [takeDue_of_soon issuing soon]
      exact ⟨s.pos.lastIssue, s.pos.strobes, rfl⟩
  · rw [takeDue_of_idle issuing]
    exact ⟨s.pos.lastIssue, s.pos.strobes, rfl⟩

/-- Nothing of the position unit moves when the other units act on an advance. -/
theorem presentAdvance_pos_eq (s : State) : s.presentAdvance.pos = s.pos := (presentAdvance_only s).pos_same

theorem lineDue_pos (s : State) : ∃ last strobes,
    s.lineDue.pos = { s.advanced.pos with lastIssue := last, strobes := strobes } := by
  rw [lineDue_eq, presentAdvance_pos_eq]
  exact takeDue_pos _ _

/-- An up-count keeps the reference, the offset and the mode (R1). -/
theorem countUp_pos (s : State) : s.countUp.pos.raw = s.pos.raw + 1 ∧ s.countUp.pos.reference = s.pos.reference
    ∧ s.countUp.pos.offset = s.pos.offset ∧ s.countUp.pos.mode = s.pos.mode := by
  by_cases still : s.pos.mode = .stopped ∨ s.groupCount ≠ s.pos.w
  · rw [countUp_of_still still]
    exact ⟨rfl, rfl, rfl, rfl⟩
  · rw [not_or, not_not] at still
    obtain ⟨when_due, else_⟩ := countUp_of_passing still.1 still.2
    by_cases due : s.isDue
    · rw [when_due due]
      obtain ⟨last, strobes, pos⟩ := lineDue_pos s.followed
      rw [pos]
      exact ⟨rfl, rfl, rfl, rfl⟩
    · rw [else_ due]
      exact ⟨rfl, rfl, rfl, rfl⟩

end Sys2Proof.Machine

namespace Sys2Proof

open Machine

/-- Settles O18: the three steps of the encoder. -/
theorem encoderCounts : Obligations.EncoderCounts := by
  intro t a b s
  refine ⟨fun none_yet => ?first, fun p reference backward => exec_encoderEvent_down reference backward,
    fun p reference forward => ⟨fun still => ?still, ?raised⟩⟩
  case first =>
    have meaning : exec (.encoderEvent t a b) s = execEncoderEvent t a b s := rfl
    simp only [meaning, execEncoderEvent, State.tick, none_yet]
  case still =>
    rw [exec_encoderEvent_up reference forward, countUp_of_still (s := s.paired t a b) still]
    rfl
  case raised => exact ⟨_, exec_encoderEvent_up reference forward, countUp_pos (s.paired t a b)⟩

/-- Settles O22: a pulse ends at a moment that is not before its deadline. -/
theorem pulsesEnd : Obligations.PulsesEnd := by
  refine fun t s => ⟨fun i deadline high due => ?_, fun tap deadline active due => ?_⟩
  · have meaning : exec (.strobeTimerExpiry t i) s = execStrobeTimerExpiry t i s := rfl
    have due' : deadline ≤ (s.tick t).now := due
    simp only [meaning, execStrobeTimerExpiry, tick_pos, high, if_pos due']
  · have meaning : exec (.trigPulseEnd t tap) s = execTrigPulseEnd t tap s := rfl
    have due' : deadline ≤ (s.tick t).now := due
    simp only [meaning, execTrigPulseEnd, tick_taps, active, if_pos due']
    rfl

end Sys2Proof

/-! A line that falls due (R5 to R8, R10, R11, R17, R18): what the units do at the advance, and what becomes of the line by
the position unit's mode. -/

namespace Sys2Proof.Machine

-- One proof at a time: the proofs of many statements at once take more threads than the memory holds.
set_option Elab.async false

/-! ### The frame table from its pieces -/

/-- A slot is what it holds but for own parts, with its own parts. -/
theorem slot_ext {x y : Slot} (bare : x.bare = y.bare)
    (own : ∀ j : Fin 2, (x.entry.map fun e => e.legs[j]).bind Leg.own = (y.entry.map fun e => e.legs[j]).bind Leg.own) :
    x = y := by
  cases x <;> cases y <;> simp only [Slot.bare, reduceCtorEq] at bare
  case free.free => rfl
  case foreign.foreign => exact bare
  case known.known e f =>
    obtain ⟨frame, resumed, legs⟩ := Entry.mk.inj (Slot.known.inj bare)
    have same : e.legs = f.legs := by
      refine Vector.ext fun j hj => ?_
      have bare_j := map_eq_getElem legs ⟨j, hj⟩
      have own_j : (e.legs[j]).own = (f.legs[j]).own := own ⟨j, hj⟩
      calc e.legs[j] = { (e.legs[j]).bare with own := (e.legs[j]).own } := rfl
        _ = { (f.legs[j]).bare with own := (f.legs[j]).own } := by
          rw [own_j, show (e.legs[j]).bare = (f.legs[j]).bare from bare_j]
        _ = f.legs[j] := rfl
    obtain ⟨_, _, _⟩ := e
    obtain ⟨_, _, _⟩ := f
    cases frame
    cases resumed
    cases same
    rfl

theorem Only.frames_same {S : List Piece} {s u : State} (h : Only S s u) (entries_out : .entries ∉ S := by decide)
    (parts_out : .parts ∉ S := by decide) (h_out : .h ∉ S := by decide) (channels_out : .channels ∉ S := by decide)
    (rotation_out : .rotation ∉ S := by decide) (lost_out : .lostGrant ∉ S := by decide)
    (gate_out : .gate ∉ S := by decide) : u.frames = s.frames := by
  have slots : u.frames.slots = s.frames.slots := by
    refine Vector.ext fun i hi => slot_ext (map_eq_getElem (h .entries entries_out) ⟨i, hi⟩) fun j => ?_
    have parts : u.partAt = s.partAt := h .parts parts_out
    exact congrFun (congrFun parts ⟨i, hi⟩) j
  rw [h.frames_eq h_out channels_out rotation_out lost_out gate_out, slots]

/-! ### The advance (R10) -/

theorem presentAdvance_outputs (s : State) :
    s.presentAdvance.signals.outputs = s.signals.outputs.map (Output.advance s.pos.lineIndex) := by
  simp [State.presentAdvance, State.advanceOutputs]

theorem presentAdvance_tx (s : State) : s.presentAdvance.tx = s.claimAtAdvance.tx := by
  simp [State.presentAdvance]

/-- What an advance leaves of an output's schedule and sets of its level (R165, R166). -/
theorem output_advance (n : Nat) (o : Output) :
    (o.advance n).ranges = o.ranges.dropWhile (fun r => decide (r.2 ≤ n))
      ∧ (o.advance n).changes = o.changes.dropWhile (fun c => decide (c.1 ≤ n)) ∧ (o.advance n).manual = o.manual
      ∧ (match (o.changes.takeWhile fun c => decide (c.1 ≤ n)).getLast? with
          | some c => (o.advance n).follow = c.2 ∧ (o.advance n).lastApplied = some c.1
          | none => (o.advance n).follow = o.follow ∧ (o.advance n).lastApplied = o.lastApplied) := by
  refine ⟨rfl, rfl, rfl, ?_⟩
  cases last : (o.changes.takeWhile fun c => decide (c.1 ≤ n)).getLast? <;> simp [Output.advance, last]

theorem asserted_pulse {s : State} {j : Fin 4} (pulse : cfgOutputMode s.area j = .pulse) :
    s.asserted j = true ↔ ∃ r rest, (s.signals.outputs[j]).ranges = r :: rest ∧ r.1 ≤ s.pos.lineIndex
      ∧ s.pos.lineIndex < r.2 := by
  unfold State.asserted
  dsimp only
  rw [pulse]
  dsimp only
  cases ranges : (s.signals.outputs[j]).ranges with
  | nil => simp
  | cons r rest => simp

/-! ### The claim of OPEN (R60, R101a) -/

theorem onWire_congr {s u : State} (trunk : u.trunk = s.trunk) (k : NoteKind) : u.onWire k = s.onWire k := by
  unfold State.onWire State.wireKind
  rw [trunk]

theorem pendingOf_congr {s u : State} (tx : u.tx = s.tx) (k : NoteKind) : u.pendingOf k = s.pendingOf k := by
  unfold State.pendingOf
  rw [tx]

theorem setPending_tx_congr {s u : State} (tx : u.tx = s.tx) (k : NoteKind) (l : List Pending) :
    (u.setPending k l).tx = (s.setPending k l).tx := by
  simp only [State.setPending, tx]

theorem joinList_tx_congr {s u : State} (tx : u.tx = s.tx) (c : Claim) : (u.joinList c).tx = (s.joinList c).tx := by
  simp only [State.joinList, bump_tx, pendingOf_congr tx]
  exact setPending_tx_congr tx _ _

/-- A claim of OPEN depends on the transmit queue and on the note on the wire alone. -/
theorem claimOpening_tx_congr {s u : State} (tx : u.tx = s.tx) (trunk : u.trunk = s.trunk) (k : Nat) :
    (u.claimOpening k).tx = (s.claimOpening k).tx := by
  have withdrawn (v : State) (n : Pending) : (v.withdrawn n false).tx = v.tx := withdrawn_only v n false .tx (by decide)
  unfold State.claimOpening
  rw [pendingOf_congr tx, onWire_congr trunk]
  split
  · exact joinList_tx_congr tx _
  · split
    · split
      · exact tx
      · split
        · exact tx
        · refine joinList_tx_congr (setPending_tx_congr ?_ _ _) _
          rw [withdrawn, withdrawn, tx]
    all_goals exact tx

/-- The station claims OPEN for frame k at an advance into it. -/
def State.opensAt (s : State) (k : Nat) : Prop := s.openerEligible k = true ∧ s.frames.h < k ∧ s.allowed k = true

theorem claimAtAdvance_of_opens {s : State} (opens : s.opensAt s.currentFrame) :
    s.claimAtAdvance = s.claimOpening s.currentFrame := by
  obtain ⟨eligible, above, allowed⟩ := opens
  simp [State.claimAtAdvance, eligible, above, allowed]

theorem claimAtAdvance_of_not_opens {s : State} (stays : ¬ s.opensAt s.currentFrame) : s.claimAtAdvance = s := by
  unfold State.claimAtAdvance
  dsimp only
  refine if_neg fun opens => stays ?_
  simp only [Bool.and_eq_true, decide_eq_true_iff] at opens
  obtain ⟨⟨eligible, above⟩, allowed⟩ := opens
  exact ⟨eligible, above, allowed⟩

theorem opensAt_congr {s u : State} (mem : u.mem = s.mem) (frames : u.frames = s.frames) (k : Nat) :
    u.opensAt k ↔ s.opensAt k := by
  unfold State.opensAt State.openerEligible State.noForeign State.allowed
  rw [mem, frames]

/-! ### The line that is due -/

theorem takeDue_only_record (s : State) (n : Nat) : (s.takeDue n).mem = s.mem ∧ (s.takeDue n).tx = s.tx
    ∧ (s.takeDue n).trunk = s.trunk ∧ (s.takeDue n).signals = s.signals ∧ (s.takeDue n).area = s.area := by
  have only := takeDue_only s n
  exact ⟨only.mem_same, only .tx (by decide), only.trunk_same, only.signals_same, only.area_eq.1⟩

theorem takeDue_frames (s : State) (n : Nat) : (s.takeDue n).frames = s.frames := (takeDue_only s n).frames_same

/-- The due line's OPEN is the one that the station claims before it (R101a). -/
theorem lineDue_tx {s : State} (running : s.pos.mode ≠ .stopped) :
    (s.opensAt (frameOf s.area (s.pos.lineIndex + 1)) →
        s.lineDue.tx = (s.claimOpening (frameOf s.area (s.pos.lineIndex + 1))).tx)
      ∧ (¬ s.opensAt (frameOf s.area (s.pos.lineIndex + 1)) → s.lineDue.tx = s.tx) := by
  rw [lineDue_eq, presentAdvance_tx]
  have only := takeDue_only s.advanced (s.pos.lineIndex + 1)
  obtain ⟨last, strobes, pos⟩ := takeDue_pos s.advanced (s.pos.lineIndex + 1)
  generalize s.advanced.takeDue (s.pos.lineIndex + 1) = v at only pos ⊢
  have tx : v.tx = s.tx := only .tx (by decide)
  have frame : v.currentFrame = frameOf s.area (s.pos.lineIndex + 1) := by
    have area : v.area = s.area := only.area_eq.1
    rw [State.currentFrame, area, currentFrame_of_running _ (by rw [pos]; exact running), pos]
    rfl
  have same := opensAt_congr (s := s) only.mem_same only.frames_same v.currentFrame
  rw [← frame]
  refine ⟨fun opens => ?_, fun stays => ?_⟩
  · rw [claimAtAdvance_of_opens (same.mpr opens)]
    exact claimOpening_tx_congr tx only.trunk_same _
  · rw [claimAtAdvance_of_not_opens fun opens => stays (same.mp opens), tx]

theorem lineDue_outputs (s : State) :
    s.lineDue.signals.outputs = s.signals.outputs.map (Output.advance (s.pos.lineIndex + 1)) := by
  obtain ⟨last, strobes, pos⟩ := takeDue_pos s.advanced (s.pos.lineIndex + 1)
  have signals : (s.advanced.takeDue (s.pos.lineIndex + 1)).signals = s.signals := (takeDue_only _ _).signals_same
  rw [lineDue_eq, presentAdvance_outputs, signals, pos]
  rfl

theorem claimOpening_of_empty {s : State} (empty : s.pendingOf .opening = []) (k : Nat) :
    (s.claimOpening k).pendingOf .opening = [{ claim := .opening k, attempts := 0, doom := .none }] := by
  unfold State.claimOpening
  rw [empty]
  have joined := joinList_pendingOf_same s (.opening k)
  simpa [Claim.kind, empty] using joined

end Sys2Proof.Machine

namespace Sys2Proof

open Machine

/-- Settles O20: the up-count at W, with a line due and without. -/
theorem dueLineAdvances : Obligations.DueLineAdvances := by
  intro t p a b s reference forward running at_w
  obtain ⟨when_due, else_⟩ := countUp_of_passing (s := s.paired t a b) running at_w
  refine ⟨_, exec_encoderEvent_up reference forward, ?_⟩
  by_cases due : 0 ≤ (s.pos.w + 1 - s.pos.nextDue).toInt ∧ s.pos.lineIndex < lastLine s.area
  case neg =>
    rw [else_ due]
    refine ⟨rfl, ?_, fun _ => ⟨rfl, rfl, fun tap => rfl⟩⟩
    rw [if_neg due]
    exact ⟨rfl, rfl, rfl, rfl, rfl⟩
  case pos =>
    rw [when_due due]
    have only : Only countPieces (s.paired t a b).followed _ := lineDue_only _
    have outputs := lineDue_outputs (s.paired t a b).followed
    obtain ⟨of_opens, of_stays⟩ := lineDue_tx (s := (s.paired t a b).followed) running
    obtain ⟨last, strobes, pos⟩ := lineDue_pos (s.paired t a b).followed
    have idle (tracking : s.pos.mode = .tracking) := takeDue_of_idle (s := (s.paired t a b).followed.advanced)
      (by show s.pos.mode ≠ .issuing; rw [tracking]; decide) (s.pos.lineIndex + 1)
    have advance := presentAdvance_only
      ((s.paired t a b).followed.advanced.takeDue ((s.paired t a b).followed.pos.lineIndex + 1))
    rw [← lineDue_eq] at advance
    generalize (s.paired t a b).followed.lineDue = u at only outputs of_opens of_stays pos advance ⊢
    refine ⟨by rw [pos]; rfl, ?_, fun tracking => ?_⟩
    · rw [if_pos due]
      have index : u.pos.lineIndex = s.pos.lineIndex + 1 := by rw [pos]; rfl
      have claimed (opens : s.opensAt (frameOf s.area (s.pos.lineIndex + 1))) :
          u.tx = (s.claimOpening (frameOf s.area (s.pos.lineIndex + 1))).tx :=
        (of_opens opens).trans
          (claimOpening_tx_congr (s := s) (u := (s.paired t a b).followed) rfl rfl _)
      refine ⟨index, by rw [pos]; rfl, ?_, fun j => ?_, claimed, fun opens empty => ?_, of_stays⟩
      · rw [index, pos]
        exact beq_iff_eq
      · have output : u.signals.outputs[j] = s.signals.outputs[j].advance (s.pos.lineIndex + 1) := by
          rw [outputs]
          exact getElem_map_fin _ _ j
        obtain ⟨ranges, changes, manual, level⟩ := output_advance (s.pos.lineIndex + 1) s.signals.outputs[j]
        rw [output]
        refine ⟨ranges, changes, manual, level, fun pulse => ?_⟩
        have area : u.area = s.area := only.area_eq.1
        rw [asserted_pulse (by rw [area]; exact pulse), output, index]
      · rw [pendingOf_congr (claimed opens)]
        exact claimOpening_of_empty empty _
    · have same := idle tracking
      rw [show (s.paired t a b).followed.pos.lineIndex + 1 = s.pos.lineIndex + 1 from rfl, same] at advance
      refine ⟨advance .posCtr (by decide), ?_, fun tap => ?_⟩
      · rw [advance.pos_same]
        rfl
      · rw [advance.tap_eq tap]
        rfl

end Sys2Proof

/-! The issue of a due line (R6, R7, R8, R17, R18): the taps are handed the trigger record one after the other, and each is
served as if it were alone. -/

namespace Sys2Proof.Machine

-- One proof at a time: the proofs of many statements at once take more threads than the memory holds.
set_option Elab.async false

/-! ### A tap's counters -/

theorem countTap_same (t : Tap) (f : TapCounters → TapCounters) (c : Counters) :
    (countTap t f c).taps[t] = f c.taps[t] := Vector.getElem_set_self ..

theorem countTap_of_ne {r t : Tap} (other : r ≠ t) (f : TapCounters → TapCounters) (c : Counters) :
    (countTap t f c).taps[r] = c.taps[r] := getElem_set_of_ne c.taps _ other

/-! ### A tap that is handed a record (R7, R17, R18) -/

/-- What a record does to another tap, and to what decides that tap's mode: nothing. -/
theorem handRecord_of_ne (s : State) {o t : Tap} (other : o ≠ t) (r : Trigger) :
    (s.handRecord t r).taps[o] = s.taps[o] ∧ (s.handRecord t r).ctr.taps[o] = s.ctr.taps[o] := by
  have raised (v : State) : (v.raise .poolOverrun).taps = v.taps ∧ (v.raise .poolOverrun).ctr.taps = v.ctr.taps :=
    ⟨raise_taps v _, raise_only v .poolOverrun .tapsCtr (by decide)⟩
  unfold State.handRecord
  split
  · exact ⟨rfl, rfl⟩
  · unfold State.takeLive
    dsimp only
    split
    · exact ⟨setTap_taps_of_ne s _ other, countTap_of_ne other _ _⟩
    · exact ⟨rfl, countTap_of_ne other _ _⟩
  · unfold State.takePattern
    split
    · exact ⟨setTap_taps_of_ne s _ other, countTap_of_ne other _ _⟩
    · obtain ⟨taps, counted⟩ := raised (s.bump (countTap t fun c => { c with poolOverrun := c.poolOverrun + 1 }))
      simp only [taps, counted, bump_taps, bump_ctr]
      exact ⟨trivial, countTap_of_ne other _ _⟩

/-- Each tap is served as if it were alone (R7; log 7). -/
theorem handRecords_at (s : State) (r : Trigger) (t : Tap) : ∃ v : State,
    v.taps[t] = s.taps[t] ∧ v.ctr.taps[t] = s.ctr.taps[t] ∧ v.tapMode t = s.tapMode t ∧ v.now = s.now
      ∧ (s.handRecords r).taps[t] = (v.handRecord t r).taps[t]
      ∧ (s.handRecords r).ctr.taps[t] = (v.handRecord t r).ctr.taps[t] := by
  have drawn : ({ s with draws := s.draws + 1 } : State).taps = s.taps := rfl
  have alone (v : State) (o : Tap) (other : t ≠ o) : ((v.handRecord t r).handRecord o r).taps[t] = (v.handRecord t r).taps[t]
      ∧ ((v.handRecord t r).handRecord o r).ctr.taps[t] = (v.handRecord t r).ctr.taps[t] := handRecord_of_ne _ other r
  have mode (v : State) (o : Tap) : (v.handRecord o r).tapMode t = v.tapMode t := by
    have only := handRecord_only v o r
    unfold State.tapMode State.configured State.self
    rw [only.mem_same, only.area_eq.1]
  have now (v : State) (o : Tap) : (v.handRecord o r).now = v.now := handRecord_only v o r .now (by decide)
  have before (o : Tap) (other : t ≠ o) := handRecord_of_ne { s with draws := s.draws + 1 } other r
  unfold State.handRecords
  dsimp only
  split
  · obtain rfl | rfl := tap_cases t
    · have served := before 1 (by decide)
      exact ⟨_, served.1, served.2, mode _ 1, now _ 1, rfl, rfl⟩
    · have served := alone { s with draws := s.draws + 1 } 0 (by decide)
      exact ⟨{ s with draws := s.draws + 1 }, rfl, rfl, rfl, rfl, served.1, served.2⟩
  · obtain rfl | rfl := tap_cases t
    · have served := alone { s with draws := s.draws + 1 } 1 (by decide)
      exact ⟨{ s with draws := s.draws + 1 }, rfl, rfl, rfl, rfl, served.1, served.2⟩
    · have served := before 0 (by decide)
      exact ⟨_, served.1, served.2, mode _ 0, now _ 0, rfl, rfl⟩

theorem handRecord_live {s : State} {t : Tap} {r : Trigger} (live : s.tapMode t = .live) : s.handRecord t r = s.takeLive t r := by
  simp [State.handRecord, live]

theorem takeLive_taken {s : State} {t : Tap} {r : Trigger} (room : (s.taps[t]).triggers.length < 4) :
    (s.takeLive t r).taps[t]
        = { s.taps[t] with triggers := (s.taps[t]).triggers ++ [r], pulse := some (s.now + 1000) }
      ∧ (s.takeLive t r).ctr.taps[t] = { s.ctr.taps[t] with triggersSent := (s.ctr.taps[t]).triggersSent + 1 } := by
  unfold State.takeLive
  rw [if_pos room]
  exact ⟨setTap_taps_same s t _, countTap_same t _ _⟩

theorem takeLive_refused {s : State} {t : Tap} {r : Trigger} (full : 4 ≤ (s.taps[t]).triggers.length) :
    (s.takeLive t r).taps[t] = s.taps[t]
      ∧ (s.takeLive t r).ctr.taps[t] = { s.ctr.taps[t] with overtrigger := (s.ctr.taps[t]).overtrigger + 1 } := by
  unfold State.takeLive
  rw [if_neg full.not_gt]
  exact ⟨rfl, countTap_same t _ _⟩

theorem handRecord_off {s : State} {t : Tap} {r : Trigger} (off : s.tapMode t = .off) : s.handRecord t r = s := by
  simp [State.handRecord, off]

/-- A tap after the records have been handed, by its mode and its room. -/
theorem handRecords_cases (s : State) (r : Trigger) (t : Tap) :
    (s.tapMode t = .live → (s.taps[t]).triggers.length < 4 →
        (s.handRecords r).taps[t]
            = { s.taps[t] with triggers := (s.taps[t]).triggers ++ [r], pulse := some (s.now + 1000) }
          ∧ (s.handRecords r).ctr.taps[t] = { s.ctr.taps[t] with triggersSent := (s.ctr.taps[t]).triggersSent + 1 })
    ∧ (s.tapMode t = .live → 4 ≤ (s.taps[t]).triggers.length →
        (s.handRecords r).taps[t] = s.taps[t]
          ∧ (s.handRecords r).ctr.taps[t] = { s.ctr.taps[t] with overtrigger := (s.ctr.taps[t]).overtrigger + 1 })
    ∧ (s.tapMode t = .off →
        (s.handRecords r).taps[t] = s.taps[t] ∧ (s.handRecords r).ctr.taps[t] = s.ctr.taps[t]) := by
  obtain ⟨v, tap, ctr, mode, now, result, counted⟩ := handRecords_at s r t
  rw [result, counted, ← tap, ← ctr, ← mode, ← now]
  refine ⟨fun live room => ?_, fun live full => ?_, fun off => ?_⟩
  · rw [handRecord_live live]
    exact takeLive_taken room
  · rw [handRecord_live live]
    exact takeLive_refused full
  · rw [handRecord_off off]
    exact ⟨rfl, rfl⟩

/-! ### The issue -/

theorem tooSoon_iff (s : State) : s.tooSoon = true ↔ ∃ m, s.pos.lastIssue = some m ∧ s.now < m + cfgLinePeriod s.area := by
  unfold State.tooSoon
  cases s.pos.lastIssue <;> simp

end Sys2Proof.Machine

namespace Sys2Proof

open Machine

/-- Settles O21: the suppression and the issue of the line that is due. -/
theorem dueLineIssuedOrSuppressed : Obligations.DueLineIssuedOrSuppressed := by
  intro t p a b s reference forward issuing at_w reached within
  obtain ⟨when_due, _⟩ := countUp_of_passing (s := s.paired t a b) (by show s.pos.mode ≠ _; rw [issuing]; decide) at_w
  refine ⟨_, exec_encoderEvent_up reference forward, ?_⟩
  rw [when_due ⟨reached, within⟩, lineDue_eq]
  have now : ((s.paired t a b).followed.advanced.takeDue ((s.paired t a b).followed.pos.lineIndex + 1)).now = max s.now t :=
    takeDue_only _ _ .now (by decide)
  have only := presentAdvance_only
    ((s.paired t a b).followed.advanced.takeDue ((s.paired t a b).followed.pos.lineIndex + 1))
  have pos := only.pos_same
  have now' := only .now (by decide)
  have posCtr := only .posCtr (by decide)
  have tapsCtr := only .tapsCtr (by decide)
  simp only [Piece.view] at now' posCtr tapsCtr
  have body (tap : Tap) := only.tap_eq tap
  have triggers (tap : Tap) := congrArg TapState.triggers (body tap)
  have pulse (tap : Tap) := congrArg TapState.pulse (body tap)
  have index (n : Nat) := takeDue_pos (s.paired t a b).followed.advanced n
  generalize State.presentAdvance _ = u at pos now' posCtr tapsCtr triggers pulse ⊢
  rw [now] at now'
  refine ⟨?index, fun soon => ?suppressed, fun late => ?issued⟩
  case index =>
    obtain ⟨last, strobes, at_pos⟩ := index (s.pos.lineIndex + 1)
    rw [pos]
    exact congrArg Position.lineIndex at_pos
  case suppressed =>
    have soon' : (s.paired t a b).followed.advanced.tooSoon = true := by
      rw [tooSoon_iff]
      rw [now'] at soon
      exact soon
    rw [takeDue_of_soon (s := (s.paired t a b).followed.advanced) issuing soon'] at pos posCtr triggers pulse
    rw [pos, posCtr]
    exact ⟨rfl, rfl, rfl, fun tap => ⟨triggers tap, pulse tap⟩⟩
  case issued =>
    have late' : (s.paired t a b).followed.advanced.tooSoon = false := by
      rw [← Bool.not_eq_true, tooSoon_iff]
      rintro ⟨m, last, soon⟩
      rw [now'] at late
      exact absurd soon (late m last).not_gt
    rw [takeDue_of_late (s := (s.paired t a b).followed.advanced) issuing late'] at pos posCtr tapsCtr triggers pulse
    rw [issueLine_pos] at pos
    rw [now', pos, posCtr]
    refine ⟨rfl, ?_, fun i => ?_, fun tap => ?_⟩
    · have handed := handRecords_only (({ (s.paired t a b).followed.advanced with pos :=
        { (s.paired t a b).followed.advanced.pos with lastIssue := some (max s.now t) } }).bump
          (countPosition fun c => { c with linesIssued := c.linesIssued + 1 }))
          { index := s.pos.lineIndex + 1, phase := phaseOf s.area (s.pos.lineIndex + 1), issued := max s.now t }
      exact handed .posCtr (by decide)
    · exact (Vector.getElem_ofFn ..).trans rfl
    · obtain ⟨taken, refused, off⟩ := handRecords_cases
        (({ (s.paired t a b).followed.advanced with pos :=
          { (s.paired t a b).followed.advanced.pos with lastIssue := some (max s.now t) } }).bump
            (countPosition fun c => { c with linesIssued := c.linesIssued + 1 }))
        { index := s.pos.lineIndex + 1, phase := phaseOf s.area (s.pos.lineIndex + 1), issued := max s.now t } tap
      refine ⟨fun live room => ?_, fun live full => ?_, fun is_off => ?_⟩
      · obtain ⟨tap_after, counted⟩ := taken live room
        rw [triggers, pulse, tapsCtr]
        exact ⟨(congrArg TapState.triggers tap_after :), (congrArg TapState.pulse tap_after :), counted⟩
      · obtain ⟨tap_after, counted⟩ := refused live full
        rw [triggers, pulse, tapsCtr]
        exact ⟨(congrArg TapState.triggers tap_after :), (congrArg TapState.pulse tap_after :), counted⟩
      · obtain ⟨tap_after, counted⟩ := off is_off
        rw [triggers, pulse, tapsCtr]
        exact ⟨(congrArg TapState.triggers tap_after :), (congrArg TapState.pulse tap_after :), counted⟩

end Sys2Proof

/-! The host window: the gate commands, the writes with little effect, and the fault line (R113, R172, R173, R180,
R185). -/

namespace Sys2Proof.Machine

-- One proof at a time: the proofs of many statements at once take more threads than the memory holds.
set_option Elab.async false

/-! ### Records and flags (R178, R181) -/

theorem event_eventNumber (s : State) (k : EventKind) : (s.event k).window.eventNumber = s.window.eventNumber + 1 := by
  unfold State.event
  split <;> rfl

theorem event_last (s : State) (k : EventKind) :
    (s.event k).window.events.getLast? = some { number := s.window.eventNumber + 1, kind := k } := by
  unfold State.event
  dsimp only
  split
  · exact List.getLast?_concat
  · exact List.getLast?_concat

theorem notice_events (s : State) :
    s.notice.window.events = s.window.events ∧ s.notice.window.eventNumber = s.window.eventNumber :=
  Prod.ext_iff.mp (notice_only s .events (by decide))

/-- What an event records, noticed or not (R181). -/
theorem eventNoticed_events (s : State) (k : EventKind) (enabled : Bool) :
    (s.eventNoticed k enabled).window.eventNumber = s.window.eventNumber + 1
      ∧ (s.eventNoticed k enabled).window.events.getLast? = some { number := s.window.eventNumber + 1, kind := k } := by
  unfold State.eventNoticed
  split
  · obtain ⟨events, number⟩ := notice_events (s.event k)
    rw [events, number]
    exact ⟨event_eventNumber s k, event_last s k⟩
  · exact ⟨event_eventNumber s k, event_last s k⟩

/-! ### A command that is taken -/

theorem collide_eq (s : State) : s.collide = { s with
    window := { s.window with collision := true }
    ctr := { s.ctr with window := { s.ctr.window with collisions := s.ctr.window.collisions + 1 } } } := rfl

theorem take_of_taking {s : State} (taking : s.window.taking ≠ none) (code : Byte) (body : State → State) :
    s.take code body = s.collide := if_pos (Option.isSome_iff_ne_none.mpr taking)

/-- A write of the command word collides while another command is being taken (R173). -/
theorem exec_commandWord_of_taking {c : Instr} {s : State} (writes : c.writesCommandWord = true)
    (taking : s.window.taking ≠ none) : exec c s = .next (s.tick c.moment).collide := by
  have taken (t : Moment) (code : Byte) (body : State → State) : (s.tick t).take code body = (s.tick t).collide :=
    take_of_taking (s := s.tick t) taking code body
  cases c
  case acceptConfig t | join t | leave t | postGrant t | gateClose t | gateOpen t | mark t | setOutput t | clearFaults t
      | resetAcquisition t | resetStation t => exact congrArg Host.Outcome.next (taken t _ _)
  case unknownCommand t code =>
    have unnamed : ¬ namesCommand code = true := by simpa [Instr.writesCommandWord] using writes
    exact congrArg Host.Outcome.next ((if_neg unnamed).trans (taken t code _))
  case commandCollision t => exact congrArg Host.Outcome.next (if_pos (Option.isSome_iff_ne_none.mpr taking))
  all_goals exact absurd writes Bool.false_ne_true

theorem gateCommand_takenAt (s : State) (t : Moment) (code : Byte) (isOpen : Bool) :
    (s.takenAt t code).gateCommand code isOpen
      = if s.mem.state ≠ .member then s.answeredAs t code .refusedState 0
        else if s.pendingOf .gate ≠ [] then s.answeredAs t code .refusedBusy 0
        else (s.joinList (.gate isOpen)).answeredAs t code .accepted 0 := by
  have room : (¬ (s.takenAt t code).hasRoom .gate = true) ↔ s.pendingOf .gate ≠ [] := by
    rw [hasRoom_iff, ← List.length_pos_iff]
    exact Nat.not_lt
  simp only [State.gateCommand, room]
  rfl

/-- A code that names no command (R172). -/
theorem unnamed_of_out {code : Byte} (out : code = 0 ∨ 11 < code.toNat) : ¬ namesCommand code = true := by
  obtain rfl | above := out
  · decide
  · simp [namesCommand, above]

/-- The fault line's fall after a high level (R180). -/
def State.fallen (s : State) : State :=
  (s.setFaultLine false).bump (countWindow fun c => { c with groupFaultEdges := c.groupFaultEdges + 1 })

end Sys2Proof.Machine

namespace Sys2Proof

open Machine

/-- Settles O57: a taken gate command is `gateCommand_takenAt`. -/
theorem gateCommands : Obligations.GateCommands := by
  intro t s idle c code isOpen command
  have meaning : exec c s = .next ((s.takenAt t code).gateCommand code isOpen) := by
    obtain ⟨rfl, rfl, rfl⟩ | ⟨rfl, rfl, rfl⟩ := command
    all_goals exact congrArg Host.Outcome.next (take_tick_of_idle idle t _ _)
  rw [meaning, gateCommand_takenAt]
  refine ⟨fun outside => ?_, fun member busy => ?_, fun member free => ?_⟩
  · rw [if_pos outside]
  · rw [if_neg (not_not_intro member), if_pos busy]
  · rw [if_neg (not_not_intro member), if_neg (not_not_intro free)]

/-- Settles O52: a command that is being taken, an unnamed code, and the locations without an effect. -/
theorem windowWritesWithLittleEffect : Obligations.WindowWritesWithLittleEffect := by
  refine ⟨fun c s writes taking => exec_commandWord_of_taking writes taking,
    fun t s => ⟨fun code out idle => ?_, fun _ _ => rfl, fun _ _ => rfl⟩⟩
  exact congrArg Host.Outcome.next ((if_neg (unnamed_of_out out)).trans (take_tick_of_idle idle t code _))

/-- Settles O49: the edge counts, and what it records touches neither the flags nor the fault line's level. -/
theorem faultLineWatched : Obligations.FaultLineWatched := by
  intro t s
  refine ⟨fun high => ?_, fun other => congrArg Host.Outcome.next (if_neg other), rfl⟩
  have fall : exec (.groupFaultEdge t) s = .next (if (s.tick t).fallen.configured then
      (s.tick t).fallen.eventNoticed .groupFault (cfgGroupFaultNotice s.area) else (s.tick t).fallen) :=
    congrArg Host.Outcome.next (if_pos high)
  by_cases unconfigured : s.mem.state = .unconfigured
  · have plain : ¬ (s.tick t).fallen.configured = true := by simp [State.configured, State.fallen, unconfigured]
    refine ⟨_, fall, ?_⟩
    rw [if_neg plain, if_pos unconfigured]
    exact ⟨rfl, rfl, rfl, rfl, rfl, rfl⟩
  · have noticed : (s.tick t).fallen.configured = true := by simp [State.configured, State.fallen, unconfigured]
    refine ⟨_, fall, ?_⟩
    rw [if_pos noticed, if_neg unconfigured]
    have only := eventNoticed_only (s.tick t).fallen .groupFault (cfgGroupFaultNotice s.area)
    have recorded := eventNoticed_events (s.tick t).fallen .groupFault (cfgGroupFaultNotice s.area)
    obtain ⟨level, _⟩ := Prod.ext_iff.mp (only .checks (by decide))
    exact ⟨level, congrArg WindowCounters.groupFaultEdges (only .windowCtr (by decide)), eventNoticed_mem ..,
      only .faults (by decide), recorded⟩

end Sys2Proof

/-! Input edges and the timers of membership (R79, R84, R87, R158 to R160). -/

namespace Sys2Proof.Machine

-- One proof at a time: the proofs of many statements at once take more threads than the memory holds.
set_option Elab.async false

/-! ### Raises -/

theorem raise_faults (s : State) (k : FaultKind) :
    (s.raise k).window.faults = s.window.faults ||| (1#16 <<< k.bit.val) := by
  unfold State.raise
  dsimp only
  split
  · rfl
  · exact eventNoticed_only _ _ _ .faults (by decide)

/-- A raise sets its flag (R178). -/
theorem raise_faultSet (s : State) (k : FaultKind) : (s.raise k).faultSet k = true := by
  simp [State.faultSet, raise_faults]

/-! ### The samples of an input (R158) -/

theorem sample_next_eq (old : Option Sample) (level : Bool) (now : Moment) :
    Sample.next old level now = { level := level, since := (Sample.next old level now).since, shown := now } := by
  cases old <;> rfl

theorem takeSample_filterPassed (s : State) (i : Fin 4) (level : Bool) :
    (s.takeSample i level).filterPassed i
      = decide ((Sample.next s.signals.sampled[i] level s.now).since + cfgInputFilter s.area i ≤ s.now) := by
  have stored : (s.takeSample i level).signals.sampled[i] = some (Sample.next s.signals.sampled[i] level s.now) :=
    Vector.getElem_set_self ..
  unfold State.filterPassed
  rw [stored]
  rfl

/-- An edge that the filter has passed and that the input's settings select (R158, R159). -/
def State.edgeSeen (s : State) (i : Fin 4) (level : Bool) : State :=
  ((s.takeSample i level).setFiltered i level).bump (countInput i fun c => { c with edgesAccepted := c.edgesAccepted + 1 })

/-- What SIGNAL_EDGE does, case by case. -/
theorem exec_signalEdge (t : Moment) (i : Fin 4) (level : Bool) (s : State) :
    (s.mem.state = .unconfigured → exec (.signalEdge t i level) s = .next (s.tick t))
    ∧ (s.mem.state ≠ .unconfigured → ¬ (s.signals.filtered[i] = some (!level)
          ∧ ((s.tick t).takeSample i level).filterPassed i = true) →
        exec (.signalEdge t i level) s = .next ((s.tick t).takeSample i level))
    ∧ (s.mem.state ≠ .unconfigured → s.signals.filtered[i] = some (!level) →
        ((s.tick t).takeSample i level).filterPassed i = true →
        (¬ (cfgInputOff s.area i = false ∧ cfgInputEdge s.area i level = true) →
          exec (.signalEdge t i level) s = .next (((s.tick t).takeSample i level).setFiltered i level))
        ∧ (cfgInputOff s.area i = false → cfgInputEdge s.area i level = true →
          exec (.signalEdge t i level) s = .next (if s.mem.state = .member then ((s.tick t).edgeSeen i level).claimEdge i level
            else ((s.tick t).edgeSeen i level).bump
              (countInput i fun c => { c with edgesUnclaimed := c.edgesUnclaimed + 1 })))) := by
  have known (c : s.mem.state ≠ .unconfigured) : ¬ (!(s.tick t).configured) = true := by simp [State.configured, c]
  refine ⟨fun unconfigured => ?_, fun configured stays => ?_,
    fun configured opposite passed => ⟨fun other => ?_, fun on edge => ?_⟩⟩
  · exact congrArg Host.Outcome.next (if_pos (by simp [State.configured, unconfigured]))
  · exact congrArg Host.Outcome.next ((if_neg (known configured)).trans (if_pos (by
      rw [Bool.or_eq_true, decide_eq_true_eq, Bool.not_eq_true', ← Bool.not_eq_true, ← not_and_or]
      exact stays)))
  all_goals
    have passes : ¬ (decide ((s.tick t).signals.filtered[i] ≠ some (!level))
        || !((s.tick t).takeSample i level).filterPassed i) = true := by
      simp [opposite, passed]
    refine congrArg Host.Outcome.next ((if_neg (known configured)).trans ((if_neg passes).trans ?_))
  · exact if_pos (by
      show (cfgInputOff s.area i || !cfgInputEdge s.area i level) = true
      rw [not_and_or] at other
      simpa using other)
  · exact if_neg (by
      show ¬ (cfgInputOff s.area i || !cfgInputEdge s.area i level) = true
      simp [on, edge])

theorem claimEdge_accepted {s : State} {i : Fin 4} {level : Bool} (room : (s.pendingOf .signal).length < 4) :
    s.claimEdge i level
      = s.joinList (.signal (cfgInputId s.area i) level (.sin i) (BitVec.ofNat 32 s.pos.lineIndex)) := by
  have has : s.hasRoom .signal = true := (hasRoom_iff s .signal).mpr room
  exact (if_pos has).trans (if_pos has)

theorem claimEdge_refused {s : State} {i : Fin 4} {level : Bool} (full : 4 ≤ (s.pendingOf .signal).length) :
    s.claimEdge i level
      = (s.claimRefused.bump (countSignals fun c => { c with signalOverruns := c.signalOverruns + 1 })).raise
          .signalOverrun := by
  have none_left : ¬ s.hasRoom .signal = true := fun has => absurd ((hasRoom_iff s .signal).mp has) full.not_gt
  have refused (c : Claim) (kind : c.kind = .signal) : s.claimFifo c = s.claimRefused := if_neg (kind ▸ none_left)
  refine (if_neg none_left).trans ?_
  rw [refused _ rfl]

end Sys2Proof.Machine

namespace Sys2Proof

open Machine

/-- Settles O48: the cases of `exec_signalEdge`. -/
theorem edgeClaimsSignal : Obligations.EdgeClaimsSignal := by
  intro t i level s since sampled seen v k passes wanted selected accepted
  have since_eq : (Sample.next s.signals.sampled[i] level (max s.now t)).since = since := by
    simp only [since]
    cases s.signals.sampled[i] <;> rfl
  have taken : (s.tick t).takeSample i level = seen := by
    simp only [seen, sampled, ← since_eq, ← sample_next_eq]
    rfl
  have filter : ((s.tick t).takeSample i level).filterPassed i = true
      ↔ since + cfgInputFilter s.area i ≤ max s.now t := by
    rw [takeSample_filterPassed, ← since_eq]
    exact decide_eq_true_iff
  have v_eq : ((s.tick t).takeSample i level).setFiltered i level = v := by rw [taken]; rfl
  have edge_eq : (s.tick t).edgeSeen i level = { v with ctr := accepted } := by
    unfold State.edgeSeen
    rw [v_eq]
    rfl
  obtain ⟨outside, unmoved, passed⟩ := exec_signalEdge t i level s
  rw [filter] at unmoved passed
  refine ⟨outside, fun configured stays => ?_, fun configured ⟨opposite, held⟩ other => ?_,
    fun configured stranger ⟨⟨opposite, held⟩, on, edge⟩ => ?_, fun member ⟨⟨opposite, held⟩, on, edge⟩ room => ?_,
    fun member ⟨⟨opposite, held⟩, on, edge⟩ full => ?_⟩
  · rw [← taken]
    exact unmoved configured stays
  · rw [← v_eq]
    exact (passed configured opposite held).1 other
  · refine ⟨_, (passed configured opposite held).2 on edge, ?_⟩
    rw [if_neg stranger, edge_eq]
    refine ⟨rfl, ?_, rfl⟩
    exact (Vector.getElem_set_self ..).trans (by simp [accepted, k])
  · have configured : s.mem.state ≠ .unconfigured := by rw [member]; decide
    rw [(passed configured opposite held).2 on edge, if_pos member, edge_eq]
    exact congrArg Host.Outcome.next (claimEdge_accepted (s := { v with ctr := accepted }) room)
  · have configured : s.mem.state ≠ .unconfigured := by rw [member]; decide
    refine ⟨_, (passed configured opposite held).2 on edge, ?_⟩
    rw [if_pos member, edge_eq, claimEdge_refused (s := { v with ctr := accepted }) full]
    have only := raise_only (State.bump (State.claimRefused { v with ctr := accepted })
      (countSignals fun c => { c with signalOverruns := c.signalOverruns + 1 })) .signalOverrun
    exact ⟨only .tx (by decide), raise_mem .., raise_signals .., raise_faultSet .., only .signalsCtr (by decide),
      only .queueCtr (by decide)⟩

end Sys2Proof

/-! The timers of membership (R79, R84, R87). -/

namespace Sys2Proof.Machine

-- One proof at a time: the proofs of many statements at once take more threads than the memory holds.
set_option Elab.async false

/-! ### A change of the station state (R77) -/

theorem changeState_memCtr (s : State) (st : StationState) :
    (s.changeState st).ctr.mem = { s.ctr.mem with stateChanges := s.ctr.mem.stateChanges + 1 } :=
  eventNoticed_only _ _ _ .memCtr (by decide)

theorem changeState_frames (s : State) (st : StationState) : (s.changeState st).frames = s.frames :=
  (changeState_only s st).frames_same

/-! ### Claims (R59, R61) -/

theorem claimRoster_of_empty {s : State} (empty : s.pendingOf .roster = []) (c : Claim) :
    s.claimRoster c = s.joinList c := by
  unfold State.claimRoster
  rw [empty]

theorem claimRoll_of_empty {s : State} (empty : s.pendingOf .roll = []) : s.claimRoll = s.joinList .roll :=
  if_pos (List.isEmpty_iff.mpr empty)

theorem claimRoll_of_waiting {s : State} (waiting : s.pendingOf .roll ≠ []) : s.claimRoll = s.claimMet :=
  if_neg fun empty => waiting (List.isEmpty_iff.mp empty)

theorem claimDrop_of_met {s : State} {p : Station} (met : ∃ n ∈ s.pendingOf .drop, n.claim = .drop p) :
    s.claimDrop p = s.claimMet := by
  obtain ⟨n, within, same⟩ := met
  exact if_pos (List.any_eq_true.mpr ⟨n, within, by simp [same]⟩)

theorem claimDrop_of_new {s : State} {p : Station} (room : (s.pendingOf .drop).length < 7)
    (new : ∀ n ∈ s.pendingOf .drop, n.claim ≠ .drop p) : s.claimDrop p = s.joinList (.drop p) := by
  have unmet : ¬ (s.pendingOf .drop).any (fun n => n.claim == .drop p) = true := fun met => by
    obtain ⟨n, within, same⟩ := List.any_eq_true.mp met
    exact new n within (beq_iff_eq.mp same)
  exact (if_neg unmet).trans (if_pos ((hasRoom_iff s .drop).mpr room))


theorem joinList_eq (s : State) (c : Claim) :
    s.joinList c = { s with tx := (s.joinList c).tx, ctr := (s.joinList c).ctr } := rfl

theorem claimRoll_eq (s : State) : s.claimRoll = { s with tx := s.claimRoll.tx, ctr := s.claimRoll.ctr } := by
  unfold State.claimRoll
  split <;> rfl

theorem claimDrop_eq (s : State) (p : Station) :
    s.claimDrop p = { s with tx := (s.claimDrop p).tx, ctr := (s.claimDrop p).ctr } := by
  unfold State.claimDrop State.claimFifo
  split
  · rfl
  · split <;> rfl

theorem due_of_running {deadline now : Moment} (reached : deadline ≤ now) : (Timer.running deadline).due now = true :=
  decide_eq_true reached

end Sys2Proof.Machine

namespace Sys2Proof

open Machine

/-- Settles O50: each expired timer makes its claim. -/
theorem membershipTimersExpire : Obligations.MembershipTimersExpire := by
  intro t s
  refine ⟨fun deadline listening running reached => ?_, fun deadline member running reached => ?_,
    fun p deadline member running reached => ?_⟩
  · have due : (s.tick t).mem.state = .listening ∧ (s.tick t).mem.listen.due (s.tick t).now = true :=
      ⟨listening, by rw [tick_mem, running]; exact due_of_running reached⟩
    refine ⟨_, congrArg Host.Outcome.next (if_pos due), ?_⟩
    refine ⟨?_, ?_, ?_, fun empty => ⟨?_, ?_⟩, ?_⟩
    · rw [changeState_mem]
      simp
    · simp
    · simp
    · rw [changeState_frames, claimRoster_of_empty (s := s.tick t) empty]
      rfl
    · rw [claimRoster_of_empty (s := s.tick t) empty]
      unfold State.pendingOf
      rw [changeState_tx]
      refine (joinList_pendingOf_same (s.tick t) .rosterJoin).trans ?_
      rw [show (s.tick t).pendingOf Claim.rosterJoin.kind = [] from empty]
      rfl
    · rw [changeState_memCtr]
      exact congrArg (fun c : MembershipCounters => { c with stateChanges := c.stateChanges + 1 })
        ((claimRoster_only (s.tick t) .rosterJoin) .memCtr (by decide))
  · have due : (s.tick t).mem.state = .member ∧ (s.tick t).mem.roll.due (s.tick t).now = true :=
      ⟨member, by rw [tick_mem, running]; exact due_of_running reached⟩
    refine ⟨_, congrArg Host.Outcome.next (if_pos due), ?_⟩
    refine ⟨?_, ?_, fun empty => ?_, fun waiting => ?_⟩
    · rw [claimRoll_eq]
      rfl
    · rw [claimRoll_eq]
    · rw [claimRoll_of_empty (s := s.tick t) empty]
      refine (joinList_pendingOf_same (s.tick t) .roll).trans ?_
      rw [show (s.tick t).pendingOf Claim.roll.kind = [] from empty]
      rfl
    · rw [claimRoll_of_waiting (s := s.tick t) waiting]
      exact ⟨rfl, rfl⟩
  · have due : (s.tick t).mem.state = .member ∧ (s.tick t).mem.silence[p].due (s.tick t).now = true :=
      ⟨member, by rw [tick_mem, running]; exact due_of_running reached⟩
    refine ⟨_, congrArg Host.Outcome.next (if_pos due), ?_⟩
    refine ⟨?_, ?_, ?_, fun room new => ?_, fun met => ?_⟩
    · rw [claimDrop_eq]
      rfl
    · rw [claimDrop_eq]
      rfl
    · rw [claimDrop_eq]
      exact congrArg (fun c : MembershipCounters => { c with dropsClaimed := c.dropsClaimed + 1 })
        (claimDrop_only (s.tick t) p .memCtr (by decide))
    · rw [claimDrop_of_new (s := s.tick t) room new]
      exact joinList_pendingOf_same (s.tick t) (.drop p)
    · rw [claimDrop_of_met (s := s.tick t) met]
      rfl

end Sys2Proof

/-! The configuration area (R4, R77, R158, R173 to R177): its writes and its acceptance. -/

namespace Sys2Proof.Machine

-- One proof at a time: the proofs of many statements at once take more threads than the memory holds.
set_option Elab.async false

/-! ### A word of the area -/

theorem read_writeAll_word {m : Memory} (canonical : Memory.wf m = true) (offset : Nat) (value : Word) :
    (∀ i < 4, Memory.read (Memory.writeAll m (wordCells offset value)) (offset + i) = value.extractLsb' (8 * i) 8)
    ∧ ∀ a, a < offset ∨ offset + 4 ≤ a →
        Memory.read (Memory.writeAll m (wordCells offset value)) a = Memory.read m a := by
  refine ⟨fun i within => ?_, fun a outside => Memory.read_writeAll_other m _ a canonical fun c cell => ?_⟩
  · have wf1 := Memory.write_wf m offset (value.extractLsb' 0 8) canonical
    have wf2 := Memory.write_wf _ (offset + 1) (value.extractLsb' 8 8) wf1
    have wf3 := Memory.write_wf _ (offset + 2) (value.extractLsb' 16 8) wf2
    simp only [Memory.writeAll, wordCells, List.foldl_cons, List.foldl_nil, Memory.read_write _ _ _ _ wf3,
      Memory.read_write _ _ _ _ wf2, Memory.read_write _ _ _ _ wf1, Memory.read_write _ _ _ _ canonical]
    obtain rfl | rfl | rfl | rfl : i = 0 ∨ i = 1 ∨ i = 2 ∨ i = 3 := by omega
    all_goals simp
  · simp only [wordCells, List.mem_cons, List.not_mem_nil, or_false] at cell
    obtain rfl | rfl | rfl | rfl := cell
    all_goals
      dsimp only
      omega

/-! ### CONFIG_WRITE (R173, R174) -/

theorem inConfigArea_of_lt {location : Fin 1024} (within : location.val < 148) : inConfigArea location = true :=
  decide_eq_true within

theorem inRecord_iff {location : Fin 1024} (within : location.val < 148) :
    inRecord location = true ↔ location.val < 104 ∨ 128 ≤ location.val := by
  simp only [inRecord, inConfigArea_of_lt within, Bool.true_and, Bool.not_eq_true', Bool.and_eq_false_iff,
    decide_eq_false_iff_not]
  omega

theorem exec_configWrite_of_area {location : Fin 1024} (within : location.val < 148) (t : Moment) (value : Word)
    (s : State) : exec (.configWrite t location value) s = .next
      (if s.takingCode = some 1 then (s.tick t).collide
       else if s.mem.state ≠ .unconfigured then (s.tick t).bump
         (countWindow fun c => { c with configWritesIgnored := c.configWritesIgnored + 1 })
       else if inRecord location then { s.tick t with window := { s.window with
         area := Memory.writeAll s.window.area (wordCells (4 * location.val) value) } }
       else s.tick t) :=
  congrArg Host.Outcome.next (if_neg (by simp [inConfigArea_of_lt within]))

/-! ### ACCEPT-CONFIG (R175 to R177) -/

theorem failedCheck_of_passed {a : Memory} (passed : ∀ ok ∈ configChecks a, ok = true) : failedCheck a = none := by
  have none_fails : (configChecks a).findIdx? (fun ok => !ok) = none := by
    rw [List.findIdx?_eq_none_iff]
    intro ok within
    simp [passed ok within]
  rw [failedCheck, none_fails, Option.map_none]

theorem failedCheck_of_failed {a : Memory} {n : Nat} (fails : (configChecks a).findIdx? (fun ok => !ok) = some n) :
    failedCheck a = some (n + 1) := by
  rw [failedCheck, fails, Option.map_some]

theorem exec_acceptConfigDone_of_taken {s : State} (taking : s.takingCode = some 1) (state : s.mem.state = .unconfigured)
    (t : Moment) (straps : Station) (samples : Vector Bool 4) :
    (∀ n, failedCheck s.area = some n → exec (.acceptConfigDone t straps samples) s
        = .next ((s.tick t).answer 1 .refusedArgument (BitVec.ofNat 32 n)))
    ∧ (failedCheck s.area = none → exec (.acceptConfigDone t straps samples) s
        = .next ((s.tick t).acceptConfig straps samples)) := by
  have taken : (s.tick t).takingCode = some 1 ∧ (s.tick t).mem.state = .unconfigured := ⟨taking, state⟩
  refine ⟨fun n failed => congrArg Host.Outcome.next ((if_pos taken).trans ?_),
    fun passed => congrArg Host.Outcome.next ((if_pos taken).trans ?_)⟩
  · rw [show failedCheck (s.tick t).area = some n from failed]
  · rw [show failedCheck (s.tick t).area = none from passed]

/-- The values fixed at acceptance (R77, R158, R176, R177), before the station is CONFIGURED. -/
def State.fixed (s : State) (straps : Station) (samples : Vector Bool 4) : State :=
  { s with
    mem := { s.mem with number := some (numberAt s.area straps) }
    signals := { s.signals with filtered := samples.map some
                                sampled := samples.map fun level => some (Sample.next none level s.now) }
    window := { s.window with
      faults := s.window.faults &&& ~~~(1#16 <<< FaultKind.configCorrupt.bit.val)
      digest := configDigest s.area, nextCheck := some (s.now + cfgCheckInterval s.area) } }

theorem fixed_digest (s : State) (straps : Station) (samples : Vector Bool 4) :
    (s.fixed straps samples).window.digest = crc16 ((List.range 0x1A0).map s.area.read) := by
  simp only [State.fixed, configDigest]

theorem acceptConfig_eq (s : State) (straps : Station) (samples : Vector Bool 4) :
    s.acceptConfig straps samples
      = ((s.fixed straps samples).changeState .configured).answer 1 .accepted ((configDigest s.area).setWidth 32) := rfl

/-- What an accepted configuration leaves (R77, R158, R176, R177). -/
theorem acceptConfig_only (s : State) (straps : Station) (samples : Vector Bool 4) :
    Only (changePieces ++ [.registers, .windowCtr]) (s.fixed straps samples) (s.acceptConfig straps samples) := by
  rw [acceptConfig_eq]
  exact ((changeState_only _ _).mono (by decide)).next (answer_only _ _ _ _)

end Sys2Proof.Machine

namespace Sys2Proof

open Machine

/-- Settles O53: the cases of `exec_configWrite_of_area`. -/
theorem configWrites : Obligations.ConfigWrites := by
  intro t location value s within
  rw [exec_configWrite_of_area within]
  refine ⟨fun free open_area record canonical => ⟨_, rfl, ?_⟩, fun free open_area low high => ?_,
    fun free frozen => ?_, fun taking => ?_⟩
  · rw [if_neg free, if_neg (not_not_intro open_area), if_pos ((inRecord_iff within).mpr record)]
    obtain ⟨stored, others⟩ := read_writeAll_word canonical (4 * location.val) value
    refine ⟨rfl, stored, others, fun stopped => ?_⟩
    unfold State.currentFrame Position.currentFrame
    simp only [tick_pos, stopped]
  · have gap : ¬ inRecord location = true := fun record => by
      rw [inRecord_iff within] at record
      omega
    rw [if_neg free, if_neg (not_not_intro open_area), if_neg gap]
  · rw [if_neg free, if_pos frozen]
    rfl
  · rw [if_pos taking]
    rfl

/-- Settles O54: the refusal, the taking, and the two answers. -/
theorem acceptConfig : Obligations.AcceptConfig := by
  intro t s
  refine ⟨fun idle frozen => ?_, fun idle open_area => ?_, fun straps samples n taking command state fails => ?_,
    fun straps samples taking state passed => ?_⟩
  · exact congrArg Host.Outcome.next ((take_tick_of_idle idle t 1 _).trans (if_neg frozen))
  · exact congrArg Host.Outcome.next ((take_tick_of_idle idle t 1 _).trans (if_pos open_area))
  · obtain ⟨failed, _⟩ := exec_acceptConfigDone_of_taken taking state t straps samples
    rw [failed _ (failedCheck_of_failed fails)]
    simp only [State.answeredAs, ← command]
    rfl
  · obtain ⟨_, accepted⟩ := exec_acceptConfigDone_of_taken taking state t straps samples
    refine ⟨_, accepted (failedCheck_of_passed passed), ?_⟩
    have only := acceptConfig_only (s.tick t) straps samples
    obtain ⟨area, digest⟩ := only.area_eq
    obtain ⟨number, _⟩ := only.roster_eq
    have signals := only.signals_same
    obtain ⟨_, nextCheck⟩ := Prod.ext_iff.mp (only .checks (by decide))
    refine ⟨?_, area, digest.trans (fixed_digest ..), ?_, number, fun i => ?_, nextCheck, rfl, rfl, only.pos_same, ?_, only.frames_same,
      only.trunk_same⟩
    · exact congrArg Membership.state (changeState_mem ((s.tick t).fixed straps samples) .configured)
    · have faults : ((s.tick t).acceptConfig straps samples).window.faults
          = s.window.faults &&& ~~~(1#16 <<< FaultKind.configCorrupt.bit.val) := only .faults (by decide)
      simp [State.faultSet, faults]
    · rw [signals]
      exact ⟨getElem_map_fin .., getElem_map_fin ..⟩
    · exact changeState_taps ((s.tick t).fixed straps samples) .configured

end Sys2Proof

/-! What a withdrawal leaves in the transmit queue, and what the units hold after an entry into CONFIGURED (R62, R63,
R94). -/

namespace Sys2Proof.Machine

-- One proof at a time: the proofs of many statements at once take more threads than the memory holds.
set_option Elab.async false

/-! ### Withdrawals (R62, R63) -/

theorem foldl_withdrawn_tx (l : List Pending) (byReset : Bool) (s : State) :
    (l.foldl (fun s n => s.withdrawn n byReset) s).tx = s.tx := by
  induction l generalizing s with
  | nil => rfl
  | cons n l ih => exact (ih _).trans (withdrawn_tx s n byReset)

theorem foldl_withdrawn_trunk (l : List Pending) (byReset : Bool) (s : State) :
    (l.foldl (fun s n => s.withdrawn n byReset) s).trunk = s.trunk := by
  induction l generalizing s with
  | nil => rfl
  | cons n l ih => exact (ih _).trans (withdrawn_trunk s n byReset)

/-- A withdrawal from one list leaves every other as it was. -/
theorem withdrawFrom_pendingOf_of_ne (s : State) {j k : NoteKind} (other : j ≠ k) (doom : Doom) (hit : Pending → Bool) :
    (s.withdrawFrom k doom hit).pendingOf j = s.pendingOf j := by
  unfold State.withdrawFrom
  dsimp only
  split
  all_goals exact (pendingOf_congr (foldl_withdrawn_tx ..) j).trans (setPending_pendingOf_of_ne s _ other)

/-- With no note of the kind on the wire, exactly the notes that are not named stay. -/
theorem withdrawFrom_pendingOf_of_free {s : State} {k : NoteKind} (free : s.onWire k = false) (doom : Doom)
    (hit : Pending → Bool) : (s.withdrawFrom k doom hit).pendingOf k = (s.pendingOf k).filter fun n => !hit n := by
  unfold State.withdrawFrom
  dsimp only
  rw [free]
  split
  · next onWire => exact absurd onWire Bool.false_ne_true
  · exact (pendingOf_congr (foldl_withdrawn_tx ..) k).trans (setPending_pendingOf_same s k _)

theorem onWire_of_trunk {s u : State} (trunk : u.trunk = s.trunk) (k : NoteKind) : u.onWire k = s.onWire k := by
  unfold State.onWire State.wireKind
  rw [trunk]

theorem foldl_withdrawFrom_of_free {k : NoteKind} (kinds : List NoteKind) (doom : Doom) {s : State}
    (free : s.onWire k = false) (goes : k ∈ kinds ∨ s.pendingOf k = []) :
    (kinds.foldl (fun s k => s.withdrawFrom k doom fun _ => true) s).pendingOf k = [] := by
  induction kinds generalizing s with
  | nil => exact goes.resolve_left List.not_mem_nil
  | cons j kinds ih =>
    have free' := (onWire_of_trunk (withdrawFrom_trunk s j doom fun _ => true) k).trans free
    by_cases same : k = j
    · subst same
      refine ih free' (.inr ?_)
      rw [withdrawFrom_pendingOf_of_free free]
      simp
    · refine ih free' (goes.imp (fun within => (List.mem_cons.mp within).resolve_left same) fun empty => ?_)
      rw [withdrawFrom_pendingOf_of_ne s same, empty]

theorem foldl_withdrawFrom_of_not_mem {k : NoteKind} (kinds : List NoteKind) (out : k ∉ kinds) (doom : Doom)
    (s : State) : (kinds.foldl (fun s k => s.withdrawFrom k doom fun _ => true) s).pendingOf k = s.pendingOf k := by
  induction kinds generalizing s with
  | nil => rfl
  | cons j kinds ih =>
    obtain ⟨other, out'⟩ := not_or.mp (fun within => out (List.mem_cons.mpr within))
    exact (ih out' _).trans (withdrawFrom_pendingOf_of_ne s other doom _)

theorem withdrawAll_pendingOf (s : State) (doom : Doom) (keepDone : Bool) (k : NoteKind) :
    (s.withdrawAll doom keepDone).pendingOf k = ((NoteKind.all.filter fun k => !(keepDone && k == .done)).foldl
      (fun s k => s.withdrawFrom k doom fun _ => true) s).pendingOf k := by
  unfold State.withdrawAll
  dsimp only
  split <;> rfl

/-- The emptying of the queue empties every list that has no note on the wire (R63). -/
theorem withdrawAll_of_free {s : State} {k : NoteKind} (free : s.onWire k = false) (doom : Doom) {keepDone : Bool}
    (goes : keepDone = true → k ≠ .done) : (s.withdrawAll doom keepDone).pendingOf k = [] := by
  rw [withdrawAll_pendingOf]
  refine foldl_withdrawFrom_of_free _ doom free (.inl (List.mem_filter.mpr ⟨by cases k <;> decide, ?_⟩))
  cases keepDone
  · rfl
  · simp [goes rfl]

/-- The DONEs of a MEMBER that leaves stay (R63). -/
theorem withdrawAll_done (s : State) (doom : Doom) : (s.withdrawAll doom true).pendingOf .done = s.pendingOf .done := by
  rw [withdrawAll_pendingOf]
  exact foldl_withdrawFrom_of_not_mem _ (by simp) doom s

/-! ### The units of a station that is CONFIGURED (R94) -/

theorem changeState_eq (s : State) (st : StationState) : s.changeState st = { s with
    mem := { s.mem with state := st }
    window := { s.window with
      faults := (s.changeState st).window.faults, events := (s.changeState st).window.events
      eventNumber := (s.changeState st).window.eventNumber }
    delivery := { s.delivery with port := (s.changeState st).delivery.port }
    ctr := (s.changeState st).ctr } :=
  eventNoticed_eq_withNoticesOf _ _ _

/-- The port after a notice: what waited, and the notice (R181). -/
theorem notice_port (s : State) : s.notice.delivery.port = s.delivery.port
    ∨ s.notice.delivery.port = s.delivery.port ++ [.notice (cfgNoticeAddress s.area) (cfgNoticeData s.area)] := by
  unfold State.notice
  split
  · exact .inr rfl
  · exact .inl rfl

/-- A change of state or a raise adds only a notice to the port. -/
theorem eventNoticed_port_mem {s : State} {k : EventKind} {enabled : Bool} {r : PortRequest}
    (waits : r ∈ (s.eventNoticed k enabled).delivery.port) : r ∈ s.delivery.port ∨ r.isNotice = true := by
  have recorded : (s.event k).delivery.port = s.delivery.port := event_only s k .port (by decide)
  unfold State.eventNoticed at waits
  split at waits
  · obtain same | added := notice_port (s.event k)
    · rw [same, recorded] at waits
      exact .inl waits
    · rw [added, recorded, List.mem_append, List.mem_singleton] at waits
      exact waits.imp_right fun notice => by rw [notice]; rfl
  · rw [recorded] at waits
    exact .inl waits

theorem getElem_replicate_fin {α : Type} {n : Nat} (a : α) (i : Fin n) : (Vector.replicate n a)[i] = a :=
  Vector.getElem_replicate ..

namespace State.emptied

theorem changeState {s : State} (h : s.emptied) (st : StationState) : (s.changeState st).emptied := by
  obtain ⟨roster, joinFrame, roll, peers, slots, level, isOpen, frame, resume, founded, rotation, channels, taps, free,
    low, mode, offset, latch, last, strobes, queue, run, held, turn, lastTap, handled, store, port, records,
    outputs⟩ := h
  have notices : ∀ r ∈ (s.changeState st).delivery.port, r.isNotice = true := fun r waits =>
    (eventNoticed_port_mem waits).elim (port r) id
  rw [changeState_eq]
  exact ⟨roster, joinFrame, roll, peers, slots, level, isOpen, frame, resume, founded, rotation, channels, taps, free,
    low, mode, offset, latch, last, strobes, queue, run, held, turn, lastTap, handled, store, notices, records, outputs⟩

theorem enterUnconfigured {s : State} (h : s.emptied) : s.enterUnconfigured.emptied := by
  obtain ⟨roster, joinFrame, roll, peers, slots, level, isOpen, frame, resume, founded, rotation, channels, taps, free,
    low, mode, offset, latch, last, strobes, queue, run, held, turn, lastTap, handled, store, port, records,
    outputs⟩ := h.changeState .unconfigured
  have tap (t : Tap) : s.enterUnconfigured.taps[t] = { (s.changeState .unconfigured).taps[t] with pulse := none } :=
    getElem_map_fin ..
  refine ⟨roster, joinFrame, roll, peers, slots, level, isOpen, frame, resume, founded, rotation, channels, fun t => ?_, ?_,
    low, mode, offset, latch, last, strobes, queue, run, held, turn, lastTap, handled, store, port, records, outputs⟩
  · rw [tap]
    exact taps t
  · have held : s.enterUnconfigured.heldSlots = (s.changeState .unconfigured).heldSlots := by
      unfold State.heldSlots
      rw [tap, tap]
      rfl
    unfold State.freeCount at free ⊢
    rw [held]
    exact free

/-- The units' values, set in a state whose trunk port and queue are empty. -/
theorem of_units (v : State) (a : Memory) (m : Membership) (lost : Option Steer) (d : Delivery)
    (queue : v.trunk.queue = []) (run : v.trunk.vetoRun = 0) (held : v.tx.held = none) : State.emptied { v with
      pos := v.pos.toConfigured a, taps := v.taps.map TapState.toConfigured, freeLow := 256, mem := m.toConfigured
      frames := { FrameUnit.reset with lostGrant := lost }, delivery := d.toConfigured, records := Records.reset
      signals := { v.signals with outputs := Vector.replicate 4 Output.reset } } := by
  have tap (t : Tap) : (v.taps.map TapState.toConfigured)[t] = { TapState.reset with pulse := (v.taps[t]).pulse } :=
    getElem_map_fin ..
  refine ⟨rfl, rfl, rfl, fun p => ⟨getElem_replicate_fin .., getElem_replicate_fin ..⟩,
    fun i => getElem_replicate_fin .., rfl, rfl, rfl, rfl, rfl, fun j => getElem_replicate_fin ..,
    fun c => getElem_replicate_fin .., fun t => ?_, ?_, rfl, rfl, rfl, rfl, rfl, fun i => getElem_replicate_fin ..,
    queue, run, held, rfl, rfl, fun t => getElem_replicate_fin .., fun t phase => ?_,
    fun r waits => (List.mem_filter.mp waits).2, rfl, fun j => getElem_replicate_fin ..⟩
  · dsimp only
    rw [tap]
    exact ⟨rfl, rfl, rfl, rfl, rfl⟩
  · unfold State.freeCount State.heldSlots
    dsimp only
    rw [tap, tap]
    rfl
  · exact (congrArg (fun x : Vector (Option StoredRow) 4 => x[phase]) (getElem_replicate_fin ..)).trans
      (getElem_replicate_fin ..)

theorem unitsToConfigured (s : State) (byReset : Bool) : (s.unitsToConfigured byReset).emptied := by
  unfold State.unitsToConfigured
  dsimp only
  refine of_units _ _ _ _ _ ?_ ?_ rfl
  · rw [withdrawAll_trunk]
    rfl
  · rw [withdrawAll_trunk]
    rfl

theorem enterConfigured (s : State) (byReset : Bool) : (s.enterConfigured byReset).emptied := by
  have entered {v : State} (h : v.emptied) :
      (if v.mem.state = .configured then v else v.changeState .configured).emptied := by
    split
    · exact h
    · exact h.changeState .configured
  have passed {v : State} (h : v.emptied) : (if v.faultSet .configCorrupt then v.enterUnconfigured else v).emptied := by
    split
    · exact h.enterUnconfigured
    · exact h
  exact passed (entered (unitsToConfigured s byReset))

end State.emptied

end Sys2Proof.Machine

/-! The entries into CONFIGURED, LISTENING and LEAVING, and the commands JOIN and LEAVE (R78, R79, R89, R94). -/

namespace Sys2Proof.Machine

-- One proof at a time: the proofs of many statements at once take more threads than the memory holds.
set_option Elab.async false

/-! ### What the entry into CONFIGURED touches -/

theorem countDropped_only (s : State) : Only [.deliveryCtr, .tapsCtr, .recordsCtr] s s.countDropped := by
  unfold State.countDropped
  dsimp only
  refine Only.next ?_ (bumpRecords_only _ _)
  refine Only.next ?_ (bumpTap_only _ 1 _)
  refine Only.next ?_ (bumpTap_only _ 0 _)
  exact (bumpDelivery_only s _).mono (by decide)

/-- The pieces that the units' entry into CONFIGURED touches. -/
def unitPieces : List Piece :=
  [.deliveryCtr, .tapsCtr, .recordsCtr, .vetoRun, .trunk, .tx, .queueCtr, .lostGrant, .mode, .position, .lines, .tapBodies,
    .freeLow, .roster, .peers, .timers, .entries, .parts, .h, .channels, .rotation, .gate, .turn, .port, .handled, .store,
    .waiting, .records, .outputs]

theorem setUnits_only (v : State) (pos : Position) (taps : Vector TapState 2) (low : Nat) (m : Membership)
    (state : m.state = v.mem.state) (f : FrameUnit) (d : Delivery) (link : d.linkUp = v.delivery.linkUp)
    (flushes : d.flushCount = v.delivery.flushCount) (r : Records) (outputs : Vector Output 4) :
    Only unitPieces v { v with
      pos := pos, taps := taps, freeLow := low, mem := m, frames := f, delivery := d, records := r
      signals := { v.signals with outputs := outputs } } := by
  intro p out
  cases p
  case state => exact state
  case link => exact link
  case flushCount => exact flushes
  case pending | now | draws | lastRequest | inputs | area | registers | faults | events | checks | posCtr | trunkCtr
      | memCtr | framesCtr | inputsCtr | signalsCtr | outputsCtr | windowCtr | noticeCtr | raisesCtr | tx | vetoRun | trunk
      | queueCtr | deliveryCtr | tapsCtr | recordsCtr => rfl
  all_goals exact absurd (by decide) out

theorem unitsToConfigured_only (s : State) (byReset : Bool) : Only unitPieces s (s.unitsToConfigured byReset) := by
  have counted : Only unitPieces s (if byReset then s else s.countDropped) :=
    .ite (fun _ => .refl _ s) fun _ => (countDropped_only s).mono (by decide)
  unfold State.unitsToConfigured
  dsimp only
  generalize (if byReset = true then s else s.countDropped) = v at counted ⊢
  have gone := (counted.next (setTrunk_only v v.trunk.detach)).next
    (withdrawAll_only _ (if byReset then .reset else .withdrawn) false)
  generalize State.withdrawAll _ _ _ = x at gone ⊢
  exact gone.trans (setUnits_only x _ _ _ x.mem.toConfigured rfl _ x.delivery.toConfigured rfl rfl _ _)

/-- The pieces that the entry into UNCONFIGURED touches. -/
def unconfiguredPieces : List Piece :=
  [.state, .memCtr, .port, .events, .noticeCtr, .tapBodies, .roster, .inputs, .area, .checks]

theorem enterUnconfigured_only (s : State) : Only unconfiguredPieces s s.enterUnconfigured := by
  have changed := (changeState_only s .unconfigured).mono (S := unconfiguredPieces) (by decide)
  unfold State.enterUnconfigured
  dsimp only
  generalize s.changeState .unconfigured = v at changed ⊢
  refine changed.next (T := [.tapBodies, .roster, .inputs, .area, .checks]) ?_
  intro p out
  cases p
  case tapBodies | roster | inputs | area | checks => exact absurd (by decide) out
  case lines => exact Vector.map_map ..
  all_goals rfl

/-- The pieces that the entry into CONFIGURED touches. -/
def configuredPieces : List Piece := unitPieces ++ unconfiguredPieces

theorem enterConfigured_only (s : State) (byReset : Bool) : Only configuredPieces s (s.enterConfigured byReset) := by
  have units := (unitsToConfigured_only s byReset).mono (S := configuredPieces) (by decide)
  have entered := Only.ite (p := (s.unitsToConfigured byReset).mem.state = .configured) (fun _ => units) fun _ =>
    units.next (changeState_only _ .configured)
  exact .ite (fun _ => entered.next (enterUnconfigured_only _)) fun _ => entered

theorem faultSet_of_only {S : List Piece} {s u : State} (h : Only S s u) (k : FaultKind)
    (out : .faults ∉ S := by decide) : u.faultSet k = s.faultSet k :=
  congrArg (fun f : BitVec 16 => f.getLsbD k.bit.val) (h .faults out)

/-- The state that an entry into CONFIGURED ends in (R94, R177). -/
theorem enterConfigured_state (s : State) (byReset : Bool) : (s.enterConfigured byReset).mem.state = s.home := by
  have units := unitsToConfigured_only s byReset
  have entered : (if (s.unitsToConfigured byReset).mem.state = .configured then s.unitsToConfigured byReset
      else (s.unitsToConfigured byReset).changeState .configured).mem.state = .configured := by
    split
    · assumption
    · rw [changeState_mem]
  have faults : (if (s.unitsToConfigured byReset).mem.state = .configured then s.unitsToConfigured byReset
      else (s.unitsToConfigured byReset).changeState .configured).faultSet .configCorrupt = s.faultSet .configCorrupt := by
    split
    · exact faultSet_of_only units _
    · exact (faultSet_of_only (changeState_only _ _) _).trans (faultSet_of_only units _)
  have passed (v : State) (state : v.mem.state = .configured) :
      (if v.faultSet .configCorrupt then v.enterUnconfigured else v).mem.state = v.home := by
    unfold State.home
    split
    · exact congrArg Membership.state (changeState_mem v .unconfigured)
    · exact state
  refine (passed _ entered).trans ?_
  unfold State.home
  rw [faults]

/-- A station that stops taking part has no other note on the wire than before. -/
theorem onWire_of_detached {s v : State} {k : NoteKind} (free : s.onWire k = false) (detached : v.trunk = s.trunk.detach) :
    v.onWire k = false := by
  unfold State.onWire State.wireKind at free ⊢
  rw [detached]
  unfold Trunk.detach
  cases wire : s.trunk.wire with
  | none => rfl
  | some w =>
    obtain ⟨role, latch, reserved, stretch, released⟩ := w
    cases role with
    | sender kind note driven =>
      rw [wire] at free
      exact free
    | loser kind => rfl
    | receiver => rfl
    | aside => rfl

theorem unitsToConfigured_pendingOf {s : State} {k : NoteKind} (free : s.onWire k = false) (byReset : Bool) :
    (s.unitsToConfigured byReset).pendingOf k = [] := by
  have counted : (if byReset then s else s.countDropped).trunk = s.trunk := by
    cases byReset <;> simp [State.countDropped]
  unfold State.unitsToConfigured
  dsimp only
  generalize (if byReset = true then s else s.countDropped) = v at counted ⊢
  have empty := withdrawAll_of_free (onWire_of_detached (v := { v with trunk := v.trunk.detach }) free
    (congrArg Trunk.detach counted)) (if byReset then .reset else .withdrawn) (keepDone := false)
    (fun off => absurd off Bool.false_ne_true)
  generalize State.withdrawAll _ _ _ = x at empty ⊢
  exact empty

theorem enterConfigured_pendingOf {s : State} {k : NoteKind} (free : s.onWire k = false) (byReset : Bool) :
    (s.enterConfigured byReset).pendingOf k = [] := by
  have units := unitsToConfigured_pendingOf free byReset
  have changed (v : State) (st : StationState) : (v.changeState st).pendingOf k = v.pendingOf k :=
    pendingOf_congr (changeState_tx v st) k
  have entered : (if (s.unitsToConfigured byReset).mem.state = .configured then s.unitsToConfigured byReset
      else (s.unitsToConfigured byReset).changeState .configured).pendingOf k = [] := by
    split
    · exact units
    · exact (changed _ _).trans units
  have passed (v : State) (empty : v.pendingOf k = []) :
      (if v.faultSet .configCorrupt then v.enterUnconfigured else v).pendingOf k = [] := by
    split
    · exact (changed v .unconfigured).trans empty
    · exact empty
  exact passed _ entered

end Sys2Proof.Machine

/-! The commands JOIN and LEAVE (R78, R79, R89). -/

namespace Sys2Proof.Machine

-- One proof at a time: the proofs of many statements at once take more threads than the memory holds.
set_option Elab.async false

/-! ### A claim of ROSTER-LEAVE (R61, R89) -/

theorem onWire_of_free {s : State} (free : s.trunk.wire = none) (k : NoteKind) : s.onWire k = false := by
  unfold State.onWire State.wireKind
  rw [free]
  rfl

/-- A claim of a ROSTER note changes no other list. -/
theorem claimRoster_pendingOf_of_ne (s : State) {c : Claim} (roster : c.kind = .roster) {k : NoteKind}
    (other : k ≠ .roster) : (s.claimRoster c).pendingOf k = s.pendingOf k := by
  have joined (v : State) : (v.joinList c).pendingOf k = v.pendingOf k :=
    joinList_pendingOf_of_ne v c (by rw [roster]; exact other)
  unfold State.claimRoster
  split
  · exact joined s
  · split
    · rfl
    · split
      · rfl
      · exact (joined _).trans ((setPending_pendingOf_of_ne _ _ other).trans (pendingOf_congr (withdrawn_tx ..) k))

/-- ROSTER-LEAVE, claimed with no ROSTER note on the wire, takes the place of a ROSTER-JOIN. -/
theorem claimRoster_leave {s : State} (free : s.onWire .roster = false)
    (waiting : s.pendingOf .roster = [] ∨ ∃ n, s.pendingOf .roster = [n] ∧ n.claim = .rosterJoin) :
    (s.claimRoster .rosterLeave).pendingOf .roster = [{ claim := .rosterLeave, attempts := 0, doom := .none }] := by
  have joined (v : State) (empty : v.pendingOf .roster = []) :
      (v.joinList .rosterLeave).pendingOf .roster = [{ claim := .rosterLeave, attempts := 0, doom := .none }] :=
    (joinList_pendingOf_same v .rosterLeave).trans (by rw [show v.pendingOf Claim.rosterLeave.kind = [] from empty]; rfl)
  obtain empty | ⟨n, one, join⟩ := waiting
  · rw [claimRoster_of_empty empty]
    exact joined s empty
  · unfold State.claimRoster
    rw [one]
    dsimp only
    rw [if_neg (by rw [join]; decide), if_neg (by rw [free]; decide)]
    exact joined _ (setPending_pendingOf_same _ _ _)

/-! ### Entries into LISTENING and LEAVING (R78, R79, R89) -/

/-- What the entry into LISTENING sets beyond the station state. -/
theorem enterListening_only (s : State) :
    Only [.state, .memCtr, .port, .events, .noticeCtr, .mode, .position, .trunk, .vetoRun, .roster, .timers] s
      s.enterListening := by
  have changed := (changeState_only s .listening).mono (S := [.state, .memCtr, .port, .events, .noticeCtr, .mode,
    .position, .trunk, .vetoRun, .roster, .timers]) (by decide)
  unfold State.enterListening
  dsimp only
  generalize s.changeState .listening = v at changed ⊢
  refine changed.next (T := [.mode, .position, .trunk, .vetoRun, .roster, .timers]) ?_
  intro p out
  cases p
  case mode | position | trunk | vetoRun | roster | timers => exact absurd (by decide) out
  all_goals rfl

theorem enterListening_mem (s : State) : s.enterListening.mem
    = { s.mem with state := .listening, heardRoll := false, listen := s.startTimer (2 * cfgR s.area) } := by
  have changed : s.enterListening.mem = { (s.changeState .listening).mem with
    heardRoll := false, listen := (s.changeState .listening).startTimer (2 * cfgR (s.changeState .listening).area) } := rfl
  rw [changed, changeState_eq]
  rfl

theorem enterListening_pos (s : State) : s.enterListening.pos = s.pos.stop s.area := by
  have changed : s.enterListening.pos = (s.changeState .listening).pos.stop (s.changeState .listening).area := rfl
  rw [changed, changeState_eq]

theorem enterListening_trunk (s : State) : s.enterListening.trunk
    = { s.trunk with view := if takesPart s.mem.state then s.trunk.view else .settling } := by
  have changed : s.enterListening.trunk = { (s.changeState .listening).trunk with
    view := if takesPart s.mem.state then (s.changeState .listening).trunk.view else .settling } := rfl
  rw [changed, changeState_trunk]

/-- A station that turns LEAVING, before its notes are withdrawn (R89). -/
def State.turnedLeaving (s : State) : State :=
  { s.changeState .leaving with mem := { (s.changeState .leaving).mem.stopTimers with
      peers := (s.changeState .leaving).mem.peers.map (Option.map Peer.forgetSkew), leavingByReset := false } }

theorem enterLeaving_eq (s : State) : s.enterLeaving = (if s.mem.state = .member then
    { s.turnedLeaving with pos := { s.turnedLeaving.pos with mode := .tracking } }.withdrawAll .withdrawn true
  else s.turnedLeaving).claimRoster .rosterLeave := rfl

theorem turnedLeaving_mem (s : State) : s.turnedLeaving.mem = { s.mem.stopTimers with
    state := .leaving, peers := s.mem.peers.map (Option.map Peer.forgetSkew), leavingByReset := false } := by
  have changed : s.turnedLeaving.mem = { (s.changeState .leaving).mem.stopTimers with
    peers := (s.changeState .leaving).mem.peers.map (Option.map Peer.forgetSkew), leavingByReset := false } := rfl
  rw [changed, changeState_mem]
  rfl

theorem turnedLeaving_pos (s : State) : s.turnedLeaving.pos = s.pos := changeState_pos s .leaving

theorem turnedLeaving_tx (s : State) : s.turnedLeaving.tx = s.tx := changeState_tx s .leaving

theorem turnedLeaving_trunk (s : State) : s.turnedLeaving.trunk = s.trunk := changeState_trunk s .leaving

theorem enterLeaving_mem (s : State) : s.enterLeaving.mem = s.turnedLeaving.mem := by
  rw [enterLeaving_eq, claimRoster_mem]
  split
  · rw [withdrawAll_mem]
  · rfl

theorem enterLeaving_of_member {s : State} (member : s.mem.state = .member) :
    s.enterLeaving.pos = { s.pos with mode := .tracking }
      ∧ s.enterLeaving.pendingOf .done = s.pendingOf .done
      ∧ (s.trunk.wire = none → ∀ k, k ≠ .done → k ≠ .roster → s.enterLeaving.pendingOf k = [])
      ∧ (s.trunk.wire = none →
          s.enterLeaving.pendingOf .roster = [{ claim := .rosterLeave, attempts := 0, doom := .none }]) := by
  have trunk := turnedLeaving_trunk s
  have tx := turnedLeaving_tx s
  rw [enterLeaving_eq, if_pos member, claimRoster_pos, withdrawAll_pos, ← turnedLeaving_pos s]
  generalize s.turnedLeaving = v at trunk tx ⊢
  have gone {k : NoteKind} (free : s.trunk.wire = none) (not_done : k ≠ .done) :
      ({ v with pos := { v.pos with mode := .tracking } }.withdrawAll .withdrawn true).pendingOf k = [] :=
    withdrawAll_of_free (onWire_of_free (s := { v with pos := { v.pos with mode := .tracking } })
      ((congrArg Trunk.wire trunk).trans free) k) .withdrawn fun _ => not_done
  refine ⟨rfl, ?_, fun free k not_done other => ?_, fun free => ?_⟩
  · rw [claimRoster_pendingOf_of_ne _ rfl (by decide), withdrawAll_done]
    exact pendingOf_congr (u := { v with pos := { v.pos with mode := .tracking } }) tx .done
  · rw [claimRoster_pendingOf_of_ne _ rfl other]
    exact gone free not_done
  · refine claimRoster_leave (onWire_of_free ?_ .roster) (.inl (gone free (by decide)))
    rw [withdrawAll_trunk]
    exact (congrArg Trunk.wire trunk).trans free

theorem enterLeaving_of_stranger {s : State} (stranger : s.mem.state ≠ .member) :
    s.enterLeaving.pos = s.pos
      ∧ s.enterLeaving.pendingOf .done = s.pendingOf .done
      ∧ (s.trunk.wire = none → (s.pendingOf .roster = [] ∨ ∃ n, s.pendingOf .roster = [n] ∧ n.claim = .rosterJoin) →
          s.enterLeaving.pendingOf .roster = [{ claim := .rosterLeave, attempts := 0, doom := .none }]) := by
  rw [enterLeaving_eq, if_neg stranger, claimRoster_pos]
  have tx := turnedLeaving_tx s
  refine ⟨turnedLeaving_pos s, ?_, fun free waiting => ?_⟩
  · rw [claimRoster_pendingOf_of_ne _ rfl (by decide)]
    exact pendingOf_congr tx .done
  · refine claimRoster_leave (onWire_of_free ((congrArg Trunk.wire (turnedLeaving_trunk s)).trans free) .roster) ?_
    rw [pendingOf_congr tx]
    exact waiting

end Sys2Proof.Machine

namespace Sys2Proof

open Machine

/-- Settles O51: the entries into LISTENING, LEAVING and CONFIGURED, and the refusals. -/
theorem joinAndLeaveCommands : Obligations.JoinAndLeaveCommands := by
  intro t s idle
  have joins : exec (.join t) s = .next (if s.mem.state = .configured then
      (s.takenAt t 2).enterListening.answer 2 .accepted 0 else s.answeredAs t 2 .refusedState 0) :=
    congrArg Host.Outcome.next (take_tick_of_idle idle t 2 _)
  have leaves : exec (.leave t) s = .next (match s.mem.state with
      | .member | .joining => (s.takenAt t 3).enterLeaving.settle.answer 3 .accepted 0
      | .listening => ((s.takenAt t 3).enterConfigured false).answer 3 .accepted 0
      | .unconfigured | .configured | .leaving | .lapsed => s.answeredAs t 3 .refusedState 0) :=
    congrArg Host.Outcome.next (take_tick_of_idle idle t 3 _)
  rw [joins, leaves]
  refine ⟨fun other => by rw [if_neg other], fun configured => ⟨_, congrArg Host.Outcome.next (if_pos configured), ?_⟩,
    fun other => ?_, fun inside free => ?_, fun listening => ?_⟩
  · have only := enterListening_only (s.takenAt t 2)
    have mem := enterListening_mem (s.takenAt t 2)
    simp only [answer_mem, answer_trunk, answer_pos, answer_frames, answer_taps, answer_tx, enterListening_pos, mem,
      enterListening_trunk]
    refine ⟨trivial, ?_, trivial, ?_, ?_, only.frames_same, ?_, only .tx (by decide), rfl, rfl, ?_⟩
    · rfl
    · rw [show (s.takenAt t 2).mem.state = .configured from configured]
      rfl
    · rfl
    · exact changeState_taps (s.takenAt t 2) .listening
    · exact changeState_memCtr (s.takenAt t 2) .listening
  · obtain other | other | other | other := other
    all_goals rw [other]
  · have accepted : (match s.mem.state with
      | .member | .joining => (s.takenAt t 3).enterLeaving.settle.answer 3 .accepted 0
      | .listening => ((s.takenAt t 3).enterConfigured false).answer 3 .accepted 0
      | .unconfigured | .configured | .leaving | .lapsed => s.answeredAs t 3 .refusedState 0)
        = (s.takenAt t 3).enterLeaving.settle.answer 3 .accepted 0 := by
      obtain inside | inside := inside
      all_goals rw [inside]
    refine ⟨_, congrArg Host.Outcome.next accepted, ?_⟩
    have pending (k : NoteKind) : ((s.takenAt t 3).enterLeaving.settle.answer 3 .accepted 0).pendingOf k
        = (s.takenAt t 3).enterLeaving.pendingOf k :=
      (pendingOf_congr (answer_tx ..) k).trans (pendingOf_congr (settle_tx _) k)
    simp only [pending, answer_mem, answer_pos, settle_mem, settle_pos, enterLeaving_mem, turnedLeaving_mem]
    refine ⟨trivial, rfl, rfl, fun p => getElem_replicate_fin .., fun waiting => ?_, ?_, fun member => ?_, fun joining => ?_, rfl⟩
    · by_cases member : s.mem.state = .member
      · exact (enterLeaving_of_member (s := s.takenAt t 3) member).2.2.2 free
      · refine (enterLeaving_of_stranger (s := s.takenAt t 3) member).2.2 free ?_
        exact waiting.imp_right fun rest => rest.resolve_left member
    · by_cases member : s.mem.state = .member
      · exact (enterLeaving_of_member (s := s.takenAt t 3) member).2.1
      · exact (enterLeaving_of_stranger (s := s.takenAt t 3) member).2.1
    · obtain ⟨pos, _, gone, _⟩ := enterLeaving_of_member (s := s.takenAt t 3) member
      rw [pos]
      exact ⟨rfl, gone free⟩
    · exact (enterLeaving_of_stranger (s := s.takenAt t 3) (by
        show s.mem.state ≠ .member
        rw [joining]
        decide)).1
  · rw [listening]
    refine ⟨_, rfl, enterConfigured_state (s.takenAt t 3) false, ?_, ?_, fun k free => ?_, rfl⟩
    · exact (State.emptied.enterConfigured (s.takenAt t 3) false).1
    · exact State.emptied.enterConfigured (s.takenAt t 3) false
    · exact enterConfigured_pendingOf (s := s.takenAt t 3) free false

end Sys2Proof

/-! The configuration check (R93, R174, R177). -/

namespace Sys2Proof.Machine

-- One proof at a time: the proofs of many statements at once take more threads than the memory holds.
set_option Elab.async false

/-! ### The check -/

/-- A check that has fallen due, before the digest is compared (R177). -/
def State.checked (s : State) (upsets : List Host.Cell) (deadline : Moment) : State :=
  { s with
    window := { s.window with
      area := (s.upset upsets).area, nextCheck := some (deadline + cfgCheckInterval (s.upset upsets).area) }
    ctr := { s.ctr with window := { s.ctr.window with configChecks := s.ctr.window.configChecks + 1 } } }

theorem exec_configCheck_due {s : State} {deadline : Moment} (next : s.window.nextCheck = some deadline) {t : Moment}
    (due : deadline ≤ max s.now t) (configured : s.mem.state ≠ .unconfigured) (upsets : List Host.Cell) :
    exec (.configCheck t upsets) s = .next
      (if configDigest ((s.tick t).checked upsets deadline).area = s.window.digest then (s.tick t).checked upsets deadline
       else ((s.tick t).checked upsets deadline).corrupt.keepLeaveClaimed.settle) := by
  have falls : deadline ≤ (s.tick t).now ∧ (s.tick t).configured = true := ⟨due, by simp [State.configured, configured]⟩
  show execConfigCheck t upsets s = _
  unfold execConfigCheck
  dsimp only
  rw [show (s.tick t).window.nextCheck = some deadline from next]
  dsimp only
  rw [if_pos falls]
  rfl

/-- A check that finds the digest changed, before the station state is judged (R93). -/
def State.corruptSeen (s : State) : State :=
  (s.bump (countWindow fun c => { c with configCorruptSeen := c.configCorruptSeen + 1 })).raise .configCorrupt

theorem corruptSeen_mem (s : State) : s.corruptSeen.mem = s.mem := raise_mem ..

/-- The window's counters but the two counts of records. -/
theorem Only.window_counts {S : List Piece} {s u : State} (h : Only S s u) (out : .windowCtr ∉ S := by decide) :
    u.ctr.window = { s.ctr.window with
      eventsOverwritten := u.ctr.window.eventsOverwritten, noticesLost := u.ctr.window.noticesLost } :=
  congrArg (fun c : WindowCounters => { c with
    eventsOverwritten := u.ctr.window.eventsOverwritten, noticesLost := u.ctr.window.noticesLost }) (h .windowCtr out)

/-- The counts of the checks, after one that finds the digest changed (R177). -/
theorem corruptSeen_counts (s : State) : s.corruptSeen.ctr.window.configChecks = s.ctr.window.configChecks
    ∧ s.corruptSeen.ctr.window.configCorruptSeen = s.ctr.window.configCorruptSeen + 1 := by
  unfold State.corruptSeen
  rw [(raise_only _ .configCorrupt).window_counts]
  exact ⟨rfl, rfl⟩

/-- The pieces that may change once the corruption has been counted and raised. -/
def corruptPieces : List Piece := lapsePieces ++ configuredPieces

theorem corrupt_of_inside {s : State} (inside : s.mem.state = .member ∨ s.mem.state = .leaving) :
    s.corrupt = s.corruptSeen.lapse := by
  unfold State.corrupt State.corruptSeen
  obtain inside | inside := inside
  all_goals rw [inside]

theorem corrupt_of_apart {s : State}
    (apart : s.mem.state = .configured ∨ s.mem.state = .listening ∨ s.mem.state = .joining) :
    s.corrupt = (s.corruptSeen.unitsToConfigured false).enterUnconfigured := by
  unfold State.corrupt State.corruptSeen
  obtain apart | apart | apart := apart
  all_goals rw [apart]

theorem corrupt_of_lapsed {s : State} (lapsed : s.mem.state = .lapsed) : s.corrupt = s.corruptSeen := by
  unfold State.corrupt State.corruptSeen
  rw [lapsed]

theorem corrupt_only {s : State} (configured : s.mem.state ≠ .unconfigured) :
    Only corruptPieces s.corruptSeen s.corrupt := by
  have lapses : Only corruptPieces s.corruptSeen s.corruptSeen.lapse := (lapse_only _).mono (by decide)
  have leaves : Only corruptPieces s.corruptSeen (s.corruptSeen.unitsToConfigured false).enterUnconfigured :=
    ((unitsToConfigured_only _ _).mono (by decide)).next (enterUnconfigured_only _)
  cases state : s.mem.state with
  | unconfigured => exact absurd state configured
  | member => exact corrupt_of_inside (.inl state) ▸ lapses
  | leaving => exact corrupt_of_inside (.inr state) ▸ lapses
  | configured => exact corrupt_of_apart (.inl state) ▸ leaves
  | listening => exact corrupt_of_apart (.inr (.inl state)) ▸ leaves
  | joining => exact corrupt_of_apart (.inr (.inr state)) ▸ leaves
  | lapsed => exact corrupt_of_lapsed state ▸ .refl _ _

/-- What a found corruption leaves: the flag, the counts, the area (R93, R177). -/
theorem corrupt_settled {s : State} (configured : s.mem.state ≠ .unconfigured) :
    s.corrupt.keepLeaveClaimed.settle.faultSet .configCorrupt = true
      ∧ s.corrupt.keepLeaveClaimed.settle.ctr.window.configChecks = s.ctr.window.configChecks
      ∧ s.corrupt.keepLeaveClaimed.settle.ctr.window.configCorruptSeen = s.ctr.window.configCorruptSeen + 1 := by
  have only := ((corrupt_only configured).next (keepLeaveClaimed_only _)).next (settle_only _)
  obtain ⟨checks, seen⟩ := corruptSeen_counts s
  have flag : s.corruptSeen.faultSet .configCorrupt = true := raise_faultSet ..
  rw [faultSet_of_only only, only.window_counts]
  exact ⟨flag, checks, seen⟩

/-- A station of the group, and a LAPSED one, is LAPSED after a found corruption (R93). -/
theorem corrupt_settled_lapsed {s : State}
    (inside : s.mem.state = .member ∨ s.mem.state = .leaving ∨ s.mem.state = .lapsed) :
    s.corrupt.keepLeaveClaimed.settle.mem.state = .lapsed := by
  rw [settle_mem, keepLeaveClaimed_mem]
  obtain inside | inside | lapsed := inside
  · rw [corrupt_of_inside (.inl inside), lapse_mem_state]
  · rw [corrupt_of_inside (.inr inside), lapse_mem_state]
  · rw [corrupt_of_lapsed lapsed, corruptSeen_mem, lapsed]

/-- Every other configured station is UNCONFIGURED after a found corruption (R93, R177). -/
theorem corrupt_settled_apart {s : State}
    (apart : s.mem.state = .configured ∨ s.mem.state = .listening ∨ s.mem.state = .joining) :
    s.corrupt.keepLeaveClaimed.settle.mem.state = .unconfigured ∧ s.corrupt.keepLeaveClaimed.settle.window.digest = 0
      ∧ s.corrupt.keepLeaveClaimed.settle.mem.number = none ∧ s.corrupt.keepLeaveClaimed.settle.mem.roster = 0
      ∧ s.corrupt.keepLeaveClaimed.settle.window.nextCheck = none := by
  have only := ((keepLeaveClaimed_only s.corrupt).mono (S := claimPieces ++ settlePieces) (by decide)).next
    (settle_only _)
  obtain ⟨_, check⟩ := Prod.ext_iff.mp (only .checks (by decide))
  have check' : s.corrupt.keepLeaveClaimed.settle.window.nextCheck = s.corrupt.window.nextCheck := check
  rw [settle_mem, keepLeaveClaimed_mem, settle_digest, keepLeaveClaimed_digest, check', corrupt_of_apart apart]
  generalize units : s.corruptSeen.unitsToConfigured false = v
  obtain ⟨roster, _⟩ := units ▸ State.emptied.unitsToConfigured s.corruptSeen false
  have mem : v.enterUnconfigured.mem = { (v.changeState .unconfigured).mem with number := none } := rfl
  rw [mem, changeState_mem]
  exact ⟨rfl, rfl, rfl, roster, rfl⟩

end Sys2Proof.Machine

namespace Sys2Proof

open Machine

/-- Settles O55: a digest as it was, and one that has changed. -/
theorem configCheckFindsUpset : Obligations.ConfigCheckFindsUpset := by
  intro t upsets s deadline next due configured area
  rw [exec_configCheck_due next due configured]
  refine ⟨fun same => ?_, fun changed => ⟨_, congrArg Host.Outcome.next (if_neg changed), ?_⟩⟩
  · exact congrArg Host.Outcome.next (if_pos same)
  · obtain ⟨flag, checks, seen⟩ := corrupt_settled (s := (s.tick t).checked upsets deadline) configured
    refine ⟨?_, flag, checks, seen, fun inside => corrupt_settled_lapsed inside, fun apart => corrupt_settled_apart apart⟩
    unfold State.area
    rw [settle_area, keepLeaveClaimed_area, corrupt_area]
    rfl

end Sys2Proof

/-! The own parts in the frame table (R96, R142): what an update of a leg or a part does to each place, and the walk over
all places. -/

namespace Sys2Proof.Machine

-- One proof at a time: the proofs of many statements at once take more threads than the memory holds.
set_option Elab.async false

/-! ### One place -/

theorem legAt_known {s : State} {i : Fin 8} {e : Entry} (known : s.frames.slots[i] = .known e) (j : Fin 2) :
    s.legAt i j = some e.legs[j] := by
  unfold State.legAt
  rw [known]
  rfl

/-- What an update of a leg leaves in its slot. -/
theorem modifyLeg_known {s : State} {i : Fin 8} {e : Entry} (known : s.frames.slots[i] = .known e) (j : Fin 2)
    (f : Leg → Leg) : s.modifyLeg i j f = s.setSlot i (.known (e.setLeg j (f e.legs[j]))) := by
  unfold State.modifyLeg
  rw [known]

theorem modifyLeg_unknown {s : State} {i : Fin 8} (unknown : s.frames.slots[i].entry = none) (j : Fin 2)
    (f : Leg → Leg) : s.modifyLeg i j f = s := by
  unfold State.modifyLeg
  cases slot : s.frames.slots[i] with
  | free => rfl
  | foreign k => rfl
  | known e =>
    rw [slot] at unknown
    exact absurd unknown (by simp [Slot.entry])

theorem modifyLeg_slots_of_ne (s : State) {i k : Fin 8} (other : k ≠ i) (j : Fin 2) (f : Leg → Leg) :
    (s.modifyLeg i j f).frames.slots[k] = s.frames.slots[k] := by
  unfold State.modifyLeg
  split
  · exact setSlot_slots_of_ne s _ other
  · rfl
  · rfl

theorem modifyLeg_legAt_same (s : State) (i : Fin 8) (j : Fin 2) (f : Leg → Leg) :
    (s.modifyLeg i j f).legAt i j = (s.legAt i j).map f := by
  cases slot : s.frames.slots[i] with
  | known e =>
    rw [modifyLeg_known slot, legAt_known slot, legAt_known (setSlot_slots_same s i _)]
    exact congrArg some (Vector.getElem_set_self ..)
  | free | foreign k =>
    have none_there : s.legAt i j = none := by
      unfold State.legAt
      rw [slot]
      rfl
    rw [modifyLeg_unknown (by rw [slot]; rfl), none_there, Option.map_none]

theorem modifyLeg_legAt_of_ne (s : State) {i k : Fin 8} {j l : Fin 2} (other : k ≠ i ∨ l ≠ j) (f : Leg → Leg) :
    (s.modifyLeg i j f).legAt k l = s.legAt k l := by
  by_cases slot : k = i
  · subst slot
    have stream : l ≠ j := other.resolve_left (not_not_intro rfl)
    cases slot : s.frames.slots[k] with
    | known e =>
      rw [modifyLeg_known slot, legAt_known slot, legAt_known (setSlot_slots_same s k _)]
      exact congrArg some (getElem_set_of_ne e.legs _ stream)
    | free | foreign k => rw [modifyLeg_unknown (by rw [slot]; rfl)]
  · unfold State.legAt
    rw [modifyLeg_slots_of_ne s slot]

theorem modifyPart_partAt_same (s : State) (i : Fin 8) (j : Fin 2) (f : OwnPart → OwnPart) :
    (s.modifyPart i j f).partAt i j = (s.partAt i j).map f := by
  unfold State.partAt State.modifyPart
  rw [modifyLeg_legAt_same]
  cases s.legAt i j <;> rfl

theorem modifyPart_partAt_of_ne (s : State) {i k : Fin 8} {j l : Fin 2} (other : k ≠ i ∨ l ≠ j)
    (f : OwnPart → OwnPart) : (s.modifyPart i j f).partAt k l = s.partAt k l := by
  unfold State.partAt State.modifyPart
  rw [modifyLeg_legAt_of_ne s other]

/-! ### All places -/

theorem mem_insertByFrame (frame : Fin 8 → Nat) (i k : Fin 8) (l : List (Fin 8)) :
    k ∈ insertByFrame frame i l ↔ k = i ∨ k ∈ l := by
  induction l with
  | nil => simp [insertByFrame]
  | cons j rest ih =>
    unfold insertByFrame
    split
    · exact List.mem_cons
    · rw [List.mem_cons, ih, List.mem_cons]
      exact or_left_comm

theorem mem_knownSlots (s : State) (i : Fin 8) : i ∈ s.knownSlots ↔ ∃ e, s.frames.slots[i].entry = some e := by
  have sorted (l : List (Fin 8)) (frame : Fin 8 → Nat) : i ∈ l.foldr (insertByFrame frame) [] ↔ i ∈ l := by
    induction l with
    | nil => rfl
    | cons k rest ih => rw [List.foldr_cons, mem_insertByFrame, ih, List.mem_cons]
  unfold State.knownSlots
  rw [sorted, List.mem_filter, Option.isSome_iff_exists]
  exact and_iff_right (List.mem_finRange i)

theorem mem_legPlaces (s : State) (i : Fin 8) (j : Fin 2) :
    (i, j) ∈ s.legPlaces ↔ ∃ e, s.frames.slots[i].entry = some e := by
  have both : (i, j) = (i, 0) ∨ (i, j) = (i, 1) := by
    obtain rfl | rfl : j = 0 ∨ j = 1 := by omega
    · exact .inl rfl
    · exact .inr rfl
  unfold State.legPlaces
  rw [List.mem_flatMap, ← mem_knownSlots]
  constructor
  · rintro ⟨k, known, place⟩
    simp only [List.mem_cons, Prod.mk.injEq, List.not_mem_nil, or_false] at place
    obtain ⟨rfl, _⟩ | ⟨rfl, _⟩ := place
    all_goals exact known
  · intro known
    refine ⟨i, known, ?_⟩
    rw [List.mem_cons, List.mem_singleton]
    exact both

theorem mem_legPlaces_of_part {s : State} {i : Fin 8} {j : Fin 2} {p : OwnPart} (part : s.partAt i j = some p) :
    (i, j) ∈ s.legPlaces := by
  obtain ⟨l, leg, _⟩ := Option.bind_eq_some_iff.mp part
  obtain ⟨e, entry, _⟩ := Option.map_eq_some_iff.mp leg
  exact (mem_legPlaces s i j).mpr ⟨e, entry⟩

/-- A walk over places that does at each what a second time does not change. -/
theorem foldl_modifyPart {f : OwnPart → OwnPart} (again : ∀ p, f (f p) = f p) (l : List (Fin 8 × Fin 2)) (s : State)
    {i : Fin 8} {j : Fin 2} (reached : (i, j) ∈ l ∨ (s.partAt i j).map f = s.partAt i j) :
    (l.foldl (fun s q => s.modifyPart q.1 q.2 f) s).partAt i j = (s.partAt i j).map f := by
  induction l generalizing s with
  | nil => exact (reached.resolve_left List.not_mem_nil).symm
  | cons q l ih =>
    have idem (o : Option OwnPart) : (o.map f).map f = o.map f := by
      cases o with
      | none => rfl
      | some p => exact congrArg some (again p)
    by_cases same : (i, j) = q
    · subst same
      refine (ih _ (.inr ?_)).trans ?_
      · rw [modifyPart_partAt_same, idem]
      · rw [modifyPart_partAt_same, idem]
    · have other : i ≠ q.1 ∨ j ≠ q.2 := by
        rw [← not_and_or]
        exact fun both => same (Prod.ext both.1 both.2)
      have kept := modifyPart_partAt_of_ne s other f
      refine (ih _ (reached.imp (fun within => (List.mem_cons.mp within).resolve_left same) fun fixed => ?_)).trans ?_
      · rw [kept]
        exact fixed
      · rw [kept]

end Sys2Proof.Machine

/-! RESET-ACQUISITION (R14, R55, R89, R94, R120, R142, R170, R183, R184). -/

namespace Sys2Proof.Machine

-- One proof at a time: the proofs of many statements at once take more threads than the memory holds.
set_option Elab.async false

/-! ### A withdrawal by a reset (R107) -/

theorem withdrawFrom_reset_frames (s : State) (k : NoteKind) (hit : Pending → Bool) :
    (s.withdrawFrom k .reset hit).frames = s.frames := by
  have gone (l : List Pending) (v : State) :
      (l.foldl (fun s n => s.withdrawn n (Doom.reset == .reset)) v).frames = v.frames := by
    induction l generalizing v with
    | nil => rfl
    | cons n l ih => exact (ih _).trans rfl
  unfold State.withdrawFrom
  dsimp only
  split
  all_goals exact gone _ _

theorem withdrawAll_reset_frames (s : State) : (s.withdrawAll .reset false).frames = s.frames := by
  have gone (l : List NoteKind) (v : State) :
      (l.foldl (fun s k => s.withdrawFrom k .reset fun _ => true) v).frames = v.frames := by
    induction l generalizing v with
    | nil => rfl
    | cons k l ih => exact (ih _).trans (withdrawFrom_reset_frames v k _)
  unfold State.withdrawAll
  dsimp only
  rw [if_neg Bool.false_ne_true]
  generalize NoteKind.all.filter _ = l
  exact gone l s

/-- A claim of a ROSTER note that takes the place of none changes no table. -/
theorem claimRoster_frames_of {s : State} (c : Claim) (kept : s.pendingOf .roster = [] ∨ s.onWire .roster = true) :
    (s.claimRoster c).frames = s.frames := by
  unfold State.claimRoster
  split
  · rfl
  · next n rest waiting =>
    have onWire : s.onWire .roster = true := kept.resolve_left (by rw [waiting]; exact List.cons_ne_nil _ _)
    rw [if_pos onWire]
    split <;> rfl

/-! ### A station that is not a member -/

/-- What holds of the units, of a change of state after them, and of the step on to UNCONFIGURED (R94, R177). -/
theorem enterConfigured_of {P Q : State → Prop} {s : State} {byReset : Bool} (units : P (s.unitsToConfigured byReset))
    (changed : ∀ v, P v → P (v.changeState .configured)) (kept : ∀ v, P v → Q v)
    (passed : ∀ v, P v → Q v.enterUnconfigured) : Q (s.enterConfigured byReset) := by
  have entered := ite_of (P := P) (p := (s.unitsToConfigured byReset).mem.state = .configured) (fun _ => units)
    fun _ => changed _ units
  exact ite_of (P := Q) (fun _ => passed _ entered) fun _ => kept _ entered

theorem unitsToConfigured_reset (s : State) : (s.unitsToConfigured true).pos = s.pos.toConfigured s.area
    ∧ (s.unitsToConfigured true).frames.lostGrant = none := by
  unfold State.unitsToConfigured State.area
  dsimp only
  rw [if_pos rfl, if_pos rfl, if_pos rfl, withdrawAll_pos, withdrawAll_area]
  exact ⟨rfl, rfl⟩

theorem enterConfigured_pos (s : State) : (s.enterConfigured true).pos = s.pos.toConfigured s.area := by
  obtain ⟨pos, _⟩ := unitsToConfigured_reset s
  refine enterConfigured_of (P := fun v => v.pos = s.pos.toConfigured s.area)
    (Q := fun v => v.pos = s.pos.toConfigured s.area) pos (fun v h => ?_) (fun v h => h) fun v h => ?_
  · rw [changeState_pos, h]
  · rw [enterUnconfigured_pos, h]

theorem enterConfigured_lostGrant (s : State) : (s.enterConfigured true).frames.lostGrant = none := by
  obtain ⟨_, lost⟩ := unitsToConfigured_reset s
  refine enterConfigured_of (P := fun v => v.frames.lostGrant = none) (Q := fun v => v.frames.lostGrant = none) lost
    (fun v h => ?_) (fun v h => h) fun v h => ?_
  · rw [changeState_frames, h]
  · rw [(enterUnconfigured_only v).frames_same, h]

/-- The digest and the number stay, unless the station passes on to UNCONFIGURED. -/
theorem enterConfigured_kept (s : State) :
    (s.enterConfigured true).mem.state ≠ .unconfigured →
      (s.enterConfigured true).window.digest = s.window.digest ∧ (s.enterConfigured true).mem.number = s.mem.number := by
  refine enterConfigured_of (P := fun v => v.window.digest = s.window.digest ∧ v.mem.number = s.mem.number)
    (Q := fun v => v.mem.state ≠ .unconfigured → v.window.digest = s.window.digest ∧ v.mem.number = s.mem.number)
    ?_ (fun v h => ?_) (fun v h _ => h) fun v h configured => ?_
  · rw [unitsToConfigured_mem, unitsToConfigured_digest]
    exact ⟨rfl, rfl⟩
  · rw [changeState_mem, changeState_digest]
    exact h
  · exact absurd (congrArg Membership.state (changeState_mem v .unconfigured)) configured

/-! ### A member (R14, R55, R89, R142, R170) -/

/-- What an acquisition reset sets in a station that has turned LEAVING, but for own parts and the transmit queue. -/
def State.memberUnits (v : State) : State :=
  { v with
    pos := v.pos.toConfigured v.area
    taps := v.taps.map TapState.toConfigured
    freeLow := 256
    trunk := { v.trunk with vetoRun := 0 }
    mem := { v.mem.stopTimers with peers := v.mem.peers.map (Option.map Peer.forgetSkew), leavingByReset := true }
    frames := { v.frames with lostGrant := none }
    delivery := { v.delivery with handled := Vector.replicate 2 0, waiting := Vector.replicate 2 false
                                  store := Vector.replicate 2 (Vector.replicate 4 none), turn := none
                                  lastTap := 1 }
    records := Records.reset
    signals := { v.signals with outputs := Vector.replicate 4 Output.reset } }

/-- The own parts are VOID or REPORTED (R142). -/
def State.partsReset (v : State) : State :=
  v.legPlaces.foldl (fun s p => s.modifyPart p.1 p.2 OwnPart.resetVoid) v

theorem resetMember_eq (s : State) : s.resetMember
    = (((s.changeState .leaving).memberUnits.partsReset.withdrawAll .reset false).claimRoster .rosterLeave) := rfl

theorem partsReset_only (v : State) : Only [.parts] v v.partsReset :=
  .foldl (fun v _ => modifyPart_only v _ _ _) _ v

theorem partsReset_partAt {v : State} {i : Fin 8} {j : Fin 2} {p : OwnPart} (part : v.partAt i j = some p) :
    v.partsReset.partAt i j = some p.resetVoid := by
  have again (p : OwnPart) : p.resetVoid.resetVoid = p.resetVoid := by
    unfold OwnPart.resetVoid
    cases p.state <;> rfl
  exact (foldl_modifyPart again v.legPlaces v (.inl (mem_legPlaces_of_part part))).trans (by rw [part]; rfl)

/-- The withdrawal by a reset leaves the list of a ROSTER note empty, or a note of it on the wire. -/
theorem withdrawAll_roster (s : State) (doom : Doom) : (s.withdrawAll doom false).pendingOf .roster = []
    ∨ (s.withdrawAll doom false).onWire .roster = true := by
  cases wire : s.onWire .roster with
  | false => exact .inl (withdrawAll_of_free wire doom fun off => absurd off Bool.false_ne_true)
  | true => exact .inr ((onWire_of_trunk (withdrawAll_trunk ..) .roster).trans wire)

/-- The claim that follows a member's reset changes the transmit queue and its counters alone. -/
theorem resetMember_only (s : State) : Only [.tx, .queueCtr] (s.changeState .leaving).memberUnits.partsReset s.resetMember := by
  rw [resetMember_eq]
  generalize (s.changeState .leaving).memberUnits.partsReset = v
  have only := (withdrawAll_only v .reset false).next (claimRoster_only _ .rosterLeave)
  have frames := (claimRoster_frames_of .rosterLeave (withdrawAll_roster v .reset)).trans (withdrawAll_reset_frames v)
  intro p out
  by_cases lost : p = .lostGrant
  · subst lost
    exact congrArg FrameUnit.lostGrant frames
  · refine only p fun within => ?_
    simp only [claimPieces, List.mem_cons, List.not_mem_nil, or_false] at within out
    obtain tx | queue | last := within
    · exact out (.inl tx)
    · exact out (.inr queue)
    · exact lost last

theorem resetMember_units (s : State) :
    Only [.parts, .tx, .queueCtr] (s.changeState .leaving).memberUnits s.resetMember :=
  ((partsReset_only _).mono (by decide)).next (resetMember_only s)

theorem resetMember_partAt {s : State} {i : Fin 8} {j : Fin 2} {p : OwnPart} (part : s.partAt i j = some p) :
    s.resetMember.partAt i j = some p.resetVoid := by
  have kept : s.resetMember.partAt = (s.changeState .leaving).memberUnits.partsReset.partAt :=
    resetMember_only s .parts (by decide)
  have same : (s.changeState .leaving).memberUnits.partAt i j = s.partAt i j := by
    unfold State.partAt State.legAt State.memberUnits
    dsimp only
    rw [changeState_frames]
  rw [kept]
  exact partsReset_partAt (same.trans part)

theorem partsReset_wire (s : State) :
    (s.changeState .leaving).memberUnits.partsReset.trunk.wire = s.trunk.wire := by
  have changed : (s.changeState .leaving).memberUnits.trunk.wire = s.trunk.wire :=
    (congrArg Trunk.wire (changeState_trunk s .leaving) :)
  rw [(partsReset_only _).trunk_same, changed]

theorem resetMember_pendingOf {s : State} {k : NoteKind} (free : s.onWire k = false) (other : k ≠ .roster) :
    s.resetMember.pendingOf k = [] := by
  rw [resetMember_eq, claimRoster_pendingOf_of_ne _ rfl other]
  have parts := partsReset_wire s
  refine withdrawAll_of_free ?_ .reset fun off => absurd off Bool.false_ne_true
  unfold State.onWire State.wireKind at free ⊢
  rw [parts]
  exact free

theorem resetMember_leave {s : State} (free : s.trunk.wire = none) :
    s.resetMember.pendingOf .roster = [{ claim := .rosterLeave, attempts := 0, doom := .none }] := by
  have parts := partsReset_wire s
  rw [resetMember_eq]
  generalize (s.changeState .leaving).memberUnits.partsReset = v at parts ⊢
  have idle : v.onWire .roster = false := onWire_of_free (parts.trans free) .roster
  refine claimRoster_leave ((onWire_of_trunk (withdrawAll_trunk ..) .roster).trans idle) (.inl ?_)
  exact withdrawAll_of_free idle .reset fun off => absurd off Bool.false_ne_true

/-! ### The command -/

/-- The window and the port before the units are reset (R181, R183, R184). -/
theorem resetWindow_only (s : State) : Only [.faults, .registers, .port, .events, .noticeCtr] s s.resetWindow := by
  refine Only.next (T := [.events, .noticeCtr]) ?_ (event_only _ _)
  intro p out
  cases p
  case faults | registers | port => exact absurd (by decide) out
  all_goals rfl

theorem event_window (s : State) (k : EventKind) : (s.event k).window = { s.window with
    events := (s.event k).window.events, eventNumber := (s.event k).window.eventNumber } := by
  unfold State.event
  dsimp only
  split <;> rfl

theorem resetWindow_window (s : State) : s.resetWindow.window = { s.window with
    faults := s.window.faults &&& 0x100#16, collision := false
    events := s.resetWindow.window.events, eventNumber := s.resetWindow.window.eventNumber } := event_window _ _

theorem resetWindow_home (s : State) : s.resetWindow.home = s.home := by
  unfold State.home State.faultSet
  rw [resetWindow_window]
  simp [FaultKind.bit]

/-- What the units hold after an acquisition reset, in a station of any state (R14, R35, R94, R170). -/
def State.UnitsReset (w u : State) : Prop :=
  u.area = w.area ∧ u.window.faults = w.window.faults ∧ u.window.collision = w.window.collision
    ∧ u.pos = w.pos.toConfigured w.area
    ∧ (∀ t : Tap, (u.taps[t]).triggers = [] ∧ (u.taps[t]).lines = [] ∧ (u.taps[t]).port = .idle
        ∧ (u.taps[t]).primed = false ∧ (u.taps[t]).expected = 0)
    ∧ u.freeLow = 256 ∧ u.records.queue = [] ∧ u.delivery.turn = none ∧ u.delivery.lastTap = 1
    ∧ (∀ t : Tap, u.delivery.handled[t] = 0)
    ∧ (∀ j : Fin 4, u.signals.outputs[j]
        = { ranges := [], changes := [], follow := false, lastApplied := none, manual := false })
    ∧ u.trunk.vetoRun = 0 ∧ u.frames.lostGrant = none ∧ u.delivery.linkUp = w.delivery.linkUp
    ∧ ∀ (t : Tap) (phase : Fin 4), (u.delivery.store[t])[phase] = none

theorem enterConfigured_unitsReset (w : State) : w.UnitsReset (w.enterConfigured true) := by
  have only := enterConfigured_only w true
  have area : (w.enterConfigured true).area = w.area := enterConfigured_area w true
  have faults : (w.enterConfigured true).window.faults = w.window.faults := only .faults (by decide)
  have registers : (_, _, _, _, (w.enterConfigured true).window.collision) = (_, _, _, _, _) := only .registers (by decide)
  have link : (w.enterConfigured true).delivery.linkUp = w.delivery.linkUp := only .link (by decide)
  obtain ⟨-, -, -, -, -, -, -, -, -, -, -, -, taps, -, low, -, -, -, -, -, -, run, -, turn, lastTap, handled, store, -,
    records, outputs⟩ := State.emptied.enterConfigured w true
  exact ⟨area, faults, (Prod.mk.inj (Prod.mk.inj (Prod.mk.inj (Prod.mk.inj registers).2).2).2).2, enterConfigured_pos w,
    taps, low, records, turn, lastTap, handled, outputs, run, enterConfigured_lostGrant w, link, store⟩

theorem resetMember_unitsReset (w : State) : w.UnitsReset w.resetMember := by
  have only := resetMember_units w
  have changed := changeState_only w .leaving
  generalize w.changeState .leaving = v at only changed
  have tap (t : Tap) : w.resetMember.taps[t] = v.memberUnits.taps[t] := by
    rw [only.tap_eq t, only.lines_eq t]
  have reset (t : Tap) : v.memberUnits.taps[t] = { TapState.reset with pulse := (v.taps[t]).pulse } := getElem_map_fin ..
  have window := only.window_eq
  have store : w.resetMember.delivery.store = Vector.replicate 2 (Vector.replicate 4 none) := only .store (by decide)
  have turn : (w.resetMember.delivery.turn, w.resetMember.delivery.lastTap) = (none, 1) := only .turn (by decide)
  have handled : w.resetMember.delivery.handled = Vector.replicate 2 0 := only .handled (by decide)
  have outputs : w.resetMember.signals.outputs = Vector.replicate 4 Output.reset := only .outputs (by decide)
  have records : w.resetMember.records = Records.reset := only .records (by decide)
  have area : w.resetMember.area = w.area := only.area_eq.1.trans changed.area_eq.1
  have faults : w.resetMember.window.faults = w.window.faults :=
    (only .faults (by decide)).trans (changed .faults (by decide))
  have link : w.resetMember.delivery.linkUp = w.delivery.linkUp :=
    (only .link (by decide)).trans (changed .link (by decide))
  have collision : w.resetMember.window.collision = w.window.collision := by
    rw [only.window_eq]
    exact (congrArg Window.collision changed.window_eq :)
  have pos : w.resetMember.pos = w.pos.toConfigured w.area := by
    rw [only.pos_same, ← changed.pos_same, ← changed.area_eq.1]
    rfl
  refine ⟨area, faults, collision, pos, fun t => ?_, only .freeLow (by decide), congrArg Records.queue records,
    (Prod.mk.inj turn).1, (Prod.mk.inj turn).2, fun t => ?_, fun j => ?_, only .vetoRun (by decide),
    only .lostGrant (by decide), link, fun t phase => ?_⟩
  · rw [tap, reset]
    exact ⟨rfl, rfl, rfl, rfl, rfl⟩
  · rw [handled]
    exact getElem_replicate_fin ..
  · rw [outputs]
    exact getElem_replicate_fin ..
  · rw [store]
    exact (congrArg (fun x : Vector (Option StoredRow) 4 => x[phase]) (getElem_replicate_fin ..)).trans
      (getElem_replicate_fin ..)

end Sys2Proof.Machine

/-! The statement about the acquisition reset. -/

namespace Sys2Proof.Machine

-- One proof at a time: the proofs of many statements at once take more threads than the memory holds.
set_option Elab.async false

/-- The station after an acquisition reset that is answered (R183, log 26). -/
def State.resetAnswered (u : State) : State := { u with ctr := {} }.answer 10 .accepted 0

/-- The state whose units are reset: the command taken, the window cleared. -/
def State.aboutToReset (s : State) (t : Moment) : State := (s.takenAt t 10).resetWindow

theorem exec_resetAcquisition_of_idle {s : State} (idle : s.window.taking = none) (t : Moment) :
    exec (.resetAcquisition t) s = .next (match s.mem.state with
      | .unconfigured => s.answeredAs t 10 .refusedState 0
      | .member => (s.aboutToReset t).resetMember.resetAnswered
      | .configured | .listening | .joining | .leaving | .lapsed =>
        ((s.aboutToReset t).enterConfigured true).resetAnswered) :=
  congrArg Host.Outcome.next (take_tick_of_idle idle t 10 _)

/-- The command's meaning in a configured state. -/
theorem exec_resetAcquisition_of_configured {s : State} (idle : s.window.taking = none)
    (configured : s.mem.state ≠ .unconfigured) (t : Moment) :
    exec (.resetAcquisition t) s = .next (if s.mem.state = .member then
      (s.aboutToReset t).resetMember.resetAnswered
    else ((s.aboutToReset t).enterConfigured true).resetAnswered) := by
  rw [exec_resetAcquisition_of_idle idle]
  cases state : s.mem.state with
  | unconfigured => exact absurd state configured
  | member => rfl
  | configured | listening | joining | leaving | lapsed => rfl

theorem aboutToReset_only (s : State) (t : Moment) :
    Only [.now, .registers, .faults, .port, .events, .noticeCtr] s (s.aboutToReset t) := by
  refine Only.next (T := [.faults, .registers, .port, .events, .noticeCtr]) ?_ (resetWindow_only _)
  intro p out
  cases p
  case now | registers => exact absurd (by decide) out
  all_goals rfl

theorem aboutToReset_window (s : State) (t : Moment) : (s.aboutToReset t).window.faults = s.window.faults &&& 0x100#16
    ∧ (s.aboutToReset t).window.collision = false := by
  unfold State.aboutToReset
  rw [resetWindow_window]
  exact ⟨rfl, rfl⟩

theorem aboutToReset_home (s : State) (t : Moment) : (s.aboutToReset t).home = s.home := resetWindow_home _

/-- What the statement says of a station of any state, of the state before the answer. -/
theorem unitsReset_values {s u : State} {t : Moment} (h : (s.aboutToReset t).UnitsReset u) :
    u.area = s.area ∧ u.window.faults = s.window.faults &&& 0x100#16 ∧ u.window.collision = false
      ∧ u.pos = { s.pos with offset := 0, mode := .stopped, leftFrame := s.currentFrame, latch := none,
                             lastIssue := none, strobes := Vector.replicate 4 none }
      ∧ u.currentFrame = s.currentFrame ∧ u.delivery.linkUp = s.delivery.linkUp := by
  obtain ⟨area, faults, collision, pos, -, -, -, -, -, -, -, -, -, link, -⟩ := h
  have only := aboutToReset_only s t
  have same_area : (s.aboutToReset t).area = s.area := only.area_eq.1
  obtain ⟨flags, clear⟩ := aboutToReset_window s t
  have stopped : u.pos = { s.pos with offset := 0, mode := .stopped, leftFrame := s.currentFrame, latch := none,
                                      lastIssue := none, strobes := Vector.replicate 4 none } := by
    rw [pos, only.pos_same, same_area]
    rfl
  refine ⟨area.trans same_area, faults.trans flags, collision.trans clear, stopped, ?_, link.trans (only .link (by decide))⟩
  unfold State.currentFrame
  rw [stopped]
  rfl

theorem resetMember_mem (w : State) : w.resetMember.mem = { w.mem.stopTimers with
    state := .leaving, peers := w.mem.peers.map (Option.map Peer.forgetSkew), leavingByReset := true } := by
  have units : (w.changeState .leaving).memberUnits.mem = { (w.changeState .leaving).mem.stopTimers with
    peers := (w.changeState .leaving).mem.peers.map (Option.map Peer.forgetSkew), leavingByReset := true } := rfl
  rw [(resetMember_units w).mem_same, units, changeState_mem]
  rfl

theorem resetMember_frames (w : State) :
    w.resetMember.frames = { w.frames with slots := w.resetMember.frames.slots, lostGrant := none } := by
  have units : (w.changeState .leaving).memberUnits.frames = { (w.changeState .leaving).frames with lostGrant := none } :=
    rfl
  refine (resetMember_units w).frames_eq.trans ?_
  rw [units, changeState_frames]

theorem resetMember_trunk (w : State) : w.resetMember.trunk = { w.trunk with vetoRun := 0 } := by
  have units : (w.changeState .leaving).memberUnits.trunk = { (w.changeState .leaving).trunk with vetoRun := 0 } := rfl
  rw [(resetMember_units w).trunk_same, units, changeState_trunk]

theorem resetMember_digest (w : State) : w.resetMember.window.digest = w.window.digest :=
  (resetMember_units w).area_eq.2.trans (changeState_only w .leaving).area_eq.2

end Sys2Proof.Machine

namespace Sys2Proof

open Machine

/-- Settles O5: what both kinds of station have in common is `State.UnitsReset`; a member keeps its tables. -/
theorem acquisitionReset : Obligations.AcquisitionReset := by
  intro t s idle
  refine ⟨fun unconfigured => ?_, fun configured => ⟨_, exec_resetAcquisition_of_configured idle configured t, ?_⟩⟩
  · rw [exec_resetAcquisition_of_idle idle, unconfigured]
  · have only := aboutToReset_only s t
    have onWire (k : NoteKind) : (s.aboutToReset t).onWire k = s.onWire k := onWire_of_trunk only.trunk_same k
    have mem := only.mem_same
    by_cases member : s.mem.state = .member
    · rw [if_pos member]
      have reset := resetMember_unitsReset (s.aboutToReset t)
      obtain ⟨area, faults, collision, pos, frame, link⟩ := unitsReset_values reset
      obtain ⟨-, -, -, -, taps, low, records, turn, lastTap, handled, outputs, run, lost, -, store⟩ := reset
      have after := resetMember_mem (s.aboutToReset t)
      rw [mem] at after
      have number : (s.aboutToReset t).resetMember.mem.number = s.mem.number := by rw [after]; rfl
      have state : (s.aboutToReset t).resetMember.mem.state = .leaving := by rw [after]
      have roster : (s.aboutToReset t).resetMember.mem.roster = s.mem.roster := by rw [after]; rfl
      have roll : (s.aboutToReset t).resetMember.mem.roll = .stopped := by rw [after]; rfl
      have silence (p : Station) : (s.aboutToReset t).resetMember.mem.silence[p] = .stopped := by
        rw [after]
        exact getElem_replicate_fin ..
      have frames := resetMember_frames (s.aboutToReset t)
      rw [only.frames_same] at frames
      have trunk := resetMember_trunk (s.aboutToReset t)
      have wire : (s.aboutToReset t).trunk.wire = s.trunk.wire := congrArg Trunk.wire only.trunk_same
      have queue : (s.aboutToReset t).resetMember.trunk.queue = s.trunk.queue := by
        rw [trunk, only.trunk_same]
      have digest := (resetMember_digest (s.aboutToReset t)).trans only.area_eq.2
      have pending (k : NoteKind) (other : k ≠ .roster ∨ s.mem.state ≠ .member) (free : s.onWire k = false) :=
        resetMember_pendingOf ((onWire k).trans free) (other.resolve_right (not_not_intro member))
      have parts (i : Fin 8) (j : Fin 2) (p : OwnPart) (part : s.partAt i j = some p) :
          (s.aboutToReset t).resetMember.partAt i j = some p.resetVoid := by
        have same : (s.aboutToReset t).partAt = s.partAt := only .parts (by decide)
        refine resetMember_partAt ?_
        rw [same]
        exact part
      have leave (free : s.trunk.wire = none) := resetMember_leave (wire.trans free)
      generalize (s.aboutToReset t).resetMember = x at *
      refine ⟨?_, area, fun _ => ⟨digest, number⟩, faults, collision, rfl, pos, frame, taps, low, records, turn, lastTap,
        handled, outputs, run, lost, link, rfl, rfl, store, pending, fun stranger => absurd member stranger,
        fun _ => ⟨frames, parts, queue, roster, roll, silence, leave⟩⟩
      rw [if_pos member]
      exact state
    · rw [if_neg member]
      have reset := enterConfigured_unitsReset (s.aboutToReset t)
      obtain ⟨area, faults, collision, pos, frame, link⟩ := unitsReset_values reset
      obtain ⟨-, -, -, -, taps, low, records, turn, lastTap, handled, outputs, run, lost, -, store⟩ := reset
      refine ⟨?_, area, fun known => ?_, faults, collision, rfl, pos, frame, taps, low, records, turn, lastTap, handled,
        outputs, run, lost, link, rfl, rfl, store, fun k _ free => ?_, fun _ => ?_, fun inside => absurd inside member⟩
      · rw [if_neg member]
        exact (enterConfigured_state _ _).trans (aboutToReset_home s t)
      · obtain ⟨digest, number⟩ := enterConfigured_kept (s.aboutToReset t) known
        exact ⟨digest.trans only.area_eq.2, number.trans (congrArg Membership.number mem)⟩
      · exact enterConfigured_pendingOf ((onWire k).trans free) true
      · exact State.emptied.enterConfigured (s.aboutToReset t) true

end Sys2Proof

/-! The camera taps: triggers that time out, sync words and packets (R19 to R26). -/

namespace Sys2Proof.Machine

-- One proof at a time: the proofs of many statements at once take more threads than the memory holds.
set_option Elab.async false

/-! ### What follows a change of a tap's queues -/

/-- The decisions and checks that follow leave a tap, but for its line queue, and its counters. -/
theorem afterTap_tap (s : State) (t : Tap) : s.afterTap.taps[t] = { s.taps[t] with lines := (s.afterTap.taps[t]).lines } :=
  (afterTap_only s).tap_eq t

theorem afterTap_tapsCtr (s : State) : s.afterTap.ctr.taps = s.ctr.taps := afterTap_only s .tapsCtr (by decide)

/-- A tap's state is replaced and its counters change. -/
theorem setTap_bump_same (s : State) (t : Tap) (x : TapState) (f : TapCounters → TapCounters) :
    ((s.setTap t x).bump (countTap t f)).taps[t] = x ∧ ((s.setTap t x).bump (countTap t f)).ctr.taps[t] = f s.ctr.taps[t] :=
  ⟨setTap_taps_same s t x, countTap_same t f s.ctr⟩

theorem setTap_bump_of_ne (s : State) {r t : Tap} (other : r ≠ t) (x : TapState) (f : TapCounters → TapCounters) :
    ((s.setTap t x).bump (countTap t f)).taps[r] = s.taps[r] := setTap_taps_of_ne s x other

/-! ### Triggers that time out (R19) -/

theorem takeWhile_timedOut {s : State} {old young : List Trigger}
    (passed : ∀ e ∈ old, e.issued + cfgTriggerTimeout s.area ≤ s.now)
    (first : ∀ e, young.head? = some e → s.now < e.issued + cfgTriggerTimeout s.area) :
    (old ++ young).takeWhile s.timedOut = old := by
  rw [List.takeWhile_append_of_pos (p := s.timedOut) fun e within => decide_eq_true (passed e within)]
  cases young with
  | nil => exact List.append_nil old
  | cons e rest =>
    have stays : ¬ s.timedOut e = true := by
      unfold State.timedOut
      rw [decide_eq_true_iff]
      exact (first e rfl).not_ge
    rw [List.takeWhile_cons_of_neg stays, List.append_nil]

/-- The `n` oldest triggers of a tap are missed (R19). -/
def State.triggersLost (s : State) (tap : Tap) (n : Nat) : State :=
  (s.setTap tap { s.taps[tap] with triggers := (s.taps[tap]).triggers.drop n
                                   expected := (s.taps[tap]).expected + BitVec.ofNat 8 n }).bump
    (countTap tap fun c => { c with timeout := c.timeout + BitVec.ofNat 32 n
                                    triggersMissed := c.triggersMissed + BitVec.ofNat 32 n })

theorem exec_triggerTimeout_of_live {s : State} {tap : Tap} (live : s.tapMode tap = .live) {t : Moment}
    (some_old : 0 < ((s.taps[tap]).triggers.takeWhile (s.tick t).timedOut).length) :
    exec (.triggerTimeout t tap) s = .next
      ((s.tick t).triggersLost tap ((s.taps[tap]).triggers.takeWhile (s.tick t).timedOut).length).afterTap :=
  congrArg Host.Outcome.next (if_pos ⟨live, some_old⟩)

/-! ### Packets that begin (R20, R21) -/

theorem slotGranted_iff (s : State) (t : Tap) : s.slotGranted t = true ↔ 0 < s.freeCount ∧ s.tapHolds t < 192 := by
  simp [State.slotGranted]

theorem beginPacket_granted {s : State} {t : Tap} (granted : s.slotGranted t = true) :
    s.beginPacket t = (s.setTap t { s.taps[t] with port := .filling s.choice }).slotTaken := if_pos granted

theorem beginPacket_refused {s : State} {t : Tap} (refused : s.slotGranted t = false) :
    s.beginPacket t = s.setTap t { s.taps[t] with port := .nowhere } := if_neg (by simp [refused])

/-- A receiver that begins a packet is no longer between packets; nothing else of the tap changes. -/
theorem beginPacket_tap (s : State) (t : Tap) :
    ∃ p, p ≠ .idle ∧ (s.beginPacket t).taps[t] = { s.taps[t] with port := p } := by
  cases granted : s.slotGranted t with
  | true =>
    rw [beginPacket_granted granted]
    exact ⟨.filling s.choice, nofun, setTap_taps_same ..⟩
  | false =>
    rw [beginPacket_refused granted]
    exact ⟨.nowhere, nofun, setTap_taps_same ..⟩

theorem exec_syncWord_of_live {s : State} {tap : Tap} (live : s.tapMode tap = .live) (t : Moment) (cut : List Byte) :
    exec (.syncWord t tap cut) s = .next (match (s.taps[tap]).port with
      | .idle => (s.tick t).beginPacket tap
      | .filling _ => ((s.tick t).badPacket tap cut).afterTap
      | .nowhere => (((((s.tick t).overrun tap).badPacket tap cut).setPort tap .idle).beginPacket tap).afterTap) :=
  congrArg Host.Outcome.next (if_pos (show (s.tick t).tapMode tap = .live from live))

/-- A bad packet at its tap (R25). -/
theorem badPacket_same (s : State) (t : Tap) (bytes : List Byte) :
    (s.badPacket t bytes).taps[t] = { s.taps[t] with
        triggers := (s.taps[t]).triggers.drop 1
        expected := (headerCounter bytes).getD (s.taps[t]).expected + 1 }
      ∧ (s.badPacket t bytes).ctr.taps[t] = { s.ctr.taps[t] with
        malformed := (s.ctr.taps[t]).malformed + 1
        triggersMissed := (s.ctr.taps[t]).triggersMissed + (if (s.taps[t]).triggers.isEmpty then 0 else 1) } :=
  setTap_bump_same s t _ _

/-- A packet received into nowhere has ended: counted and raised (R21; log 11). -/
theorem overrun_tap (s : State) (t : Tap) : (s.overrun t).taps = s.taps
    ∧ (s.overrun t).ctr.taps = s.ctr.taps.set t { s.ctr.taps[t] with poolOverrun := (s.ctr.taps[t]).poolOverrun + 1 }
    ∧ (s.overrun t).faultSet .poolOverrun = true :=
  ⟨raise_taps .., raise_only _ .poolOverrun .tapsCtr (by decide), raise_faultSet ..⟩

namespace State

/-- A packet that was received into nowhere has ended (R21, R25). -/
def nowhereEnded (s : State) (t : Tap) (bytes : List Byte) : State :=
  ((s.overrun t).badPacket t bytes).setPort t .idle

/-- The tap after a bad packet, between packets (R25). -/
def badEnd (x : TapState) (bytes : List Byte) : TapState :=
  { x with port := .idle, triggers := x.triggers.drop 1, expected := (headerCounter bytes).getD x.expected + 1 }

/-- The counters of a tap after a bad packet (R25). -/
def badCount (x : TapState) (c : TapCounters) : TapCounters :=
  { c with malformed := c.malformed + 1
           triggersMissed := c.triggersMissed + (if x.triggers.isEmpty then 0 else 1) }

theorem badPacket_taps (s : State) (t : Tap) (bytes : List Byte) :
    ((s.badPacket t bytes).setPort t .idle).taps = s.taps.set t (badEnd s.taps[t] bytes) := by
  have first := setTap_bump_same s t { s.taps[t] with
    triggers := (s.taps[t]).triggers.drop 1, expected := (headerCounter bytes).getD (s.taps[t]).expected + 1 }
  have tap := (badPacket_same s t bytes).1
  have stored : (s.badPacket t bytes).taps = s.taps.set t { s.taps[t] with
    triggers := (s.taps[t]).triggers.drop 1, expected := (headerCounter bytes).getD (s.taps[t]).expected + 1 } := rfl
  unfold State.setPort
  rw [setTap_taps, tap, stored, Vector.set_set]
  rfl

theorem badPacket_tapsCtr (s : State) (t : Tap) (bytes : List Byte) :
    ((s.badPacket t bytes).setPort t .idle).ctr = { s.ctr with
      taps := s.ctr.taps.set t (badCount s.taps[t] s.ctr.taps[t]) } := rfl

theorem nowhereEnded_taps (s : State) (t : Tap) (bytes : List Byte) :
    (s.nowhereEnded t bytes).taps = s.taps.set t (badEnd s.taps[t] bytes) := by
  have raised : (s.overrun t).taps = s.taps := (overrun_tap s t).1
  rw [State.nowhereEnded, badPacket_taps, raised]

theorem nowhereEnded_tapsCtr (s : State) (t : Tap) (bytes : List Byte) :
    (s.nowhereEnded t bytes).ctr.taps = s.ctr.taps.set t (badCount s.taps[t]
      { s.ctr.taps[t] with poolOverrun := (s.ctr.taps[t]).poolOverrun + 1 }) := by
  obtain ⟨taps, counters, -⟩ := overrun_tap s t
  rw [State.nowhereEnded, badPacket_tapsCtr]
  dsimp only
  rw [taps, counters, Vector.set_set]
  simp only [Fin.getElem_fin, Vector.getElem_set_self]

theorem nowhereEnded_faultSet (s : State) (t : Tap) (bytes : List Byte) :
    (s.nowhereEnded t bytes).faultSet .poolOverrun = true := (overrun_tap s t).2.2

theorem nowhereEnded_pos (s : State) (t : Tap) (bytes : List Byte) : (s.nowhereEnded t bytes).pos = s.pos :=
  raise_pos ..

end State

end Sys2Proof.Machine

namespace Sys2Proof

open Machine

/-- Settles O23: exactly the triggers past their timeout are taken from the queue's head. -/
theorem triggersTimeOut : Obligations.TriggersTimeOut := by
  intro t tap s old young live queue some_old passed first
  have taken : (s.taps[tap]).triggers.takeWhile (s.tick t).timedOut = old := by
    rw [queue]
    exact takeWhile_timedOut (s := s.tick t) passed first
  have some_taken : 0 < ((s.taps[tap]).triggers.takeWhile (s.tick t).timedOut).length := by
    rw [taken]
    exact List.length_pos_iff.mpr some_old
  refine ⟨_, exec_triggerTimeout_of_live live some_taken, ?_⟩
  rw [taken]
  obtain ⟨tap_after, counted⟩ := setTap_bump_same (s.tick t) tap
    { s.taps[tap] with triggers := (s.taps[tap]).triggers.drop old.length
                       expected := (s.taps[tap]).expected + BitVec.ofNat 8 old.length }
    fun c => { c with timeout := c.timeout + BitVec.ofNat 32 old.length
                      triggersMissed := c.triggersMissed + BitVec.ofNat 32 old.length }
  have tap_lost : ((s.tick t).triggersLost tap old.length).taps[tap] = _ := tap_after
  have counters : ((s.tick t).triggersLost tap old.length).ctr.taps[tap] = _ := counted
  rw [afterTap_tap, afterTap_tapsCtr, tap_lost, counters]
  refine ⟨?_, rfl, rfl, rfl, fun other away => ?_, ?_⟩
  · dsimp only
    rw [queue]
    exact List.drop_left
  · have untouched : ((s.tick t).triggersLost tap old.length).taps[other] = s.taps[other] :=
      setTap_taps_of_ne (s.tick t) _ away
    rw [afterTap_tap, untouched]
  · rw [(afterTap_only _).mem_same]
    rfl

/-- Settles O24: by what the receiver was doing when the sync word came. -/
theorem syncWordBeginsPacket : Obligations.SyncWordBeginsPacket := by
  intro t tap cut s live
  rw [exec_syncWord_of_live live]
  refine ⟨fun idle free room => ?_, fun idle refused => ?_, fun x filling => ?_, fun nowhere => ?_⟩
  · have granted : (s.tick t).slotGranted tap = true := (slotGranted_iff (s.tick t) tap).mpr ⟨free, room⟩
    rw [idle]
    refine ⟨_, s.choice, rfl, choice_mem_freeSlots free, ?_⟩
    rw [beginPacket_granted granted]
    exact ⟨rfl, rfl, rfl⟩
  · have not_granted : (s.tick t).slotGranted tap = false := by
      rw [← Bool.not_eq_true, slotGranted_iff]
      rintro ⟨free, room⟩
      exact refused.elim (fun none_free => absurd none_free (Nat.ne_of_gt free)) fun full => absurd room full.not_gt
    rw [idle]
    exact congrArg Host.Outcome.next (beginPacket_refused not_granted)
  · rw [filling]
    refine ⟨_, rfl, ?_⟩
    rw [afterTap_tap, afterTap_tapsCtr]
    obtain ⟨tap_after, counted⟩ := badPacket_same (s.tick t) tap cut
    rw [tap_after, counted]
    exact ⟨filling, rfl, rfl⟩
  · rw [nowhere]
    refine ⟨_, rfl, ?_⟩
    have ended := (s.tick t).nowhereEnded_taps tap cut
    have counters := (s.tick t).nowhereEnded_tapsCtr tap cut
    have flag := (s.tick t).nowhereEnded_faultSet tap cut
    change _ ∧ _
    rw [← State.nowhereEnded]
    generalize (s.tick t).nowhereEnded tap cut = v at *
    obtain ⟨p, not_idle, begun⟩ := beginPacket_tap v tap
    have only := beginPacket_only v tap
    have same : (v.beginPacket tap).ctr.taps = v.ctr.taps := only .tapsCtr (by decide)
    rw [afterTap_tap, afterTap_tapsCtr, begun, same, ended, counters, faultSet_of_only (afterTap_only _),
      faultSet_of_only only, flag]
    simp only [Fin.getElem_fin, Vector.getElem_set_self]
    exact ⟨not_idle, rfl, rfl, rfl, trivial⟩

end Sys2Proof

/-! Packets that arrive (R22 to R26): the reconciliation of a good one, and what a bad one does. -/

namespace Sys2Proof.Machine

-- One proof at a time: the proofs of many statements at once take more threads than the memory holds.
set_option Elab.async false

/-! ### A readable packet (R20, R22) -/

theorem headerCounter_of_long {bytes : List Byte} (long : 4 ≤ bytes.length) : headerCounter bytes = some (bytes.headD 0) := by
  match bytes, long with
  | _ :: _ :: _ :: _ :: _, _ => rfl

theorem headerCounter_of_short {bytes : List Byte} (short : ¬ 4 ≤ bytes.length) : headerCounter bytes = none := by
  match bytes, short with
  | [], _ | [_], _ | [_, _], _ | [_, _, _], _ => rfl
  | _ :: _ :: _ :: _ :: _, short => exact absurd (by simp) short

/-- The expected counter's base after a bad packet (R25). -/
theorem headerCounter_getD (bytes : List Byte) (c : Byte) :
    (headerCounter bytes).getD c = if 4 ≤ bytes.length then bytes.headD 0 else c := by
  split
  · next long => rw [headerCounter_of_long long, Option.getD_some]
  · next short => rw [headerCounter_of_short short, Option.getD_none]

theorem headerCounter_of_good {width : Nat} {bytes : List Byte} (good : packetGood width bytes = true) {c : Byte}
    (first : bytes[0]? = some c) : headerCounter bytes = some c := by
  match bytes, good, first with
  | _ :: _ :: _ :: _ :: _, _, first => exact first

theorem packetStatus_of_some {bytes : List Byte} {status : Byte} (fourth : bytes[3]? = some status) :
    packetStatus bytes = status := by
  rw [packetStatus, fourth, Option.getD_some]

/-! ### The reconciliation of a good packet (R23, R24, R26) -/

/-- The distance of a packet's counter from the expected one. -/
def TapState.distance (x : TapState) (c : Byte) : Nat := if x.primed then (c - x.expected).toNat else 0

theorem reconcile_stale {s : State} {t : Tap} {c : Byte} (stale : (s.taps[t]).distance c = 255) (slot : Fin 256)
    (pixels : List Byte) : s.reconcile t slot c pixels
      = (s.setTap t { s.taps[t] with port := .idle }).bump (countTap t fun k => { k with stale := k.stale + 1 }) :=
  if_pos stale

theorem reconcile_break {s : State} {t : Tap} {c : Byte} (far : 4 ≤ (s.taps[t]).distance c)
    (not_stale : (s.taps[t]).distance c ≠ 255) (slot : Fin 256) (pixels : List Byte) :
    s.reconcile t slot c pixels
      = (s.setTap t { s.taps[t] with triggers := [], expected := c + 1, port := .idle }).bump (countTap t fun k =>
          { k with breaks := k.breaks + 1
                   triggersMissed := k.triggersMissed + BitVec.ofNat 32 (s.taps[t]).triggers.length }) :=
  (if_neg not_stale).trans (if_pos far)

theorem reconcile_taken {s : State} {t : Tap} {c : Byte} (near : (s.taps[t]).distance c ≤ 3) {e : Trigger}
    {rest : List Trigger} (queue : (s.taps[t]).triggers.drop ((s.taps[t]).distance c) = e :: rest) (slot : Fin 256)
    (pixels : List Byte) : s.reconcile t slot c pixels
      = (s.setTap t { s.taps[t] with
          triggers := rest, expected := c + 1, primed := true, port := .idle
          lines := (s.taps[t]).lines ++ [{ index := e.index, phase := e.phase, slot := slot, pixels := pixels }] }).bump
        (countTap t fun k => { k with
          linesGood := k.linesGood + 1, skipped := k.skipped + BitVec.ofNat 32 ((s.taps[t]).distance c)
          triggersMissed := k.triggersMissed + BitVec.ofNat 32 ((s.taps[t]).distance c) }) := by
  have within : (s.taps[t]).distance c < (s.taps[t]).triggers.length := by
    rw [← List.drop_eq_nil_iff.not.trans Nat.not_le, queue]
    exact List.cons_ne_nil _ _
  refine (if_neg (by unfold TapState.distance at near; omega)).trans ((if_neg (by
    unfold TapState.distance at near; omega)).trans ?_)
  unfold TapState.distance at queue within ⊢
  dsimp only
  rw [queue, Nat.min_eq_left within.le]

theorem reconcile_unsolicited {s : State} {t : Tap} {c : Byte} (near : (s.taps[t]).distance c ≤ 3)
    (few : (s.taps[t]).triggers.length ≤ (s.taps[t]).distance c) (slot : Fin 256) (pixels : List Byte) :
    s.reconcile t slot c pixels
      = (s.setTap t { s.taps[t] with triggers := [], expected := c + 1, primed := true, port := .idle }).bump
        (countTap t fun k => { k with
          unsolicited := k.unsolicited + 1, skipped := k.skipped + BitVec.ofNat 32 (s.taps[t]).triggers.length
          triggersMissed := k.triggersMissed + BitVec.ofNat 32 (s.taps[t]).triggers.length }) := by
  refine (if_neg (by unfold TapState.distance at near; omega)).trans ((if_neg (by
    unfold TapState.distance at near; omega)).trans ?_)
  have queue := List.drop_eq_nil_of_le few
  unfold TapState.distance at queue few
  dsimp only
  rw [queue, Nat.min_eq_right few]

/-- A reconciliation replaces the tap and its counters, and leaves the port between packets. -/
theorem reconcile_shape (s : State) (t : Tap) (slot : Fin 256) (c : Byte) (pixels : List Byte) :
    ∃ x f, x.port = .idle ∧ s.reconcile t slot c pixels = (s.setTap t x).bump (countTap t f) := by
  by_cases stale : (s.taps[t]).distance c = 255
  · exact ⟨_, _, rfl, reconcile_stale stale slot pixels⟩
  by_cases far : 4 ≤ (s.taps[t]).distance c
  · exact ⟨_, _, rfl, reconcile_break far stale slot pixels⟩
  have near : (s.taps[t]).distance c ≤ 3 := by omega
  cases queue : (s.taps[t]).triggers.drop ((s.taps[t]).distance c) with
  | nil => exact ⟨_, _, rfl, reconcile_unsolicited near (List.drop_eq_nil_iff.mp queue) slot pixels⟩
  | cons e rest => exact ⟨_, _, rfl, reconcile_taken near queue slot pixels⟩

/-- The status byte is counted (R22). -/
def State.statusCounted (s : State) (t : Tap) (status : Byte) : State :=
  if status = 0 then s else s.bump (countTap t fun c => { c with statusNonzero := c.statusNonzero + 1 })

theorem statusCounted_taps (s : State) (t : Tap) (status : Byte) : (s.statusCounted t status).taps = s.taps := by
  unfold State.statusCounted
  split <;> rfl

theorem statusCounted_ctr (s : State) (t : Tap) (status : Byte) : (s.statusCounted t status).ctr.taps[t]
    = if status = 0 then s.ctr.taps[t]
      else { s.ctr.taps[t] with statusNonzero := (s.ctr.taps[t]).statusNonzero + 1 } := by
  unfold State.statusCounted
  split
  · rfl
  · exact countTap_same t _ s.ctr

theorem arrive_good {s : State} {t : Tap} {bytes : List Byte} {c status : Byte}
    (good : packetGood (s.tapWidth t) bytes = true) (first : bytes[0]? = some c) (fourth : bytes[3]? = some status)
    (slot : Fin 256) : s.arrive t slot bytes = (s.statusCounted t status).reconcile t slot c (packetPixels bytes) := by
  unfold State.arrive
  rw [if_pos good, headerCounter_of_good good first, packetStatus_of_some fourth]
  rfl

theorem arrive_bad {s : State} {t : Tap} {bytes : List Byte} (bad : packetGood (s.tapWidth t) bytes = false)
    (slot : Fin 256) : s.arrive t slot bytes = (s.badPacket t bytes).setPort t .idle :=
  if_neg (by simp [bad])

theorem exec_packetArrival_of_live {s : State} {tap : Tap} (live : s.tapMode tap = .live) (t : Moment)
    (bytes : List Byte) : exec (.packetArrival t tap bytes) s = .next (match (s.taps[tap]).port with
      | .idle => s.tick t
      | .filling slot => ((s.tick t).arrive tap slot bytes).afterTap
      | .nowhere => ((s.tick t).nowhereEnded tap bytes).afterTap) :=
  congrArg Host.Outcome.next (if_pos (show (s.tick t).tapMode tap = .live from live))

end Sys2Proof.Machine

namespace Sys2Proof

open Machine

/-- Settles O26: the packet into a slot, and the one received into nowhere. -/
theorem badPacketMissesHead : Obligations.BadPacketMissesHead := by
  intro t tap bytes s live x after k
  have ended : State.badEnd x bytes = after := by
    unfold State.badEnd
    rw [headerCounter_getD]
  have isEmpty : (if x.triggers.isEmpty = true then (0 : Counter) else 1) = if x.triggers = [] then 0 else 1 := by
    simp only [List.isEmpty_iff]
  refine ⟨fun slot filling bad => ⟨((s.tick t).badPacket tap bytes).setPort tap .idle, ?_, rfl, rfl, ?_, ?_⟩,
    fun nowhere => ⟨(s.tick t).nowhereEnded tap bytes, ?_, State.nowhereEnded_pos _ _ _, ?_,
      State.nowhereEnded_faultSet _ _ _, ?_⟩⟩
  · rw [exec_packetArrival_of_live live, filling]
    exact congrArg (fun v : State => Host.Outcome.next v.afterTap) (arrive_bad (s := s.tick t) bad slot)
  · rw [State.badPacket_taps, tick_taps, ended]
  · rw [State.badPacket_tapsCtr, tick_taps, tick_ctr]
    unfold State.badCount
    rw [isEmpty]
  · rw [exec_packetArrival_of_live live, nowhere]
  · rw [State.nowhereEnded_taps, tick_taps, ended]
  · rw [State.nowhereEnded_tapsCtr, tick_taps, tick_ctr]
    unfold State.badCount
    rw [isEmpty]

/-- Settles O25: the cases of the distance between the packet's counter and the expected one. -/
theorem goodPacketReconciled : Obligations.GoodPacketReconciled := by
  intro t tap bytes slot c status s live filling good first fourth x d k
  have arrives := arrive_good (s := s.tick t) good first fourth slot
  obtain ⟨x', f, idle, shape⟩ := reconcile_shape ((s.tick t).statusCounted tap status) tap slot c (packetPixels bytes)
  have taps : ((s.tick t).statusCounted tap status).taps = s.taps := statusCounted_taps ..
  have counters : ((s.tick t).statusCounted tap status).ctr.taps[tap] = k := statusCounted_ctr ..
  have rest_same : ((s.tick t).statusCounted tap status).delivery = s.delivery
      ∧ ((s.tick t).statusCounted tap status).pos = s.pos := by
    unfold State.statusCounted
    split <;> exact ⟨rfl, rfl⟩
  have at_tap : ((s.tick t).statusCounted tap status).taps[tap] = x := congrArg (·[tap]) taps
  generalize (s.tick t).statusCounted tap status = v at *
  have distance : (v.taps[tap]).distance c = d := congrArg (TapState.distance · c) at_tap
  refine ⟨v.reconcile tap slot c (packetPixels bytes), ?_, ?_⟩
  · rw [exec_packetArrival_of_live live, filling]
    exact congrArg (fun v : State => Host.Outcome.next v.afterTap) arrives
  · obtain ⟨delivery, pos⟩ := rest_same
    refine ⟨?_, ?_, ?_, fun other away => ?_, fun e rest near queue => ?_, fun near few => ?_, fun stale => ?_,
      fun far below => ?_⟩
    · rw [shape]
      exact delivery
    · rw [shape]
      exact pos
    · rw [shape, (setTap_bump_same v tap x' f).1, idle]
    · rw [shape, setTap_bump_of_ne v away x' f, taps]
    · rw [← at_tap, ← distance] at queue
      rw [← distance] at near
      have taken := reconcile_taken near queue slot (packetPixels bytes)
      rw [taken, (setTap_bump_same v tap _ _).1, (setTap_bump_same v tap _ _).2, distance, at_tap, counters]
      exact ⟨rfl, rfl, rfl, rfl, rfl⟩
    · rw [← distance, ← at_tap] at few
      rw [← distance] at near
      rw [reconcile_unsolicited near few, (setTap_bump_same v tap _ _).1, (setTap_bump_same v tap _ _).2, at_tap, counters]
      exact ⟨rfl, rfl, rfl, rfl, rfl⟩
    · rw [← distance] at stale
      rw [reconcile_stale stale, (setTap_bump_same v tap _ _).1, (setTap_bump_same v tap _ _).2, at_tap, counters]
      exact ⟨rfl, rfl, rfl, rfl⟩
    · rw [← distance] at far below
      rw [reconcile_break far (by omega), (setTap_bump_same v tap _ _).1, (setTap_bump_same v tap _ _).2, at_tap, counters]
      exact ⟨rfl, rfl, rfl, rfl⟩

end Sys2Proof

/-! Lead marks, stretches and the idle trunk (R3, R42, R51, R52). -/

namespace Sys2Proof.Machine

-- One proof at a time: the proofs of many statements at once take more threads than the memory holds.
set_option Elab.async false

/-! ### The entry into LAPSED from some states (R91) -/

theorem lapseFrom_inside {s : State} {l : List StationState} (inside : s.mem.state ∈ l) : s.lapseFrom l = s.lapse :=
  if_pos (List.contains_iff_mem.mpr inside)

theorem lapseFrom_outside {s : State} {l : List StationState} (outside : s.mem.state ∉ l) : s.lapseFrom l = s :=
  if_neg fun inside => outside (List.contains_iff_mem.mp inside)

theorem lapseFrom_state (s : State) (l : List StationState) :
    (s.lapseFrom l).mem.state = if s.mem.state ∈ l then .lapsed else s.mem.state := by
  split
  · next inside => rw [lapseFrom_inside inside, lapse_mem_state]
  · next outside => rw [lapseFrom_outside outside]

/-- The trunk port after a fault that may lapse the station: the veto run alone may have ended. -/
theorem lapseFrom_trunk (s : State) (l : List StationState) :
    (s.lapseFrom l).trunk = { s.trunk with vetoRun := (s.lapseFrom l).trunk.vetoRun } := (lapseFrom_only s l).trunk_eq

theorem lapseFrom_vetoRun {s : State} (ended : s.trunk.vetoRun = 0) (l : List StationState) :
    (s.lapseFrom l).trunk = s.trunk := by
  by_cases inside : s.mem.state ∈ l
  · rw [lapseFrom_inside inside, lapse_trunk, ← ended]
  · rw [lapseFrom_outside inside]

theorem mem_lapsable (st : StationState) : st ∈ lapsable ↔ mayVeto st = true := by
  cases st <;> decide

/-! ### Lead marks (R3, R42, R51) -/

theorem exec_leadMark_of_idle {s : State} (idle : s.trunk.view = .idle) (free : s.trunk.wire = none)
    (running : s.trunk.stalled = false) (t : Moment) : exec (.leadMark t) s = .next
      (if s.trunk.queue.length < 8 then (s.tick t).beginNote .receiver true none
       else ((s.tick t).beginNote .receiver false (some (max s.now t + cfgBitTime s.area / 2))).bump
         (countTrunk fun c => { c with stretches := c.stretches + 1 })) :=
  congrArg Host.Outcome.next (if_pos ⟨idle, free, running⟩)

/-! ### The stretch limit (R52) -/

/-- The station stands aside from the note on the wire and raises STRETCH. -/
def State.stoodAside (s : State) (w : Wire) : State :=
  (s.setWire (some { w with role := .aside, reserved := false, stretch := none })).raise .stretch

theorem exec_stretchLimit_of_due {s : State} {w : Wire} {start : Moment} (wire : s.trunk.wire = some w)
    (stretching : w.stretch = some start) {t : Moment} (due : start + 2000000 ≤ max s.now t) :
    exec (.stretchLimit t) s = .next (((s.tick t).stoodAside w).lapseFrom lapsable) := by
  show execStretchLimit t s = _
  unfold execStretchLimit
  dsimp only
  rw [show (s.tick t).trunk.wire = some w from wire]
  dsimp only
  rw [stretching]
  exact congrArg Host.Outcome.next (if_pos due)

end Sys2Proof.Machine

namespace Sys2Proof

open Machine

/-- Settles O28: the mark taken with and without a place, and the stretch that lasts too long. -/
theorem leadMarkReservesOrStretches : Obligations.LeadMarkReservesOrStretches := by
  intro t s latch
  refine ⟨fun idle free running room => ?_, fun idle free running full => ?_, fun w start wire stretching due => ?_⟩
  · rw [exec_leadMark_of_idle idle free running, if_pos room]
    rfl
  · rw [exec_leadMark_of_idle idle free running, if_neg full.not_gt]
    rfl
  · refine ⟨_, exec_stretchLimit_of_due wire stretching due, ?_⟩
    have aside : ((s.tick t).stoodAside w).trunk
        = { s.trunk with wire := some { w with role := .aside, reserved := false, stretch := none } } := raise_trunk ..
    have mem : ((s.tick t).stoodAside w).mem = s.mem := raise_mem ..
    have flag : ((s.tick t).stoodAside w).faultSet .stretch = true := raise_faultSet ..
    generalize (s.tick t).stoodAside w = v at *
    rw [lapseFrom_trunk, aside, faultSet_of_only (lapseFrom_only v _), lapseFrom_state, mem]
    refine ⟨rfl, rfl, flag, ?_⟩
    simp only [mem_lapsable]

end Sys2Proof

/-! The confirm slot (R40, R44 to R51): the ends of attempts, and the sample of a note. -/

namespace Sys2Proof.Machine

-- One proof at a time: the proofs of many statements at once take more threads than the memory holds.
set_option Elab.async false

/-! ### What follows an ended note: ROSTER-LEAVE kept claimed, the head decisions -/

theorem keepLeaveClaimed_of_away {s : State} (away : ¬ (s.mem.state = .leaving ∨ s.mem.state = .lapsed)) :
    s.keepLeaveClaimed = s := by
  refine if_neg fun claims => away ?_
  simp only [Bool.and_eq_true, Bool.or_eq_true, beq_iff_eq] at claims
  exact claims.1.1

/-- The claim of ROSTER-LEAVE that is kept changes no other list. -/
theorem keepLeaveClaimed_pendingOf {s : State} {k : NoteKind}
    (away : s.mem.state = .leaving ∨ s.mem.state = .lapsed → k ≠ .roster) :
    s.keepLeaveClaimed.pendingOf k = s.pendingOf k := by
  by_cases claims : s.mem.state = .leaving ∨ s.mem.state = .lapsed
  · unfold State.keepLeaveClaimed
    split
    · exact claimRoster_pendingOf_of_ne s rfl (away claims)
    · rfl
  · rw [keepLeaveClaimed_of_away claims]

/-- What follows every ended note (R89, R127). -/
def State.tidied (s : State) : State := s.keepLeaveClaimed.settle

theorem tidied_only (s : State) : Only (claimPieces ++ settlePieces) s s.tidied :=
  ((keepLeaveClaimed_only s).mono (by decide)).next (settle_only _)

theorem tidied_trunk (s : State) : s.tidied.trunk = s.trunk := (tidied_only s).trunk_same

theorem tidied_mem (s : State) : s.tidied.mem = s.mem := (tidied_only s).mem_same

theorem tidied_trunkCtr (s : State) : s.tidied.ctr.trunk = s.ctr.trunk := tidied_only s .trunkCtr (by decide)

theorem tidied_faultSet (s : State) (k : FaultKind) : s.tidied.faultSet k = s.faultSet k :=
  faultSet_of_only (tidied_only s) k

theorem tidied_pendingOf {s : State} {k : NoteKind}
    (away : s.mem.state = .leaving ∨ s.mem.state = .lapsed → k ≠ .roster) : s.tidied.pendingOf k = s.pendingOf k :=
  (pendingOf_congr (settle_tx _) k).trans (keepLeaveClaimed_pendingOf away)

/-! ### The end of an attempt (R45, R47) -/

section Attempts

variable {s : State} {k : NoteKind} {n : Pending} {rest : List Pending} (waiting : s.pendingOf k = n :: rest)
include waiting

theorem endAttempt_accepted (free : s.tx.held = none) : s.endAttempt k .accepted
    = (s.setPending k rest).bump (countTrunk fun c => { c with notesSent := c.notesSent + 1 }) := by
  unfold State.endAttempt
  rw [waiting]
  dsimp only
  rw [free, if_neg (by simp)]

theorem endAttempt_lost (tried : n.doom = .none) (free : s.tx.held = none) : s.endAttempt k .lost = s := by
  unfold State.endAttempt
  rw [waiting]
  dsimp only
  rw [free, if_neg (by simp [tried])]

theorem endAttempt_retried (tried : n.doom = .none) (free : s.tx.held = none) (few : n.attempts < 3) :
    s.endAttempt k .failed = (s.bump (countTrunk fun c => { c with attemptsFailed := c.attemptsFailed + 1 })).setPending k
      ({ n with attempts := n.attempts + 1 } :: rest) := by
  unfold State.endAttempt
  rw [waiting]
  dsimp only
  rw [free, if_neg (by simp [tried]), if_neg (by omega)]

theorem endAttempt_exhausted (tried : n.doom = .none) (free : s.tx.held = none) (last : n.attempts = 3) :
    s.endAttempt k .failed = ((s.bump (countTrunk fun c => { c with attemptsFailed := c.attemptsFailed + 1 })).setPending k
      rest).exhaust n.claim := by
  unfold State.endAttempt
  rw [waiting]
  dsimp only
  rw [free, if_neg (by simp [tried]), if_pos (by omega)]

end Attempts

/-! ### How a station stands in a note (R44, R45) -/

theorem standing_carried {cells driven : List Bool} (whole : lossAt driven cells = none) (k : NoteKind) (note : Note) :
    (WireRole.sender k note driven).standing cells = .carried k note := by
  simp [WireRole.standing, whole]

theorem standing_lostHeader {cells driven : List Bool} {i : Nat} (lost : lossAt driven cells = some i) (header : i < 6)
    (k : NoteKind) (note : Note) : (WireRole.sender k note driven).standing cells = .lostHeader k := by
  simp [WireRole.standing, lost, header]

theorem standing_lostLate {cells driven : List Bool} {i : Nat} (lost : lossAt driven cells = some i) (late : 6 ≤ i)
    (k : NoteKind) (note : Note) : (WireRole.sender k note driven).standing cells = .lostLate k := by
  simp [WireRole.standing, lost, late.not_gt]

/-! ### The sample of a note (R40, R46, R51) -/

/-- The wire is free; an accepted note has ended the veto run and taken its place. -/
def State.sampled (s : State) (w : Wire) (accepted : Bool) (got : Option (Station × Note)) : State :=
  match got with
  | some (p, n) => (if accepted then { s.setWire none with trunk := { (s.setWire none).trunk with vetoRun := 0 } }
      else s.setWire none).enterQueue { sender := p, note := n, latch := w.latch }
  | none => if accepted then { s.setWire none with trunk := { (s.setWire none).trunk with vetoRun := 0 } }
      else s.setWire none

theorem sampled_taken (s : State) (w : Wire) (p : Station) (n : Note) : s.sampled w true (some (p, n)) = { s with
    trunk := { s.trunk with wire := none, vetoRun := 0
                            queue := s.trunk.queue ++ [{ sender := p, note := n, latch := w.latch }] }
    ctr := { s.ctr with trunk := { s.ctr.trunk with notesAccepted := s.ctr.trunk.notesAccepted + 1 } } } := rfl

theorem sampled_vetoed (s : State) (w : Wire) : s.sampled w false none = s.setWire none := rfl

/-- The place that the note takes. -/
def State.gotNote (s : State) (w : Wire) (cells : List Bool) (accepted : Bool) : Option (Station × Note) :=
  if accepted && w.reserved && !w.released then s.received (w.role.standing cells) (readNote cells) else none

theorem sampleNote_eq (s : State) {w : Wire} (taking : w.released = false) (cells : List Bool) (accepted : Bool) :
    s.sampleNote w cells accepted = (if (w.role.standing cells).isLate || (!(w.role.standing cells).isCarried
        && (s.gotNote w cells accepted).any fun r => r.1 == s.self) then
      ((s.sampled w accepted (s.gotNote w cells accepted)).endStanding (w.role.standing cells)
        (if accepted then .accepted else .failed) .lost).duplicate
    else (s.sampled w accepted (s.gotNote w cells accepted)).endStanding (w.role.standing cells)
        (if accepted then .accepted else .failed) .lost) := by
  unfold State.sampleNote State.sampled State.gotNote
  dsimp only
  rw [taking]
  simp only [Bool.not_false, Bool.and_true] <;> rfl

theorem exec_confirmSlot_of {s : State} {w : Wire} (wire : s.trunk.wire = some w) (clear : w.stretch = none)
    (running : s.trunk.stalled = false) (t : Moment) (cells : List Bool) (others : Bool) :
    exec (.confirmSlot t cells others) s = .next ((if s.vetoes w cells then (s.tick t).giveVeto else s.tick t).sampleNote w
      cells (!others && !s.vetoes w cells)).tidied := by
  show execConfirmSlot t cells others s = _
  unfold execConfirmSlot
  dsimp only
  rw [show (s.tick t).trunk.wire = some w from wire]
  dsimp only
  rw [clear, show (s.tick t).trunk.stalled = false from running]
  rfl

theorem vetoes_of_sound {s : State} {cells : List Bool} (sound : readNote cells ≠ none) (w : Wire) :
    s.vetoes w cells = false := by
  obtain ⟨r, read⟩ := Option.ne_none_iff_exists'.mp sound
  simp [State.vetoes, read]

/-- The confirm slot of a sound note. -/
theorem exec_confirmSlot_of_sound {s : State} {w : Wire} (wire : s.trunk.wire = some w) (clear : w.stretch = none)
    (running : s.trunk.stalled = false) {cells : List Bool} (sound : readNote cells ≠ none) (t : Moment) (others : Bool) :
    exec (.confirmSlot t cells others) s = .next ((s.tick t).sampleNote w cells (!others)).tidied := by
  rw [exec_confirmSlot_of wire clear running, vetoes_of_sound sound]
  simp

/-! ### A duplicate (R50) -/

theorem duplicate_faultSet (s : State) : s.duplicate.faultSet .duplicate = true := by
  unfold State.duplicate
  rw [faultSet_of_only (lapseFrom_only _ _), raise_faultSet]

theorem duplicate_state (s : State) :
    s.duplicate.mem.state = if s.mem.state = .member then .lapsed else s.mem.state := by
  unfold State.duplicate
  rw [lapseFrom_state, raise_mem]
  simp only [List.mem_singleton]
  rfl

theorem duplicate_trunkCtr (s : State) :
    s.duplicate.ctr.trunk = { s.ctr.trunk with duplicateSeen := s.ctr.trunk.duplicateSeen + 1 } := by
  unfold State.duplicate
  exact ((lapseFrom_only _ _) .trunkCtr (by decide)).trans ((raise_only _ _) .trunkCtr (by decide))

theorem duplicate_trunk {s : State} (ended : s.trunk.vetoRun = 0) : s.duplicate.trunk = s.trunk := by
  unfold State.duplicate
  rw [lapseFrom_vetoRun (by rw [raise_trunk]; exact ended), raise_trunk]
  rfl

theorem duplicate_pendingOf {s : State} (stranger : s.mem.state ≠ .member) (k : NoteKind) :
    s.duplicate.pendingOf k = s.pendingOf k := by
  unfold State.duplicate
  rw [lapseFrom_outside (by rw [raise_mem, List.mem_singleton]; exact stranger)]
  exact pendingOf_congr ((raise_only _ _) .tx (by decide)) k

end Sys2Proof.Machine

/-! The confirm slot at a receiver and at a sender (R44 to R51). -/

namespace Sys2Proof.Machine

-- One proof at a time: the proofs of many statements at once take more threads than the memory holds.
set_option Elab.async false

/-! ### At a receiver (R46, R49, R50, R51) -/

/-- The sample at a receiver: the note as read takes the reserved place; a duplicate shows by its sender. -/
theorem sampleNote_receiver (s : State) {w : Wire} (receives : w.role = .receiver) (taking : w.released = false)
    (cells : List Bool) (accepted : Bool) : s.sampleNote w cells accepted
      = (if (if accepted && w.reserved then readNote cells else none).any (fun r => r.1 == s.self) then
          (s.sampled w accepted (if accepted && w.reserved then readNote cells else none)).duplicate
        else s.sampled w accepted (if accepted && w.reserved then readNote cells else none)) := by
  have got : s.gotNote w cells accepted = if accepted && w.reserved then readNote cells else none := by
    unfold State.gotNote
    rw [taking, receives]
    simp only [Bool.not_false, Bool.and_true]
    rfl
  rw [sampleNote_eq s taking, got, receives]
  rfl

theorem sampleNote_receiver_vetoed (s : State) {w : Wire} (receives : w.role = .receiver) (taking : w.released = false)
    (cells : List Bool) : s.sampleNote w cells false = s.setWire none := sampleNote_receiver s receives taking cells false

theorem vetoes_receiver {s : State} {w : Wire} (receives : w.role = .receiver) (taking : w.released = false)
    {cells : List Bool} (faulty : readNote cells = none) : s.vetoes w cells = mayVeto s.mem.state := by
  unfold State.vetoes
  rw [faulty, receives, taking]
  simp

/-- A veto that this station gives, by its place in the run (R46, R49). -/
theorem giveVeto_values {s : State} (may : mayVeto s.mem.state = true) :
    s.giveVeto.ctr.trunk = { s.ctr.trunk with vetoesGiven := s.ctr.trunk.vetoesGiven + 1 }
      ∧ s.giveVeto.trunk = { s.trunk with vetoRun := s.giveVeto.trunk.vetoRun }
      ∧ (if s.trunk.vetoRun < 7 then s.giveVeto.trunk.vetoRun = s.trunk.vetoRun + 1 ∧ s.giveVeto.mem = s.mem
         else s.giveVeto.trunk.vetoRun = 0 ∧ s.giveVeto.mem.state = .lapsed ∧ s.giveVeto.faultSet .vetoRun = true) := by
  unfold State.giveVeto
  dsimp only
  generalize given : State.bump _ _ = v
  have run : v.trunk.vetoRun = s.trunk.vetoRun + 1 := by rw [← given]; rfl
  have trunk : v.trunk = { s.trunk with vetoRun := v.trunk.vetoRun } := by rw [← given]; rfl
  have counters : v.ctr.trunk = { s.ctr.trunk with vetoesGiven := s.ctr.trunk.vetoesGiven + 1 } := by rw [← given]; rfl
  have mem : v.mem = s.mem := by rw [← given]; rfl
  split
  · next eighth =>
    have inside : (v.raise .vetoRun).mem.state ∈ lapsable := by
      rw [mem_lapsable, raise_mem, mem]
      exact may
    have only := lapse_only (v.raise .vetoRun)
    have counters' : (v.raise .vetoRun).lapse.ctr.trunk = v.ctr.trunk :=
      (only .trunkCtr (by decide)).trans (raise_only v _ .trunkCtr (by decide))
    rw [lapseFrom_inside inside, lapse_trunk, raise_trunk, if_neg (by omega), lapse_mem_state, faultSet_of_only only,
      raise_faultSet, counters', counters, trunk]
    exact ⟨rfl, rfl, rfl, rfl, rfl⟩
  · next early =>
    rw [if_pos (by omega)]
    exact ⟨counters, trunk, run, mem⟩

/-! ### At a sender (R44, R45, R47) -/

/-- The sample at a station that carried its note to the end: the place takes the note as composed. -/
theorem sampleNote_carried (s : State) {w : Wire} {k : NoteKind} {note : Note} {driven cells : List Bool}
    (sends : w.role = .sender k note driven) (taking : w.released = false) (whole : lossAt driven cells = none)
    (accepted : Bool) : s.sampleNote w cells accepted
      = (s.sampled w accepted (if accepted && w.reserved then (readNote cells).map fun _ => (s.self, note) else none)).endAttempt
        k (if accepted then .accepted else .failed) := by
  have got : s.gotNote w cells accepted
      = if accepted && w.reserved then (readNote cells).map fun _ => (s.self, note) else none := by
    unfold State.gotNote
    rw [taking, sends, standing_carried whole]
    simp only [Bool.not_false, Bool.and_true]
    rfl
  rw [sampleNote_eq s taking, got, sends, standing_carried whole]
  rfl

theorem sampleNote_lostHeader (s : State) {w : Wire} {k : NoteKind} {note : Note} {driven cells : List Bool} {i : Nat}
    (sends : w.role = .sender k note driven) (taking : w.released = false) (lost : lossAt driven cells = some i)
    (header : i < 6) (reserved : w.reserved = true) {p : Station} {m : Note} (read : readNote cells = some (p, m))
    (other : p ≠ s.self) : s.sampleNote w cells true
      = ((s.sampled w true (some (p, m))).bump
          (countTrunk fun c => { c with arbitrationLost := c.arbitrationLost + 1 })).endAttempt k .lost := by
  have got : s.gotNote w cells true = some (p, m) := by
    unfold State.gotNote
    rw [taking, sends, standing_lostHeader lost header, reserved]
    exact read
  rw [sampleNote_eq s taking, got, sends, standing_lostHeader lost header]
  simp only [Standing.isLate, Standing.isCarried, Option.any_some, beq_iff_eq, other, Bool.false_or, Bool.not_false,
    Bool.true_and, if_false]
  rfl

theorem sampleNote_lostLate (s : State) {w : Wire} {k : NoteKind} {note : Note} {driven cells : List Bool} {i : Nat}
    (sends : w.role = .sender k note driven) (taking : w.released = false) (lost : lossAt driven cells = some i)
    (late : 6 ≤ i) (accepted : Bool) : s.sampleNote w cells accepted
      = ((s.sampled w accepted (s.gotNote w cells accepted)).endAttempt k .lost).duplicate := by
  rw [sampleNote_eq s taking, sends, standing_lostLate lost late]
  rfl

theorem sampled_frame (s : State) (w : Wire) (accepted : Bool) (got : Option (Station × Note)) :
    (s.sampled w accepted got).tx = s.tx ∧ (s.sampled w accepted got).mem = s.mem
      ∧ (s.sampled w accepted got).ctr.trunk.duplicateSeen = s.ctr.trunk.duplicateSeen
      ∧ (s.sampled w accepted got).ctr.trunk.attemptsFailed = s.ctr.trunk.attemptsFailed := by
  cases got <;> cases accepted <;> exact ⟨rfl, rfl, rfl, rfl⟩

end Sys2Proof.Machine

namespace Sys2Proof

open Machine

/-- Settles O29: a sound note that is accepted, one that others veto, and a faulty one. -/
theorem receiverConfirms : Obligations.ReceiverConfirms := by
  intro t cells others s w wire receives clear taking running
  refine ⟨fun p n read unvetoed reserved => ?_, fun p n read vetoed => ?_, fun faulty may => ?_, fun faulty lapsed => ?_⟩
  · subst unvetoed
    refine ⟨_, exec_confirmSlot_of_sound wire clear running (by rw [read]; exact Option.some_ne_none _) t false, ?_⟩
    rw [tidied_trunk, tidied_trunkCtr, tidied_faultSet, tidied_mem, sampleNote_receiver _ receives taking, read, reserved]
    simp only [Bool.not_false, Bool.and_true, if_true, Option.any_some, beq_iff_eq, sampled_taken]
    by_cases own : p = s.self
    · rw [if_pos (show p = (s.tick t).self from own), duplicate_trunk rfl, duplicate_trunkCtr, duplicate_faultSet,
        duplicate_state]
      simp only [own, true_and, if_true]
      exact ⟨rfl, rfl, fun _ => trivial, rfl⟩
    · rw [if_neg (show ¬ p = (s.tick t).self from own), if_neg own, if_neg fun both => own both.1]
      refine ⟨rfl, ?_, fun same => absurd same own, rfl⟩
      simp
  · subst vetoed
    refine ⟨_, exec_confirmSlot_of_sound wire clear running (by rw [read]; exact Option.some_ne_none _) t true, ?_⟩
    rw [tidied_trunk, tidied_trunkCtr, tidied_mem, Bool.not_true, sampleNote_receiver_vetoed _ receives taking]
    exact ⟨rfl, rfl, rfl⟩
  · refine ⟨_, exec_confirmSlot_of wire clear running t cells others, ?_⟩
    have vetoes : s.vetoes w cells = true := (vetoes_receiver receives taking faulty).trans may
    rw [vetoes]
    simp only [if_true, Bool.not_true, Bool.and_false]
    obtain ⟨counters, trunk, run⟩ := giveVeto_values (s := s.tick t) may
    rw [tidied_trunk, tidied_trunkCtr, tidied_mem, tidied_faultSet, sampleNote_receiver_vetoed _ receives taking]
    generalize (s.tick t).giveVeto = v at *
    exact ⟨(congrArg Trunk.queue trunk :), rfl, counters, run⟩
  · refine ⟨_, exec_confirmSlot_of wire clear running t cells others, ?_⟩
    have sound : s.vetoes w cells = false := (vetoes_receiver receives taking faulty).trans (by rw [lapsed]; rfl)
    rw [sound]
    rw [tidied_trunk, tidied_trunkCtr, tidied_mem, if_neg Bool.false_ne_true, sampleNote_receiver _ receives taking, faulty]
    simp only [ite_self, Option.any_none]
    cases others <;> exact ⟨rfl, rfl, rfl⟩

/-- Settles O30: by how the station stands in its note. -/
theorem senderConfirms : Obligations.SenderConfirms := by
  intro t cells others s w k note driven n rest p m wire sends clear taking reserved running read waiting tried free away
  have sound : readNote cells ≠ none := by
    rw [read]
    exact Option.some_ne_none _
  refine ⟨fun whole unvetoed => ?_, fun whole vetoed few => ?_, fun i lost header unvetoed other => ?_,
    fun i lost late => ?_⟩
  · subst unvetoed
    refine ⟨_, exec_confirmSlot_of_sound wire clear running sound t false, ?_⟩
    have sample : (s.tick t).sampleNote w cells true = ((s.tick t).sampled w true (some (s.self, note))).endAttempt k
        .accepted := by
      rw [sampleNote_carried _ sends taking whole, read, reserved]
      rfl
    rw [Bool.not_false, sample, endAttempt_accepted (s := (s.tick t).sampled w true (some (s.self, note))) waiting free,
      sampled_taken]
    rw [tidied_trunk, tidied_trunkCtr, tidied_mem, tidied_pendingOf ?_]
    · exact ⟨rfl, setPending_pendingOf_same .., rfl, rfl⟩
    · exact away
  · subst vetoed
    refine ⟨_, exec_confirmSlot_of_sound wire clear running sound t true, ?_⟩
    have sample : (s.tick t).sampleNote w cells false = ((s.tick t).setWire none).endAttempt k .failed :=
      sampleNote_carried _ sends taking whole false
    rw [Bool.not_true, sample, endAttempt_retried (s := (s.tick t).setWire none) waiting tried free few]
    rw [tidied_trunk, tidied_trunkCtr, tidied_mem, tidied_pendingOf ?_]
    · exact ⟨rfl, setPending_pendingOf_same .., rfl, rfl⟩
    · exact away
  · subst unvetoed
    refine ⟨_, exec_confirmSlot_of_sound wire clear running sound t false, ?_⟩
    have sample := sampleNote_lostHeader (s.tick t) sends taking lost header reserved read other
    rw [endAttempt_lost (s := ((s.tick t).sampled w true (some (p, m))).bump
      (countTrunk fun c => { c with arbitrationLost := c.arbitrationLost + 1 })) waiting tried free, sampled_taken] at sample
    rw [Bool.not_false, sample, tidied_trunk, tidied_trunkCtr, tidied_mem, tidied_pendingOf ?_]
    · exact ⟨rfl, waiting, rfl, rfl⟩
    · exact away
  · refine ⟨_, exec_confirmSlot_of_sound wire clear running sound t others, ?_⟩
    obtain ⟨tx, mem, seen, failed⟩ := sampled_frame (s.tick t) w (!others) ((s.tick t).gotNote w cells (!others))
    have sample := sampleNote_lostLate (s.tick t) sends taking lost late (!others)
    generalize State.sampled _ _ _ _ = v at *
    have waiting' : v.pendingOf k = n :: rest := (pendingOf_congr tx k).trans waiting
    rw [endAttempt_lost waiting' tried ((congrArg TransmitQueue.held tx).trans free)] at sample
    rw [sample, tidied_faultSet, tidied_trunkCtr, tidied_mem, duplicate_faultSet, duplicate_trunkCtr, duplicate_state, mem]
    refine ⟨rfl, congrArg (· + 1) seen, failed, rfl, fun stranger => ?_⟩
    have stranger' : v.mem.state ≠ .member := by
      rw [mem]
      exact stranger
    rw [tidied_pendingOf ?_, duplicate_pendingOf stranger', waiting']
    rw [duplicate_state, if_neg stranger', mem]
    exact away

end Sys2Proof

/-! Exhausted, abandoned and stalled notes, and the idle trunk (R41, R42, R47, R48, R54). -/

namespace Sys2Proof.Machine

-- One proof at a time: the proofs of many statements at once take more threads than the memory holds.
set_option Elab.async false

/-! ### A stray note in the ROSTER list

A LEAVING station whose list of ROSTER notes holds a GRANT: the GRANT sent is exhausted, and the claim of ROSTER-LEAVE that
follows withdraws the stray GRANT, which is then the latest lost. -/

/-- The GRANT that is on the wire for the fourth time. -/
def sentGrant : Pending := { claim := .grant 0 0 0, attempts := 3, doom := .none }

/-- The GRANT that stands in the list of ROSTER notes. -/
def strayGrant : Pending := { claim := .grant 1 0 0, attempts := 0, doom := .none }

/-- The note on the wire, of which this station drives no cell. -/
def sentWire : Wire :=
  { role := .sender .grant (.grant 0 0 0) [], latch := { raw := 0, group := 0 }, reserved := true, stretch := none
    released := false }

/-- A LEAVING station with a stray note. -/
def State.strayed : State :=
  { State.reset with
    trunk := { State.reset.trunk with view := .busy, wire := some sentWire }
    mem := { State.reset.mem with state := .leaving }
    tx := { State.reset.tx with lists :=
      (State.reset.tx.lists.set NoteKind.grant.code [sentGrant]).set NoteKind.roster.code [strayGrant] } }

/-- The cells of the sent GRANT. -/
def sentCells : List Bool := noteCells 0 (.grant 0 0 0)

/-- The state after the fourth veto of the sent GRANT. -/
def State.strayedAfter : State := ((State.strayed.tick 0).sampleNote sentWire sentCells false).tidied

theorem sentCells_sound : readNote sentCells ≠ none := by decide +kernel

theorem exec_strayed : exec (.confirmSlot 0 sentCells true) State.strayed = .next State.strayedAfter :=
  exec_confirmSlot_of_sound (s := State.strayed) (w := sentWire) rfl rfl rfl sentCells_sound 0 true

theorem strayedAfter_lostGrant : State.strayedAfter.frames.lostGrant ≠ some { channel := 0, seq := 0, base := 0 } := by
  decide +kernel

/-! ### Abandoned notes (R41, R47) -/

theorem exec_noteAbandoned_of {s : State} {w : Wire} (wire : s.trunk.wire = some w) (clear : w.stretch = none)
    (running : s.trunk.stalled = false) (t : Moment) (cells : List Bool) :
    exec (.noteAbandoned t cells) s = .next ((s.tick t).abandon w cells).tidied := by
  show execNoteAbandoned t cells s = _
  unfold execNoteAbandoned
  dsimp only
  rw [show (s.tick t).trunk.wire = some w from wire]
  dsimp only
  rw [clear, show (s.tick t).trunk.stalled = false from running]
  rfl

/-- The wire is free and the abandoned note counted. -/
def State.abandoned (s : State) : State :=
  (s.setWire none).bump (countTrunk fun c => { c with notesAbandoned := c.notesAbandoned + 1 })

theorem abandon_receiver (s : State) {w : Wire} (receives : w.role = .receiver) (taking : w.released = false)
    (cells : List Bool) : s.abandon w cells = s.abandoned := by
  unfold State.abandon
  rw [taking, receives]
  rfl

theorem abandon_carried (s : State) {w : Wire} {k : NoteKind} {note : Note} {driven cells : List Bool}
    (sends : w.role = .sender k note driven) (taking : w.released = false) (whole : lossAt driven cells = none) :
    s.abandon w cells = s.abandoned.endAttempt k .failed := by
  unfold State.abandon
  rw [taking, sends, standing_carried whole]
  rfl

/-! ### Stalls (R54) -/

theorem declareStall_trunk (s : State) : s.declareStall.trunk = { s.trunk with stalled := true } := raise_trunk ..

theorem declareStall_mem (s : State) : s.declareStall.mem = s.mem.holdTimers s.now := raise_mem ..

theorem declareStall_tx (s : State) : s.declareStall.tx = s.tx := declareStall_only s .tx (by decide)

theorem declareStall_faultSet (s : State) : s.declareStall.faultSet .stall = true := raise_faultSet ..

theorem declareStall_trunkCtr (s : State) :
    s.declareStall.ctr.trunk = { s.ctr.trunk with stalls := s.ctr.trunk.stalls + 1 } :=
  raise_only _ .stall .trunkCtr (by decide)

theorem stalls_iff {s : State} (part : takesPart s.mem.state = true) (running : s.trunk.stalled = false) (t : Moment) :
    (takesPart (s.tick t).mem.state && !(s.tick t).trunk.stalled) = true := by
  rw [tick_mem, tick_trunk, part, running]
  rfl

theorem exec_stall_of_free {s : State} (part : takesPart s.mem.state = true) (running : s.trunk.stalled = false)
    (free : s.trunk.wire = none) (t : Moment) (cells : List Bool) :
    exec (.stall t cells) s = .next (s.tick t).declareStall := by
  refine congrArg Host.Outcome.next ((if_pos (stalls_iff part running t)).trans ?_)
  rw [show (s.tick t).trunk.wire = none from free]

theorem exec_stall_of_wire {s : State} (part : takesPart s.mem.state = true) (running : s.trunk.stalled = false) {w : Wire}
    (wire : s.trunk.wire = some w) (clear : w.stretch = none) (t : Moment) (cells : List Bool) :
    exec (.stall t cells) s = .next ((s.tick t).declareStall.stallSender w cells).tidied := by
  refine congrArg Host.Outcome.next ((if_pos (stalls_iff part running t)).trans ?_)
  rw [show (s.tick t).trunk.wire = some w from wire]
  dsimp only
  rw [clear]
  rfl

theorem stallSender_carried (s : State) {w : Wire} {k : NoteKind} {note : Note} {driven cells : List Bool}
    (sends : w.role = .sender k note driven) (taking : w.released = false) (whole : lossAt driven cells = none) :
    s.stallSender w cells = (s.setWire (some { w with role := .receiver })).endAttempt k .failed := by
  unfold State.stallSender
  rw [sends, standing_carried whole, taking]
  rfl

theorem exec_stallEnd_of_free {s : State} (stalled : s.trunk.stalled = true) (free : s.trunk.wire = none) (t : Moment) :
    exec (.stallEnd t) s = .next (s.tick t).resumeTrunk := by
  refine congrArg Host.Outcome.next ((if_pos stalled).trans ?_)
  rw [show (s.tick t).trunk.wire = none from free]

end Sys2Proof.Machine

namespace Sys2Proof

open Machine

/-- Refutes O31: the statement is for any state, and in `State.strayed` a GRANT stands in the list of ROSTER notes. The
claim of ROSTER-LEAVE that a LEAVING station keeps (R89) withdraws it after the exhausted GRANT, and the view of the latest
lost grant (R107) takes the stray one. -/
theorem not_fourthFailureDiscards : ¬ Obligations.FourthFailureDiscards := by
  intro h
  obtain ⟨u, run, -, -, -, -, -, -, lost⟩ := h 0 sentCells State.strayed sentWire .grant (.grant 0 0 0) [] sentGrant [] rfl
    rfl rfl rfl rfl sentCells_sound rfl rfl rfl rfl rfl rfl
  rw [exec_strayed] at run
  obtain rfl := Host.Outcome.next.inj run
  exact strayedAfter_lostGrant lost

/-- Settles O32: the abandoned note at a receiver and at its sender; the idle trunk. -/
theorem notesAbandonedAndTrunkIdle : Obligations.NotesAbandonedAndTrunkIdle := by
  refine ⟨fun t cells s w wire clear taking running => ⟨fun receives => ?_,
    fun k note driven n rest sends whole waiting tried free few away => ?_⟩,
    fun t s => ⟨fun waits free running => congrArg Host.Outcome.next (if_pos ⟨waits, free, running⟩),
      fun idle => congrArg Host.Outcome.next (if_pos idle)⟩⟩
  · refine ⟨_, exec_noteAbandoned_of wire clear running t cells, ?_⟩
    rw [abandon_receiver _ receives taking, tidied_trunk, tidied_mem, tidied_trunkCtr]
    exact ⟨rfl, rfl, rfl⟩
  · refine ⟨_, exec_noteAbandoned_of wire clear running t cells, ?_⟩
    rw [abandon_carried _ sends taking whole, endAttempt_retried (s := (s.tick t).abandoned) waiting tried free few,
      tidied_trunk, tidied_mem, tidied_trunkCtr, tidied_pendingOf ?_]
    · exact ⟨rfl, rfl, setPending_pendingOf_same .., rfl⟩
    · exact away

/-- Settles O33: the stall without a note, in a note of its own, and its end. -/
theorem stallBeginsAndEnds : Obligations.StallBeginsAndEnds := by
  intro t cells s
  refine ⟨fun part running free => ⟨_, exec_stall_of_free part running free t cells, ?_⟩,
    fun w k note driven n rest part running wire sends clear taking whole waiting tried free few away =>
      ⟨_, exec_stall_of_wire part running wire clear t cells, ?_⟩,
    fun stalled free => ⟨_, exec_stallEnd_of_free stalled free t, ?_⟩⟩
  · rw [declareStall_trunk, declareStall_mem, declareStall_faultSet, declareStall_trunkCtr]
    refine ⟨rfl, rfl, rfl, rfl, fun p deadline timer => ?_, fun deadline timer => ?_, rfl⟩
    · exact (getElem_map_fin ..).trans (congrArg (Timer.hold (max s.now t)) timer)
    · exact congrArg (Timer.hold (max s.now t)) timer
  · rw [stallSender_carried _ sends taking whole]
    have trunk := declareStall_trunk (s.tick t)
    have mem := declareStall_mem (s.tick t)
    have tx := declareStall_tx (s.tick t)
    have flag := declareStall_faultSet (s.tick t)
    generalize (s.tick t).declareStall = v at *
    have state : v.mem.state = s.mem.state := by rw [mem]; rfl
    have waiting' : v.pendingOf k = n :: rest := (pendingOf_congr tx k).trans waiting
    have free' : v.tx.held = none := (congrArg TransmitQueue.held tx).trans free
    rw [endAttempt_retried (s := v.setWire (some { w with role := .receiver })) waiting' tried free' few, tidied_trunk,
      tidied_mem, tidied_faultSet, tidied_pendingOf ?_]
    · refine ⟨?_, flag, state, setPending_pendingOf_same ..⟩
      exact congrArg (fun x : Trunk => { x with wire := some { w with role := .receiver } }) trunk
    · show v.mem.state = .leaving ∨ v.mem.state = .lapsed → k ≠ .roster
      rw [state]
      exact away
  · refine ⟨rfl, fun p left timer => ?_, fun left timer => ?_, rfl, rfl, rfl⟩
    · exact (getElem_map_fin ..).trans (congrArg (Timer.run (max s.now t)) timer)
    · exact congrArg (Timer.run (max s.now t)) timer

end Sys2Proof

/-! NOTE_SEND_START: what is composed at the lead mark (R12, R43, R64 to R72, R101a). -/

namespace Sys2Proof.Machine

-- One proof at a time: the proofs of many statements at once take more threads than the memory holds.
set_option Elab.async false

/-! ### The configured channels -/

theorem filter_finRange_eq_take (n : Nat) :
    (List.finRange 8).filter (fun c => decide (c.val < n)) = (List.finRange 8).take n := by
  by_cases all : 8 ≤ n
  · rw [List.take_of_length_le (by simpa using all), List.filter_eq_self]
    intro c _
    exact decide_eq_true (lt_of_lt_of_le c.isLt all)
  · have few : n < 8 := by omega
    interval_cases n <;> decide

theorem channelNumbers_eq_take (s : State) : s.channelNumbers = (List.finRange 8).take (cfgChannels s.area) :=
  filter_finRange_eq_take _

theorem channelNumbers_length (s : State) : s.channelNumbers.length = min 8 (cfgChannels s.area) := by
  rw [channelNumbers_eq_take, List.length_take, List.length_finRange, Nat.min_comm]

theorem channelNumbers_getElem? {s : State} {x : Fin 8} (has : x.val < cfgChannels s.area) :
    s.channelNumbers[x.val]? = some x := by
  rw [channelNumbers_eq_take, List.getElem?_take_of_lt has]
  simp

/-! ### The channel choice of an OPEN (R101a) -/

/-- The place of a channel in the round that begins after the rotation mark. -/
def State.roundPlace (s : State) (j : Fin 2) (x : Fin 8) : Nat :=
  match s.frames.rotation[j] with
  | none => x.val
  | some m => (x.val + 7 - m.val) % 8

theorem streamChannels_ordered (s : State) (j : Fin 2) : (s.streamChannels j).Pairwise (· < ·) :=
  ((List.pairwise_lt_finRange 8).filter _).filter _

theorem mem_streamChannels (s : State) (j : Fin 2) (x : Fin 8) :
    x ∈ s.streamChannels j ↔ x.val < cfgChannels s.area ∧ cfgChannelStream s.area x = j.val := by
  simp [State.streamChannels, State.channelNumbers, and_comm]

theorem mem_rotatedChannels (s : State) (j : Fin 2) (x : Fin 8) :
    x ∈ s.rotatedChannels j ↔ x.val < cfgChannels s.area ∧ cfgChannelStream s.area x = j.val := by
  rw [← mem_streamChannels]
  unfold State.rotatedChannels
  split
  · rfl
  · next m _ =>
    rw [List.mem_append, List.mem_filter, List.mem_filter]
    constructor
    · rintro (⟨within, _⟩ | ⟨within, _⟩)
      · exact within
      · exact within
    · intro within
      by_cases after : m < x
      · exact .inl ⟨within, decide_eq_true after⟩
      · exact .inr ⟨within, decide_eq_true (not_lt.mp after)⟩

/-- The round goes through the channels in the order of their places. -/
theorem rotatedChannels_ordered (s : State) (j : Fin 2) :
    (s.rotatedChannels j).Pairwise fun x y => s.roundPlace j x ≤ s.roundPlace j y := by
  unfold State.rotatedChannels State.roundPlace
  cases s.frames.rotation[j] with
  | none => exact (streamChannels_ordered s j).imp fun before => before.le
  | some m =>
    have ordered := streamChannels_ordered s j
    rw [List.pairwise_append]
    refine ⟨?_, ?_, fun x before y after => ?_⟩
    · refine List.Pairwise.imp_of_mem (fun {x y} within within' before => ?_) (ordered.filter _)
      have above := of_decide_eq_true (List.mem_filter.mp within).2
      have above' := of_decide_eq_true (List.mem_filter.mp within').2
      simp only [Fin.lt_def] at before above above'
      dsimp only
      omega
    · refine List.Pairwise.imp_of_mem (fun {x y} within within' before => ?_) (ordered.filter _)
      have below := of_decide_eq_true (List.mem_filter.mp within).2
      have below' := of_decide_eq_true (List.mem_filter.mp within').2
      simp only [Fin.lt_def, Fin.le_def] at before below below'
      dsimp only
      omega
    · have above := of_decide_eq_true (List.mem_filter.mp before).2
      have below := of_decide_eq_true (List.mem_filter.mp after).2
      simp only [Fin.lt_def, Fin.le_def] at above below
      dsimp only
      omega

/-- A channel the station may steer to has its head grant steered to. -/
theorem steerTo_some {s : State} {c : Fin 8} {e : Steer} : s.steerTo c = some e
    ↔ (s.frames.channels[c]).complete = true ∧ e.channel = c
      ∧ (s.frames.channels[c]).queue.head? = some { seq := e.seq, base := e.base } := by
  unfold State.steerTo
  cases queue : (s.frames.channels[c]).queue with
  | nil => simp
  | cons g rest =>
    obtain ⟨seq, base⟩ := g
    obtain ⟨channel, seq', base'⟩ := e
    by_cases complete : (s.frames.channels[c]).complete = true
    · simp only [complete, if_true, Option.some.injEq, Steer.mk.injEq, List.head?_cons, Grant.mk.injEq, true_and]
      constructor
      · rintro ⟨rfl, rfl, rfl⟩
        exact ⟨rfl, rfl, rfl⟩
      · rintro ⟨rfl, rfl, rfl⟩
        exact ⟨rfl, rfl, rfl⟩
    · have off := Bool.eq_false_iff.mpr complete
      simp only [off, Bool.false_eq_true, if_false, false_and, reduceCtorEq]

/-- A stream may be steered to channel x. -/
def State.able (s : State) (j : Fin 2) (x : Fin 8) : Prop :=
  x.val < cfgChannels s.area ∧ cfgChannelStream s.area x = j.val ∧ (s.frames.channels[x]).complete = true
    ∧ (s.frames.channels[x]).queue ≠ []

theorem able_iff (s : State) (j : Fin 2) (x : Fin 8) :
    s.able j x ↔ x ∈ s.rotatedChannels j ∧ ∃ e, s.steerTo x = some e := by
  rw [mem_rotatedChannels, State.able, ← and_assoc]
  refine and_congr_right fun _ => ⟨fun ⟨complete, waiting⟩ => ?_, fun ⟨e, steered⟩ => ?_⟩
  · obtain ⟨g, rest, queue⟩ := List.exists_cons_of_ne_nil waiting
    exact ⟨{ channel := x, seq := g.seq, base := g.base }, steerTo_some.mpr ⟨complete, rfl, by rw [queue]; rfl⟩⟩
  · obtain ⟨complete, _, head⟩ := steerTo_some.mp steered
    refine ⟨complete, fun empty => ?_⟩
    rw [empty] at head
    cases head

/-- The choice for a stream: no channel while none is able; else the head grant of the first able one in the round. -/
theorem chooseSteer_spec (s : State) (j : Fin 2) :
    (s.chooseSteer j = none → ∀ x, ¬ s.able j x)
    ∧ ∀ e, s.chooseSteer j = some e → s.able j e.channel
        ∧ (s.frames.channels[e.channel]).queue.head? = some { seq := e.seq, base := e.base }
        ∧ ∀ x, s.able j x → s.roundPlace j e.channel ≤ s.roundPlace j x := by
  unfold State.chooseSteer
  refine ⟨fun none_chosen x can => ?_, fun e chosen => ?_⟩
  · obtain ⟨within, e, steered⟩ := (able_iff s j x).mp can
    rw [List.findSome?_eq_none_iff.mp none_chosen x within] at steered
    cases steered
  · obtain ⟨before, c, after, round, steered, passed⟩ := List.findSome?_eq_some_iff.mp chosen
    obtain ⟨complete, channel, head⟩ := steerTo_some.mp steered
    subst channel
    have ordered := rotatedChannels_ordered s j
    rw [round, List.pairwise_append] at ordered
    obtain ⟨-, later, -⟩ := ordered
    refine ⟨(able_iff s j _).mpr ⟨by rw [round]; simp, e, steered⟩, head, fun x can => ?_⟩
    obtain ⟨within, e', steered'⟩ := (able_iff s j x).mp can
    rw [round, List.mem_append, List.mem_cons] at within
    obtain earlier | same | behind := within
    · rw [passed x earlier] at steered'
      cases steered'
    · rw [same]
    · exact (List.pairwise_cons.mp later).1 x behind

/-! ### The start (R12, R43) -/

theorem compose_tick (s : State) (t : Moment) (c : Claim) : (s.tick t).compose c = s.compose c := by
  cases c <;> rfl

/-- The note on the wire after a start. -/
def State.startedWire (s : State) (c : Claim) : Wire :=
  { role := .sender c.kind (s.compose c) (noteCells s.self (s.compose c))
    latch := { raw := s.pos.raw, group := s.groupCount }, reserved := true, stretch := none, released := false }

/-- A note of its own begins (R43). -/
def State.noteStarted (s : State) (c : Claim) : State :=
  s.beginNote (.sender c.kind (s.compose c) (noteCells s.self (s.compose c))) true none

theorem exec_noteSendStart_of_offer {s : State} {c : Claim} (idle : s.trunk.view = .idle) (empty : s.trunk.queue = [])
    (free : s.trunk.wire = none) (running : s.trunk.stalled = false) (offered : s.offer = some c) (t : Moment) :
    exec (.noteSendStart t) s = .next (if (s.compose c).founds then ((s.tick t).noteStarted c).align (-s.pos.raw)
      else (s.tick t).noteStarted c) := by
  have starts : (s.tick t).startable = some c :=
    (if_pos (show _ ∧ _ ∧ _ ∧ _ from ⟨idle, empty, free, running⟩)).trans offered
  show execNoteSendStart t s = _
  unfold execNoteSendStart
  dsimp only
  rw [starts]
  dsimp only
  rw [compose_tick]
  rfl

/-- The founding origin (R12). -/
theorem align_founding {s : State} {offset : Word} (origin : s.pos.raw + offset = 0#32) :
    (s.align offset).groupCount = 0 ∧ (s.align offset).pos.w = 0 ∧ (s.align offset).pos.lineIndex = 0
      ∧ (s.align offset).pos.mode = .tracking ∧ (s.align offset).pos.nextDue = BitVec.ofNat 32 (cfgD s.area)
      ∧ (s.align offset).pos.latch = s.pos.latch ∧ (s.align offset).pos.raw = s.pos.raw := by
  have line : alignedLine s.area 0#32 = 0 := by simp [alignedLine]
  unfold State.groupCount State.align
  rw [(presentAdvance_only _).pos_same]
  simp only [Position.setLine, origin, line, Nat.zero_add, Nat.one_mul]
  exact ⟨rfl, rfl, trivial, trivial, trivial, trivial, trivial⟩

/-- The ROLL composed now (R71). -/
theorem composeRoll_channels (s : State) : s.composeRoll.channels.length = min 8 (cfgChannels s.area)
    ∧ ∀ x : Fin 8, x.val < cfgChannels s.area → s.composeRoll.channels[x.val]? = some {
        complete := (s.frames.channels[x]).complete, nextSeq := (s.frames.channels[x]).nextSeq
        queueLength := BitVec.ofNat 5 (s.frames.channels[x]).queue.length } := by
  refine ⟨(List.length_map ..).trans (channelNumbers_length s), fun x has => ?_⟩
  exact (List.getElem?_map ..).trans (by rw [channelNumbers_getElem? has]; rfl)

/-- The entries of an OPEN composed now (R67, R101a). -/
theorem composeEntries_spec (s : State) (k : Nat) :
    (s.composeEntries k).count = (if cfgStreams s.area = 2 then 2 else 1)
      ∧ ((s.frames.slots[slotOf k]).occupied = true → ∀ j, (s.composeEntries k).entry j = none)
      ∧ ((s.frames.slots[slotOf k]).occupied = false → ∀ j : Fin 2, j.val < (s.composeEntries k).count →
          (s.composeEntries k).entry j = s.chooseSteer j) := by
  unfold State.composeEntries
  dsimp only
  split
  · refine ⟨rfl, fun occupied j => ?_, fun empty j _ => ?_⟩
    · rw [occupied]
      obtain rfl | rfl := tap_cases j
      all_goals rfl
    · rw [empty]
      obtain rfl | rfl := tap_cases j
      all_goals rfl
  · refine ⟨rfl, fun occupied j => ?_, fun empty j within => ?_⟩
    · rw [occupied]
      obtain rfl | rfl := tap_cases j
      all_goals rfl
    · rw [empty]
      obtain rfl : j = 0 := Fin.ext (Nat.lt_one_iff.mp within)
      rfl

end Sys2Proof.Machine

namespace Sys2Proof

open Machine

/-- Settles O27: the start, the founding origin, and the fields of the composed note. -/
theorem offeredNoteStarts : Obligations.OfferedNoteStarts := by
  intro t s c idle empty free running offered note
  refine ⟨_, exec_noteSendStart_of_offer idle empty free running offered t, ?_⟩
  have wire : ((s.tick t).noteStarted c).trunk = { s.trunk with view := .busy, wire := some (s.startedWire c) } := by
    unfold State.noteStarted State.beginNote
    rw [compose_tick]
    rfl
  by_cases founds : (s.compose c).founds = true
  · have origin : ((s.tick t).noteStarted c).pos.raw + -s.pos.raw = 0#32 := BitVec.add_right_neg _
    obtain ⟨count, w, line, mode, due, latch, raw⟩ := align_founding origin
    have only := align_only ((s.tick t).noteStarted c) (-s.pos.raw)
    have trunk := only.trunk_same
    have mem := only.mem_same
    have counters := only .trunkCtr (by decide)
    have joins : c = .rosterJoin := by
      cases c
      case rosterJoin => rfl
      all_goals exact absurd founds Bool.false_ne_true
    rw [if_pos founds, if_pos founds]
    generalize ((s.tick t).noteStarted c).align (-s.pos.raw) = v at *
    subst joins
    exact ⟨trunk.trans wire, latch, raw, mem, counters, ⟨count, w, line, mode, due⟩, rfl⟩
  · rw [if_neg founds, if_neg founds]
    refine ⟨wire, rfl, rfl, rfl, rfl, rfl, ?_⟩
    cases c
    case roll =>
      obtain ⟨length, fields⟩ := composeRoll_channels s
      exact ⟨s.composeRoll, rfl, rfl, rfl, rfl, rfl, rfl, rfl, rfl, rfl, length, fields⟩
    case opening k =>
      obtain ⟨count, occupied, empty⟩ := composeEntries_spec s k
      refine ⟨s.composeEntries k, rfl, count, occupied, fun free j within => ?_⟩
      obtain ⟨none_able, chosen⟩ := chooseSteer_spec s j
      rw [empty free j within]
      refine ⟨fun none_chosen x can => none_able none_chosen x can, fun e steered => ?_⟩
      exact chosen e steered
    all_goals rfl

end Sys2Proof

/-! The signal unit's outputs (R163, R164, R166): schedules, and a SIGNAL at a PULSE output. -/

namespace Sys2Proof.Machine

-- One proof at a time: the proofs of many statements at once take more threads than the memory holds.
set_option Elab.async false

/-! ### Schedules -/

theorem mem_insertByStart {α : Type} (e x : Nat × α) (l : List (Nat × α)) :
    x ∈ insertByStart e l ↔ x = e ∨ x ∈ l := by
  induction l with
  | nil => simp [insertByStart]
  | cons q rest ih =>
    unfold insertByStart
    split
    · exact List.mem_cons
    · rw [List.mem_cons, ih, List.mem_cons]
      exact or_left_comm

/-- A new start keeps the starts of a schedule rising. -/
theorem insertByStart_ordered {α : Type} {e : Nat × α} {l : List (Nat × α)} (new : ∀ x ∈ l, x.1 ≠ e.1)
    (ordered : (l.map Prod.fst).Pairwise (· < ·)) : ((insertByStart e l).map Prod.fst).Pairwise (· < ·) := by
  induction l with
  | nil => exact List.pairwise_singleton _ _
  | cons q rest ih =>
    have other := new q (List.mem_cons_self ..)
    obtain ⟨first, ordered'⟩ := List.pairwise_cons.mp ordered
    unfold insertByStart
    split
    · next before =>
      refine List.pairwise_cons.mpr ⟨fun n within => ?_, ordered⟩
      obtain same | later := List.mem_cons.mp within
      · omega
      · exact lt_of_le_of_lt before (first n later)
    · next after =>
      refine List.pairwise_cons.mpr ⟨fun n within => ?_, ih (fun x h => new x (List.mem_cons_of_mem _ h)) ordered'⟩
      obtain ⟨x, at_x, rfl⟩ := List.mem_map.mp within
      obtain rfl | later := (mem_insertByStart e x rest).mp at_x
      · omega
      · exact first _ (List.mem_map_of_mem later)

/-- The range that runs from the lowest start to the highest end (R164). -/
def mergeRanges (l : List (Nat × Nat)) (r : Nat × Nat) : Nat × Nat :=
  l.foldl (fun m q => (min m.1 q.1, max m.2 q.2)) r

theorem mergeRanges_spec (l : List (Nat × Nat)) (r : Nat × Nat) :
    (mergeRanges l r).1 ≤ r.1 ∧ r.2 ≤ (mergeRanges l r).2
      ∧ ((mergeRanges l r).1 = r.1 ∨ ∃ q ∈ l, q.1 = (mergeRanges l r).1)
      ∧ ((mergeRanges l r).2 = r.2 ∨ ∃ q ∈ l, q.2 = (mergeRanges l r).2)
      ∧ ∀ q ∈ l, (mergeRanges l r).1 ≤ q.1 ∧ q.2 ≤ (mergeRanges l r).2 := by
  induction l generalizing r with
  | nil => exact ⟨le_rfl, le_rfl, .inl rfl, .inl rfl, nofun⟩
  | cons q l ih =>
    obtain ⟨low, high, low_at, high_at, covers⟩ := ih (min r.1 q.1, max r.2 q.2)
    have step : mergeRanges (q :: l) r = mergeRanges l (min r.1 q.1, max r.2 q.2) := rfl
    rw [step]
    dsimp only at low high low_at high_at
    refine ⟨low.trans (min_le_left ..), (le_max_left ..).trans high, ?_, ?_, fun x within => ?_⟩
    · obtain same | ⟨x, within, same⟩ := low_at
      · obtain first | second := min_choice r.1 q.1
        · exact .inl (same.trans first)
        · exact .inr ⟨q, List.mem_cons_self .., (same.trans second).symm⟩
      · exact .inr ⟨x, List.mem_cons_of_mem _ within, same⟩
    · obtain same | ⟨x, within, same⟩ := high_at
      · obtain first | second := max_choice r.2 q.2
        · exact .inl (same.trans first)
        · exact .inr ⟨q, List.mem_cons_self .., (same.trans second).symm⟩
      · exact .inr ⟨x, List.mem_cons_of_mem _ within, same⟩
    · obtain rfl | within := List.mem_cons.mp within
      · exact ⟨low.trans (min_le_right ..), (le_max_right ..).trans high⟩
      · exact covers x within

/-! ### A SIGNAL at a PULSE output (R164) -/

theorem countOutput_same (j : Fin 4) (f : OutputCounters → OutputCounters) (c : Counters) :
    (countOutput j f c).outputs[j] = f c.outputs[j] := Vector.getElem_set_self ..

theorem raise_outputsCtr (s : State) (k : FaultKind) : (s.raise k).ctr.outputs = s.ctr.outputs :=
  raise_only s k .outputsCtr (by decide)

/-- The range that a SIGNAL for line x asserts. -/
def State.pulseRange (s : State) (j : Fin 4) (x : Nat) : Nat × Nat :=
  (x + cfgOutputOffset s.area j, x + cfgOutputOffset s.area j + cfgOutputWidth s.area j)

/-- A range that has begun already is partly late. -/
def State.lateCounted (s : State) (j : Fin 4) (start : Nat) (n : Nat) : State :=
  if start ≤ n then s.bump (countOutput j fun c => { c with partlyLate := c.partlyLate + 1 }) else s

/-- An output takes its ranges, with the counting that goes with it. -/
def State.rangesTaken (s : State) (j : Fin 4) (ranges : List (Nat × Nat)) (start : Nat)
    (f : OutputCounters → OutputCounters) : State :=
  ((s.setOutputState j { s.signals.outputs[j] with ranges := ranges }).bump (countOutput j f)).lateCounted j start
    s.pos.lineIndex

theorem rangesTaken_output (s : State) (j : Fin 4) (ranges : List (Nat × Nat)) (start : Nat)
    (f : OutputCounters → OutputCounters) :
    (s.rangesTaken j ranges start f).signals.outputs[j] = { s.signals.outputs[j] with ranges := ranges }
      ∧ (s.rangesTaken j ranges start f).ctr.outputs[j] = (if start ≤ s.pos.lineIndex then
          { f s.ctr.outputs[j] with partlyLate := (f s.ctr.outputs[j]).partlyLate + 1 } else f s.ctr.outputs[j]) := by
  have stored : (s.setOutputState j { s.signals.outputs[j] with ranges := ranges }).signals.outputs[j]
      = { s.signals.outputs[j] with ranges := ranges } := Vector.getElem_set_self ..
  unfold State.rangesTaken State.lateCounted
  split
  · exact ⟨stored, (countOutput_same ..).trans (by rw [bump_ctr, countOutput_same]; rfl)⟩
  · exact ⟨stored, countOutput_same ..⟩

theorem takeSignal_pulse {s : State} {j : Fin 4} (pulse : cfgOutputMode s.area j = .pulse) (level : Bool) (x : Nat) :
    s.takeSignal j (cfgOutputId s.area j) level x = s.takePulse j x := by
  unfold State.takeSignal
  rw [if_pos rfl, pulse]

/-- A SIGNAL at a PULSE output, case by case. -/
theorem takePulse_eq (s : State) (j : Fin 4) (x : Nat) : s.takePulse j x =
    (let r := s.pulseRange j x
     let ranges := (s.signals.outputs[j]).ranges
     if lastLine s.area < r.1 then s.bump (countOutput j fun c => { c with outOfRange := c.outOfRange + 1 })
     else if r.2 ≤ s.pos.lineIndex then s.bump (countOutput j fun c => { c with lateSkipped := c.lateSkipped + 1 })
     else if ranges.any (overlaps r) then
       s.rangesTaken j (insertByStart (mergeRanges (ranges.filter (overlaps r)) r) (ranges.filter fun q => !overlaps r q))
         (mergeRanges (ranges.filter (overlaps r)) r).1 fun c => { c with entriesMerged := c.entriesMerged + 1 }
     else if 8 ≤ ranges.length then
       (s.bump (countOutput j fun c => { c with scheduleFull := c.scheduleFull + 1 })).raise .markOverrun
     else s.rangesTaken j (insertByStart r ranges) r.1 fun c => { c with entriesInserted := c.entriesInserted + 1 }) := rfl

end Sys2Proof.Machine

namespace Sys2Proof

open Machine

/-- Settles O35: the branches of `takePulse_eq`. -/
theorem pulseOutputTakesSignal : Obligations.PulseOutputTakesSignal := by
  intro s j level x pulse o first last hit u k
  have taken : u = s.takePulse j x := takeSignal_pulse pulse level x
  have meets (q : Nat × Nat) : overlaps (s.pulseRange j x) q = (decide (q.1 < last) && decide (first < q.2)) :=
    Bool.and_comm ..
  have hits : o.ranges.filter (overlaps (s.pulseRange j x)) = hit := List.filter_congr fun q _ => meets q
  have any_hit : o.ranges.any (overlaps (s.pulseRange j x)) = true ↔ hit ≠ [] := by
    rw [← hits, ne_eq, List.filter_eq_nil_iff, List.any_eq_true]
    simp
  rw [taken, takePulse_eq]
  dsimp only
  refine ⟨fun beyond => ?_, fun within past => ?_, fun within soon met => ?_, fun within soon unmet full => ?_,
    fun within soon unmet room => ?_⟩
  · rw [if_pos (show lastLine s.area < (s.pulseRange j x).1 from beyond)]
    rfl
  · rw [if_neg (show ¬ lastLine s.area < (s.pulseRange j x).1 from within.not_gt),
      if_pos (show (s.pulseRange j x).2 ≤ s.pos.lineIndex from past)]
    rfl
  all_goals rw [if_neg (show ¬ lastLine s.area < (s.pulseRange j x).1 from within.not_gt),
    if_neg (show ¬ (s.pulseRange j x).2 ≤ s.pos.lineIndex from soon.not_ge)]
  · rw [if_pos (any_hit.mpr met), hits]
    obtain ⟨output, counters⟩ := rangesTaken_output s j (insertByStart (mergeRanges hit (s.pulseRange j x))
      (o.ranges.filter fun q => !overlaps (s.pulseRange j x) q)) (mergeRanges hit (s.pulseRange j x)).1
      fun c => { c with entriesMerged := c.entriesMerged + 1 }
    obtain ⟨low, high, low_at, high_at, covers⟩ := mergeRanges_spec hit (s.pulseRange j x)
    rw [output, counters]
    refine ⟨?_, (mergeRanges hit (s.pulseRange j x)).1, (mergeRanges hit (s.pulseRange j x)).2, ?_, low, high, low_at,
      high_at, covers, fun r => ?_, ?_⟩
    · split <;> rfl
    · exact (mem_insertByStart ..).mpr (.inl rfl)
    · rw [mem_insertByStart, List.mem_filter, ← hits, List.mem_filter]
      refine or_congr_right (and_congr_right fun at_r => ?_)
      simp [at_r]
    · split
      · rfl
      · simp [k]
  · rw [if_neg (fun met => any_hit.mp met unmet), if_pos full]
    refine ⟨raise_signals .., ?_, raise_faultSet ..⟩
    rw [raise_outputsCtr]
    exact congrArg OutputCounters.scheduleFull (countOutput_same ..)
  · rw [if_neg (fun met => any_hit.mp met unmet), if_neg room.not_ge]
    obtain ⟨output, counters⟩ := rangesTaken_output s j (insertByStart (s.pulseRange j x) o.ranges) (s.pulseRange j x).1
      fun c => { c with entriesInserted := c.entriesInserted + 1 }
    rw [output, counters]
    refine ⟨fun r => mem_insertByStart .., ?_, ?_⟩
    · split <;> rfl
    · by_cases begun : first ≤ s.pos.lineIndex
      · rw [if_pos (show (s.pulseRange j x).1 ≤ s.pos.lineIndex from begun), if_pos begun]
      · rw [if_neg (show ¬ (s.pulseRange j x).1 ≤ s.pos.lineIndex from begun), if_neg begun]
        simp [k]

end Sys2Proof

/-! The processing of a note at a MEMBER or LEAVING station (R53, R75), and the effects of GATE and GRANT (R108, R114). -/

namespace Sys2Proof.Machine

-- One proof at a time: the proofs of many statements at once take more threads than the memory holds.
set_option Elab.async false

theorem Only.slots_same {S : List Piece} {s u : State} (h : Only S s u) (entries_out : .entries ∉ S := by decide)
    (parts_out : .parts ∉ S := by decide) : u.frames.slots = s.frames.slots := by
  refine Vector.ext fun i hi => slot_ext (map_eq_getElem (h .entries entries_out) ⟨i, hi⟩) fun j => ?_
  have parts : u.partAt = s.partAt := h .parts parts_out
  exact congrFun (congrFun parts ⟨i, hi⟩) j

theorem Only.gate_eq {S : List Piece} {s u : State} (h : Only S s u) (out : .gate ∉ S := by decide) :
    u.frames.gateOpen = s.frames.gateOpen ∧ u.frames.gateFrame = s.frames.gateFrame
      ∧ u.frames.resume = s.frames.resume ∧ u.frames.founded = s.frames.founded := by
  have gate : (u.frames.gateOpen, u.frames.gateFrame, u.frames.resume, u.frames.founded) = _ := h .gate out
  simpa only [Piece.view, Prod.mk.injEq] using gate

/-- The frame unit but for its slots and for the grant that a failed note lost. -/
theorem Only.frames_but {S : List Piece} {s u : State} (h : Only S s u) (h_out : .h ∉ S := by decide)
    (channels_out : .channels ∉ S := by decide) (rotation_out : .rotation ∉ S := by decide)
    (gate_out : .gate ∉ S := by decide) :
    u.frames = { s.frames with slots := u.frames.slots, lostGrant := u.frames.lostGrant } := by
  have level : u.frames.h = s.frames.h := h .h h_out
  have channels : u.frames.channels = s.frames.channels := h .channels channels_out
  have rotation : u.frames.rotation = s.frames.rotation := h .rotation rotation_out
  obtain ⟨isOpen, frame, resume, founded⟩ := h.gate_eq gate_out
  dsimp only
  rw [← level, ← channels, ← rotation, ← isOpen, ← frame, ← resume, ← founded]

/-! ### The processing of a note from the roster -/

theorem hear_mem (s : State) (p : Station) : (s.hear p).mem = { s.mem with
    peers := (s.hear p).mem.peers, silence := (s.hear p).mem.silence } := by
  unfold State.hear
  split <;> rfl

/-- The withdrawals that follow the note change lists only: it is no other station's ROSTER-JOIN at a JOINING station
(R62). -/
def State.quiet (s : State) (r : Received) : Prop := r.note.isJoin = false ∨ r.sender = s.self ∨ s.mem.state ≠ .joining

theorem withdrawTold_quiet {s : State} {r : Received} (quiet : s.quiet r) : Only claimPieces s (s.withdrawTold r) := by
  obtain told | own | apart := quiet
  · exact withdrawTold_only s r told
  all_goals
    have heard := withdrawFrom_only s .drop .withdrawn fun n => n.claim == .drop r.sender
    unfold State.withdrawTold
    dsimp only
    split
    · exact heard.trans (withdrawFrom_only _ _ _ _)
    · exact heard.trans (withdrawFrom_only _ _ _ _)
  case h_3 =>
    rw [if_pos own]
    exact heard
  case h_3 =>
    refine .ite (fun _ => heard) fun _ => heard.trans ?_
    have outside : ¬ ((s.withdrawFrom .drop .withdrawn fun n => n.claim == .drop r.sender).mem.state = .joining
        ∧ ¬ (s.withdrawFrom .drop .withdrawn fun n => n.claim == .drop r.sender).onWire .roster) := by
      rw [heard.mem_same]
      exact fun joining => apart joining.1
    unfold State.withdrawJoin
    dsimp only
    rw [if_neg outside]
    exact withdrawFrom_only _ _ _ _
  all_goals exact heard

section

variable {s : State} {r : Received} (quiet : s.quiet r) (rest : List Received)
include quiet

theorem told_withdrawn : Only claimPieces (s.takeHead rest) ((s.takeHead rest).withdrawTold r) :=
  withdrawTold_quiet (s := s.takeHead rest) quiet

theorem told_mem_of_quiet : (s.told r rest).mem = { s.mem with
    peers := (s.told r rest).mem.peers, silence := (s.told r rest).mem.silence } := by
  have heard : (s.told r rest).mem = _ := hear_mem ((s.takeHead rest).withdrawTold r) r.sender
  rw [(told_withdrawn quiet rest).mem_same] at heard
  exact heard

theorem told_trunk : (s.told r rest).trunk = (s.takeHead rest).trunk :=
  (hear_only _ _).trunk_same.trans (told_withdrawn quiet rest).trunk_same

theorem told_only_of_quiet : Only [.trunk, .tx, .queueCtr, .lostGrant, .peers, .timers] s (s.told r rest) :=
  (((takeHead_only s rest).mono (by decide)).next (told_withdrawn quiet rest)).next (hear_only _ _)

end

/-- What follows the effects of a processed note (R89, R127, R135). -/
def State.finished (s : State) : State := s.keepLeaveClaimed.afterTap

theorem finished_only (s : State) : Only (claimPieces ++ settlePieces) s s.finished :=
  ((keepLeaveClaimed_only s).mono (by decide)).next (afterTap_only _)

/-- The state between a processed note and its effects. -/
structure Told (s v : State) (rest : List Received) : Prop where
  only : Only [.now, .trunk, .tx, .queueCtr, .lostGrant, .peers, .timers] s v
  trunk : v.trunk = { s.trunk with queue := rest, wire := v.trunk.wire }
  mem : v.mem = { s.mem with peers := v.mem.peers, silence := v.mem.silence }
  wire : ∀ k, v.onWire k = s.onWire k

/-- Taking the head leaves the note on the wire (R53). -/
theorem takeHead_onWire (s : State) (rest : List Received) (k : NoteKind) : (s.takeHead rest).onWire k = s.onWire k := by
  unfold State.onWire State.wireKind State.takeHead
  cases wire : s.trunk.wire with
  | none => rfl
  | some w =>
    obtain ⟨role, latch, reserved, stretch, released⟩ := w
    cases role <;> cases stretch <;> rfl

theorem applies_congr {s v : State} (state : v.mem.state = s.mem.state) (roster : v.mem.roster = s.mem.roster)
    (number : v.mem.number = s.mem.number) (pos : v.pos = s.pos) (r : Received) : v.applies r = s.applies r := by
  unfold State.applies State.self
  rw [state, roster, number, pos]

theorem applies_of_inside {s : State} (inside : s.mem.state = .member ∨ s.mem.state = .leaving) {r : Received}
    (sender : hasStation s.mem.roster r.sender = true) : s.applies r = true := by
  unfold State.applies
  rw [sender]
  obtain state | state := inside <;> rw [state] <;> exact Bool.or_true _

section Processing

variable {s : State} {r : Received} {rest : List Received} (queue : s.trunk.queue = r :: rest)
  {wanted : Note → Bool} (kind : wanted r.note = true)
include queue kind

/-- A note that the station applies. -/
theorem process_told (quiet : s.quiet r) (applies : s.applies r = true) (t : Moment) :
    Told s ((s.tick t).told r rest) rest
      ∧ (s.tick t).process wanted = (((s.tick t).told r rest).applyNote r).finished := by
  have mem : ((s.tick t).told r rest).mem = _ := told_mem_of_quiet (s := s.tick t) quiet rest
  have only := ((tick_only s t).mono (S := [.now, .trunk, .tx, .queueCtr, .lostGrant, .peers, .timers]) (by decide)).next
    (told_only_of_quiet (s := s.tick t) quiet rest)
  have trunk : ((s.tick t).told r rest).trunk = ((s.tick t).takeHead rest).trunk := told_trunk (s := s.tick t) quiet rest
  refine ⟨⟨only, by rw [trunk]; rfl, mem, fun k =>
    (onWire_of_trunk trunk k).trans (takeHead_onWire (s.tick t) rest k)⟩, ?_⟩
  have applies' : ((s.tick t).told r rest).applies r = true :=
    (applies_congr (congrArg Membership.state mem :) (congrArg Membership.roster mem :) (congrArg Membership.number mem :)
      only.pos_same r).trans applies
  unfold State.process
  rw [show (s.tick t).trunk.queue = r :: rest from queue]
  dsimp only
  rw [if_pos kind, processHead_eq, if_pos applies']
  rfl

/-- A note that the station applies, not a ROSTER-JOIN. -/
theorem process_of_applies (told : r.note.isJoin = false) (applies : s.applies r = true) (t : Moment) :
    ∃ v, Told s v rest ∧ (s.tick t).process wanted = (v.applyNote r).finished :=
  ⟨_, process_told queue kind (.inl told) applies t⟩

/-- A station of the roster applies the note of another. -/
theorem process_applied (told : r.note.isJoin = false) (inside : s.mem.state = .member ∨ s.mem.state = .leaving)
    (sender : hasStation s.mem.roster r.sender = true) (t : Moment) :
    ∃ v, Told s v rest ∧ (s.tick t).process wanted = (v.applyNote r).finished :=
  process_of_applies queue kind told (applies_of_inside inside sender) t

end Processing

namespace Told

variable {s v : State} {rest : List Received} (h : Told s v rest)
include h

theorem queue : v.trunk.queue = rest := congrArg Trunk.queue h.trunk

theorem area : v.area = s.area := h.only.area_eq.1

theorem pos : v.pos = s.pos := h.only.pos_same

theorem state : v.mem.state = s.mem.state := (congrArg Membership.state h.mem :)

theorem roster : v.mem.roster = s.mem.roster := (congrArg Membership.roster h.mem :)

theorem frames : v.frames = { s.frames with lostGrant := v.frames.lostGrant } := by
  have frames := h.only.frames_but
  rwa [h.only.slots_same] at frames

theorem closed : v.closed = s.closed := by
  unfold State.closed
  rw [h.mem]

theorem currentFrame : v.currentFrame = s.currentFrame := by
  unfold State.currentFrame
  rw [h.pos, h.area]

end Told

/-! ### GATE (R114) -/

theorem gateAfter_moves {f : FrameUnit} {isOpen : Bool} {g : Nat} (moves : isOpen ≠ f.gateOpen ∨ g < f.gateFrame) :
    f.gateAfter isOpen g = some { f with
      gateOpen := isOpen, gateFrame := g, resume := if isOpen ∧ f.gateOpen = false then some g else f.resume } := by
  unfold FrameUnit.gateAfter
  cases isOpen <;> cases before : f.gateOpen <;> simp_all

theorem gateAfter_stays {f : FrameUnit} {isOpen : Bool} {g : Nat} (stays : ¬ (isOpen ≠ f.gateOpen ∨ g < f.gateFrame)) :
    f.gateAfter isOpen g = none := by
  unfold FrameUnit.gateAfter
  cases isOpen <;> cases before : f.gateOpen <;> simp_all

theorem applyGate_moves {s : State} {isOpen : Bool} {f : BitVec 16}
    (moves : isOpen ≠ s.frames.gateOpen ∨ extendFrame s.area s.currentFrame f < s.frames.gateFrame) :
    s.applyGate isOpen f = { s with frames := { s.frames with
      gateOpen := isOpen
      gateFrame := extendFrame s.area s.currentFrame f
      resume := if isOpen ∧ s.frames.gateOpen = false then some (extendFrame s.area s.currentFrame f)
                else s.frames.resume } } := by
  unfold State.applyGate
  rw [gateAfter_moves moves]

theorem applyGate_stays {s : State} {isOpen : Bool} {f : BitVec 16}
    (stays : ¬ (isOpen ≠ s.frames.gateOpen ∨ extendFrame s.area s.currentFrame f < s.frames.gateFrame)) :
    s.applyGate isOpen f = s.bump (countFrames fun f => { f with gatesUnchanged := f.gatesUnchanged + 1 }) := by
  unfold State.applyGate
  rw [gateAfter_stays stays]

/-! ### GRANT (R108) -/

theorem raiseSeq_eq (old : Option Byte) (x : Byte) : raiseSeq old x = some (match old with
    | some l => if seqAbove x l then x else l
    | none => x) := by
  unfold raiseSeq
  cases old with
  | none => rfl
  | some l => exact (apply_ite some ..).symm

theorem canAppend_iff (ch : Channel) (x : Byte) : ch.canAppend x = true
    ↔ ch.queue.length < 16 ∧ ∀ g, ch.queue.getLast? = some g → seqBelow g.seq x = true := by
  unfold Channel.canAppend
  rw [Bool.and_eq_true, decide_eq_true_eq]
  refine and_congr_right fun _ => ?_
  cases ch.queue.getLast? <;> simp

/-- An incomplete channel keeps grants below the sequence, and is short of 16. -/
theorem makeRoom_spec (ch : Channel) (x : Byte) : (ch.makeRoom x).complete = ch.complete
    ∧ (∀ g ∈ (ch.makeRoom x).queue, g ∈ ch.queue ∧ seqBelow g.seq x = true)
    ∧ (ch.queue.length ≤ 16 → (ch.makeRoom x).queue.length < 16)
    ∧ (ch.makeRoom x).queue.length ≤ ch.queue.length := by
  have few : (ch.queue.filter fun g => seqBelow g.seq x).length ≤ ch.queue.length := List.length_filter_le ..
  have below (g : Grant) (at_g : g ∈ ch.queue.filter fun g => seqBelow g.seq x) : g ∈ ch.queue ∧ seqBelow g.seq x = true :=
    List.mem_filter.mp at_g
  unfold Channel.makeRoom
  dsimp only
  split
  · next g rest kept =>
    rw [kept] at few below
    split
    · exact ⟨rfl, fun g at_g => below g (List.mem_cons_of_mem _ at_g), fun _ => by simp at few ⊢; omega,
        by simp at few ⊢; omega⟩
    · next short => exact ⟨rfl, kept ▸ below, fun _ => Nat.lt_of_not_le (kept ▸ short), kept ▸ few⟩
  · exact ⟨rfl, nofun, fun _ => by simp, Nat.zero_le _⟩

theorem desync_state (s : State) : s.desync.mem.state = if s.mem.state = .member then .lapsed else s.mem.state := by
  unfold State.desync
  rw [lapseFrom_state, bump_mem, raise_mem]
  simp only [List.mem_singleton]

theorem desync_faultSet (s : State) : s.desync.faultSet .desync = true := by
  unfold State.desync
  rw [faultSet_of_only (lapseFrom_only _ _)]
  exact raise_faultSet s .desync

section Grants

variable {s : State} {c : Fin 8}

theorem applyGrant_unknown (unknown : cfgChannels s.area ≤ c.val) (seq : Byte) (base : Page) : s.applyGrant c seq base
    = s.bump (countFrames fun f => { f with grantsIgnored := f.grantsIgnored + 1 }) := if_pos unknown

variable (known : c.val < cfgChannels s.area)
include known

theorem applyGrant_appended {seq : Byte} (complete : (s.frames.channels[c]).complete = true)
    (fits : (s.frames.channels[c]).canAppend seq = true) (base : Page) :
    s.applyGrant c seq base = s.setChannel c ((s.frames.channels[c]).append seq base) := by
  unfold State.applyGrant
  rw [if_neg known.not_ge, if_pos complete, if_pos fits]

theorem applyGrant_desync {seq : Byte} (complete : (s.frames.channels[c]).complete = true)
    (crowded : ¬ (s.frames.channels[c]).canAppend seq = true) (base : Page) :
    s.applyGrant c seq base = s.desync := by
  unfold State.applyGrant
  rw [if_neg known.not_ge, if_pos complete, if_neg crowded]

theorem applyGrant_incomplete (incomplete : (s.frames.channels[c]).complete = false) (seq : Byte) (base : Page) :
    s.applyGrant c seq base = (s.setChannel c (((s.frames.channels[c]).makeRoom seq).append seq base)).bump
      (countGrants 0 ((s.frames.channels[c]).queue.length - ((s.frames.channels[c]).makeRoom seq).queue.length)) := by
  unfold State.applyGrant
  rw [if_neg known.not_ge, if_neg (by rw [incomplete]; decide)]

end Grants

end Sys2Proof.Machine

namespace Sys2Proof

open Machine

/-- Settles O39: the note's record before and after, by whether it moves. -/
theorem gateMovesRecord : Obligations.GateMovesRecord := by
  intro t s q isOpen f latch rest queue inside sender g moves
  obtain ⟨v, told, ran⟩ := process_applied (r := { sender := q, note := .gate isOpen f, latch := latch }) queue
    (wanted := fun n => n.kind == .gate) rfl rfl inside sender t
  have at_g : extendFrame v.area v.currentFrame f = g := by rw [told.area, told.currentFrame]
  have before := told.frames
  have effect := finished_only (v.applyGate isOpen f)
  have applied := applyGate_only v isOpen f
  have after := effect.frames_but
  have counted : (v.applyGate isOpen f).finished.ctr.frames = (v.applyGate isOpen f).ctr.frames :=
    effect .framesCtr (by decide)
  have uncounted : v.ctr.frames = s.ctr.frames := told.only .framesCtr (by decide)
  refine ⟨(v.applyGate isOpen f).finished, congrArg Host.Outcome.next ran, ?_, ?_, ?_⟩
  · rw [effect.trunk_same, applied.trunk_same, told.queue]
  · rw [effect.mem_same, applied.mem_same, told.state]
  rw [after, counted]
  by_cases move : moves
  · have moved : isOpen ≠ v.frames.gateOpen ∨ extendFrame v.area v.currentFrame f < v.frames.gateFrame := by
      rw [at_g, before]
      exact move
    rw [applyGate_moves moved, at_g, before]
    exact ⟨rfl, rfl, fun _ => ⟨rfl, rfl, uncounted⟩, fun stays => absurd move stays, rfl⟩
  · have stayed : ¬ (isOpen ≠ v.frames.gateOpen ∨ extendFrame v.area v.currentFrame f < v.frames.gateFrame) := by
      rw [at_g, before]
      exact move
    have shut : ¬ (isOpen = true ∧ s.frames.gateOpen = false) := by
      rintro ⟨opens, closed⟩
      exact move (.inl (by rw [opens, closed]; decide))
    rw [applyGate_stays stayed, if_neg shut, bump_frames, before]
    refine ⟨rfl, rfl, fun moved => absurd moved move, fun _ => ⟨rfl, rfl, ?_⟩, rfl⟩
    rw [← uncounted]
    rfl

/-- Settles O40: the channel after the grant, by whether the station has it and whether it is complete. -/
theorem grantJoinsQueue : Obligations.GrantJoinsQueue := by
  intro t s q c seq base latch rest queue inside sender ch fits
  obtain ⟨v, told, ran⟩ := process_applied (r := { sender := q, note := .grant c seq base, latch := latch }) queue
    (wanted := fun n => n.kind == .grant) rfl rfl inside sender t
  have channels : v.frames.channels = s.frames.channels := by rw [told.frames]
  have channel : v.frames.channels[c] = ch := by rw [channels]
  have uncounted : v.ctr.frames = s.ctr.frames := told.only .framesCtr (by decide)
  have ran' : exec (.processGrant t) s = .next (v.applyGrant c seq base).finished := congrArg Host.Outcome.next ran
  have kept (w : State) : w.finished.frames.channels = w.frames.channels ∧ w.finished.ctr.frames = w.ctr.frames
      ∧ w.finished.mem = w.mem ∧ w.finished.trunk = w.trunk :=
    ⟨finished_only w .channels (by decide), finished_only w .framesCtr (by decide), (finished_only w).mem_same,
      (finished_only w).trunk_same⟩
  rw [ran']
  refine ⟨fun unknown => ⟨_, rfl, ?_⟩, fun known complete fit => ⟨_, rfl, ?_⟩,
    fun known complete crowded => ⟨_, rfl, ?_⟩, fun known incomplete => ⟨_, rfl, ?_⟩⟩
  · obtain ⟨same_channels, same_ctr, _, same_trunk⟩ := kept (v.applyGrant c seq base)
    rw [same_channels, same_ctr, same_trunk, applyGrant_unknown (told.area ▸ unknown)]
    exact ⟨told.queue, channels, congrArg (fun f : FrameCounters => { f with grantsIgnored := f.grantsIgnored + 1 }) uncounted⟩
  · obtain ⟨same_channels, same_ctr, same_mem, same_trunk⟩ := kept (v.applyGrant c seq base)
    rw [same_channels, same_ctr, same_mem, same_trunk,
      applyGrant_appended (told.area ▸ known) (channel ▸ complete) (channel ▸ (canAppend_iff ch seq).mpr fit), channel]
    refine ⟨told.queue, told.state, uncounted, ?_⟩
    rw [← channels]
    exact congrArg (v.frames.channels.set c) (congrArg (fun l => ({ ch with
      queue := ch.queue ++ [{ seq := seq, base := base }], lastSeen := l
      nextSeq := if seqAbove ch.nextSeq (seq + 1) then ch.nextSeq else seq + 1 } : Channel)) (raiseSeq_eq ch.lastSeen seq))
  · obtain ⟨same_channels, same_ctr, same_mem, same_trunk⟩ := kept (v.applyGrant c seq base)
    rw [same_channels, faultSet_of_only (finished_only _), same_mem,
      applyGrant_desync (told.area ▸ known) (channel ▸ complete) (channel ▸ fun fit => crowded ((canAppend_iff ch seq).mp fit))]
    refine ⟨(desync_only v .channels (by decide)).trans channels, desync_faultSet v, ?_⟩
    rw [desync_state, told.state]
    obtain member | leaving := inside
    · rw [if_pos member, if_pos member]
    · rw [leaving]
  · obtain ⟨same_channels, same_ctr, same_mem, same_trunk⟩ := kept (v.applyGrant c seq base)
    rw [same_channels, same_ctr, same_mem, applyGrant_incomplete (told.area ▸ known) (channel ▸ incomplete), channel]
    obtain ⟨complete, below, short, fewer⟩ := makeRoom_spec ch seq
    have stored : ((v.setChannel c ((ch.makeRoom seq).append seq base)).frames.channels)[c]
        = (ch.makeRoom seq).append seq base := Vector.getElem_set_self ..
    rw [bump_mem, bump_frames, stored]
    have joined : ((ch.makeRoom seq).append seq base).queue
        = (ch.makeRoom seq).queue ++ [{ seq := seq, base := base }] := rfl
    rw [joined, List.dropLast_concat, List.getLast?_concat, List.length_append, List.length_singleton]
    refine ⟨told.state, complete.trans incomplete, rfl, below, fun few => short few, ?_⟩
    rw [← uncounted, Nat.add_sub_add_right]
    rfl

end Sys2Proof

/-! The processing of a SIGNAL (R162, R166, R168): one output after another, and the flags of the frame's legs. -/

namespace Sys2Proof.Machine

-- One proof at a time: the proofs of many statements at once take more threads than the memory holds.
set_option Elab.async false

/-! ### One output -/

/-- What an output's handling of a SIGNAL reads is the same in both states. -/
structure SameOutput (j : Fin 4) (s u : State) : Prop where
  area : u.area = s.area
  line : u.pos.lineIndex = s.pos.lineIndex
  output : u.signals.outputs[j] = s.signals.outputs[j]
  counts : u.ctr.outputs[j] = s.ctr.outputs[j]

theorem SameOutput.trans {j : Fin 4} {s u v : State} (first : SameOutput j s u) (second : SameOutput j u v) :
    SameOutput j s v :=
  ⟨second.area.trans first.area, second.line.trans first.line, second.output.trans first.output,
    second.counts.trans first.counts⟩

theorem setOutputState_same (s : State) (j : Fin 4) (o : Output) : (s.setOutputState j o).signals.outputs[j] = o :=
  Vector.getElem_set_self ..

theorem setOutputState_of_ne (s : State) {i j : Fin 4} (other : j ≠ i) (o : Output) :
    (s.setOutputState i o).signals.outputs[j] = s.signals.outputs[j] :=
  getElem_set_of_ne s.signals.outputs o other

theorem countOutput_of_ne {i j : Fin 4} (other : j ≠ i) (f : OutputCounters → OutputCounters) (c : Counters) :
    (countOutput i f c).outputs[j] = c.outputs[j] := getElem_set_of_ne c.outputs _ other

/-- A SIGNAL at a FOLLOW output, case by case. -/
theorem takeFollow_eq (s : State) (j : Fin 4) (x : Nat) (v : Bool) : s.takeFollow j x v =
    (let start := x + cfgOutputOffset s.area j
     let o := s.signals.outputs[j]
     if lastLine s.area < start then s.bump (countOutput j fun c => { c with outOfRange := c.outOfRange + 1 })
     else if start ≤ s.pos.lineIndex then
       if o.lastApplied.any fun last => decide (start < last) then
         s.bump (countOutput j fun c => { c with lateSkipped := c.lateSkipped + 1 })
       else (s.setOutputState j { o with follow := v, lastApplied := some start }).bump
         (countOutput j fun c => { c with lateApplied := c.lateApplied + 1 })
     else if o.changes.any fun c => c.1 == start then
       (s.setOutputState j { o with changes := o.changes.map fun c => if c.1 = start then (start, v) else c }).bump
         (countOutput j fun c => { c with entriesMerged := c.entriesMerged + 1 })
     else if 8 ≤ o.changes.length then
       (s.bump (countOutput j fun c => { c with scheduleFull := c.scheduleFull + 1 })).raise .markOverrun
     else (s.setOutputState j { o with changes := insertByStart (start, v) o.changes }).bump
       (countOutput j fun c => { c with entriesInserted := c.entriesInserted + 1 })) := rfl

theorem takeFollow_congr {j : Fin 4} {s u : State} (same : SameOutput j s u) (x : Nat) (v : Bool) :
    (u.takeFollow j x v).signals.outputs[j] = (s.takeFollow j x v).signals.outputs[j]
      ∧ (u.takeFollow j x v).ctr.outputs[j] = (s.takeFollow j x v).ctr.outputs[j] := by
  rw [takeFollow_eq, takeFollow_eq]
  dsimp only
  rw [same.area, same.line, same.output]
  split_ifs
  all_goals simp only [countOutput_same, setOutputState_same, setOutputState_ctr, bump_ctr, bump_signals, raise_signals,
    raise_outputsCtr, same.output, same.counts, and_self]

theorem takePulse_congr {j : Fin 4} {s u : State} (same : SameOutput j s u) (x : Nat) :
    (u.takePulse j x).signals.outputs[j] = (s.takePulse j x).signals.outputs[j]
      ∧ (u.takePulse j x).ctr.outputs[j] = (s.takePulse j x).ctr.outputs[j] := by
  rw [takePulse_eq, takePulse_eq]
  dsimp only
  have range : u.pulseRange j x = s.pulseRange j x := by
    unfold State.pulseRange
    rw [same.area]
  rw [range, same.area, same.line, same.output]
  split_ifs
  all_goals simp only [(rangesTaken_output _ _ _ _ _).1, (rangesTaken_output _ _ _ _ _).2, bump_ctr, bump_signals,
    countOutput_same, raise_signals, raise_outputsCtr, same.output, same.counts, same.line, and_self]

theorem takeSignal_congr {j : Fin 4} {s u : State} (same : SameOutput j s u) (id : BitVec 4) (level : Bool) (x : Nat) :
    (u.takeSignal j id level x).signals.outputs[j] = (s.takeSignal j id level x).signals.outputs[j]
      ∧ (u.takeSignal j id level x).ctr.outputs[j] = (s.takeSignal j id level x).ctr.outputs[j] := by
  unfold State.takeSignal
  rw [same.area]
  split
  · cases cfgOutputMode s.area j
    case pulse => exact takePulse_congr same x
    case follow => exact takeFollow_congr same x level
    all_goals exact ⟨same.output, same.counts⟩
  · exact ⟨same.output, same.counts⟩

/-! ### The outputs one after another -/

theorem lateCounted_of_ne (s : State) {i j : Fin 4} (other : j ≠ i) (start n : Nat) :
    (s.lateCounted i start n).signals = s.signals ∧ (s.lateCounted i start n).ctr.outputs[j] = s.ctr.outputs[j] := by
  unfold State.lateCounted
  split
  · exact ⟨rfl, countOutput_of_ne other _ _⟩
  · exact ⟨rfl, rfl⟩

/-- A SIGNAL at an output is nothing to another one. -/
theorem takeSignal_of_ne (s : State) {i j : Fin 4} (other : j ≠ i) (id : BitVec 4) (level : Bool) (x : Nat) :
    SameOutput j s (s.takeSignal i id level x) := by
  have only := takeSignal_only s i id level x
  suffices same : (s.takeSignal i id level x).signals.outputs[j] = s.signals.outputs[j]
      ∧ (s.takeSignal i id level x).ctr.outputs[j] = s.ctr.outputs[j] from
    ⟨only.area_eq.1, by rw [only.pos_same], same.1, same.2⟩
  have ranges (r : List (Nat × Nat)) (start : Nat) (f : OutputCounters → OutputCounters) :
      (s.rangesTaken i r start f).signals.outputs[j] = s.signals.outputs[j]
        ∧ (s.rangesTaken i r start f).ctr.outputs[j] = s.ctr.outputs[j] := by
    unfold State.rangesTaken
    rw [(lateCounted_of_ne _ other _ _).1, (lateCounted_of_ne _ other _ _).2]
    exact ⟨setOutputState_of_ne s other _, countOutput_of_ne other _ _⟩
  unfold State.takeSignal
  split
  · split
    · rw [takePulse_eq]
      dsimp only
      split_ifs
      all_goals simp only [ranges, bump_ctr, bump_signals, countOutput_of_ne other, raise_signals, raise_outputsCtr,
        and_self]
    · rw [takeFollow_eq]
      dsimp only
      split_ifs
      all_goals simp only [setOutputState_of_ne s other, setOutputState_ctr, bump_ctr, bump_signals,
        countOutput_of_ne other, raise_signals, raise_outputsCtr, and_self]
    all_goals exact ⟨rfl, rfl⟩
  · exact ⟨rfl, rfl⟩

/-- A SIGNAL at an output clears no fault. -/
theorem takeSignal_faultSet {s : State} {k : FaultKind} (set : s.faultSet k = true) (j : Fin 4) (id : BitVec 4)
    (level : Bool) (x : Nat) : (s.takeSignal j id level x).faultSet k = true := by
  have raised (f : Counters → Counters) (n : FaultKind) : ((s.bump f).raise n).faultSet k = true := by
    unfold State.faultSet at set ⊢
    rw [raise_faults, bump_window, BitVec.getLsbD_or, set, Bool.true_or]
  have ranges (r : List (Nat × Nat)) (start : Nat) (f : OutputCounters → OutputCounters) :
      (s.rangesTaken j r start f).faultSet k = true := by
    unfold State.rangesTaken State.lateCounted
    split <;> exact set
  unfold State.takeSignal
  split
  · split
    · rw [takePulse_eq]
      dsimp only
      split_ifs
      · exact set
      · exact set
      · exact ranges _ _ _
      · exact raised _ _
      · exact ranges _ _ _
    · rw [takeFollow_eq]
      dsimp only
      split_ifs
      · exact set
      · exact set
      · exact set
      · exact set
      · exact raised _ _
      · exact set
    all_goals exact set
  · exact set

/-- The outputs take a SIGNAL in turn: at an output among them, as it would alone. -/
theorem takeSignals_at {l : List (Fin 4)} (distinct : l.Nodup) {j : Fin 4} (within : j ∈ l) (s : State) (id : BitVec 4)
    (level : Bool) (x : Nat) : ∃ u, SameOutput j s u
      ∧ SameOutput j (u.takeSignal j id level x) (l.foldl (fun s j => s.takeSignal j id level x) s)
      ∧ ∀ k, (u.takeSignal j id level x).faultSet k = true →
          (l.foldl (fun s j => s.takeSignal j id level x) s).faultSet k = true := by
  have after (l : List (Fin 4)) (out : j ∉ l) (s : State) :
      SameOutput j s (l.foldl (fun s j => s.takeSignal j id level x) s)
        ∧ ∀ k, s.faultSet k = true → (l.foldl (fun s j => s.takeSignal j id level x) s).faultSet k = true := by
    induction l generalizing s with
    | nil => exact ⟨⟨rfl, rfl, rfl, rfl⟩, fun _ set => set⟩
    | cons i l ih =>
      obtain ⟨other, out'⟩ := not_or.mp (mt List.mem_cons.mpr out)
      obtain ⟨same, kept⟩ := ih out' (s.takeSignal i id level x)
      exact ⟨(takeSignal_of_ne s other id level x).trans same, fun k set =>
        kept k (takeSignal_faultSet set i id level x)⟩
  induction l generalizing s with
  | nil => exact absurd within List.not_mem_nil
  | cons i l ih =>
    obtain ⟨apart, distinct'⟩ := List.nodup_cons.mp distinct
    obtain rfl | later := List.mem_cons.mp within
    · exact ⟨s, ⟨rfl, rfl, rfl, rfl⟩, after l apart _⟩
    · obtain ⟨u, before, same, kept⟩ := ih distinct' later (s.takeSignal i id level x)
      have other : j ≠ i := fun same => apart (same ▸ later)
      exact ⟨u, (takeSignal_of_ne s other id level x).trans before, same, kept⟩

theorem takeSignal_follow {s : State} {j : Fin 4} (follow : cfgOutputMode s.area j = .follow) (level : Bool) (x : Nat) :
    s.takeSignal j (cfgOutputId s.area j) level x = s.takeFollow j x level := by
  unfold State.takeSignal
  rw [if_pos rfl, follow]

section Follow

variable {s : State} {j : Fin 4} {x : Nat} {v : Bool}

theorem takeFollow_out (beyond : lastLine s.area < x + cfgOutputOffset s.area j) :
    s.takeFollow j x v = s.bump (countOutput j fun c => { c with outOfRange := c.outOfRange + 1 }) := by
  rw [takeFollow_eq]
  exact if_pos beyond

variable (within : x + cfgOutputOffset s.area j ≤ lastLine s.area)
include within

theorem takeFollow_skipped (begun : x + cfgOutputOffset s.area j ≤ s.pos.lineIndex)
    (newer : ∃ last, s.signals.outputs[j].lastApplied = some last ∧ x + cfgOutputOffset s.area j < last) :
    s.takeFollow j x v = s.bump (countOutput j fun c => { c with lateSkipped := c.lateSkipped + 1 }) := by
  obtain ⟨last, applied, later⟩ := newer
  rw [takeFollow_eq]
  dsimp only
  rw [if_neg within.not_gt, if_pos begun, applied]
  exact if_pos (decide_eq_true later)

theorem takeFollow_late (begun : x + cfgOutputOffset s.area j ≤ s.pos.lineIndex)
    (newest : ∀ last, s.signals.outputs[j].lastApplied = some last → last ≤ x + cfgOutputOffset s.area j) :
    s.takeFollow j x v = (s.setOutputState j { s.signals.outputs[j] with
      follow := v, lastApplied := some (x + cfgOutputOffset s.area j) }).bump
        (countOutput j fun c => { c with lateApplied := c.lateApplied + 1 }) := by
  rw [takeFollow_eq]
  dsimp only
  rw [if_neg within.not_gt, if_pos begun, if_neg]
  intro newer
  obtain ⟨last, applied, later⟩ := (Option.any_eq_true ..).mp newer
  exact (newest last applied).not_gt (of_decide_eq_true later)

variable (ahead : s.pos.lineIndex < x + cfgOutputOffset s.area j)
include ahead

theorem takeFollow_merged (met : ∃ e ∈ s.signals.outputs[j].changes, e.1 = x + cfgOutputOffset s.area j) :
    s.takeFollow j x v = (s.setOutputState j { s.signals.outputs[j] with
      changes := s.signals.outputs[j].changes.map fun e =>
        if e.1 = x + cfgOutputOffset s.area j then (x + cfgOutputOffset s.area j, v) else e }).bump
        (countOutput j fun c => { c with entriesMerged := c.entriesMerged + 1 }) := by
  rw [takeFollow_eq]
  dsimp only
  rw [if_neg within.not_gt, if_neg ahead.not_ge, if_pos]
  simpa only [List.any_eq_true, beq_iff_eq] using met

variable (unmet : ∀ e ∈ s.signals.outputs[j].changes, e.1 ≠ x + cfgOutputOffset s.area j)
include unmet

theorem takeFollow_full (full : 8 ≤ s.signals.outputs[j].changes.length) :
    s.takeFollow j x v
      = (s.bump (countOutput j fun c => { c with scheduleFull := c.scheduleFull + 1 })).raise .markOverrun := by
  rw [takeFollow_eq]
  dsimp only
  rw [if_neg within.not_gt, if_neg ahead.not_ge, if_neg, if_pos full]
  simpa only [List.any_eq_true, beq_iff_eq, not_exists, not_and] using unmet

theorem takeFollow_inserted (room : s.signals.outputs[j].changes.length < 8) :
    s.takeFollow j x v = (s.setOutputState j { s.signals.outputs[j] with
      changes := insertByStart (x + cfgOutputOffset s.area j, v) s.signals.outputs[j].changes }).bump
        (countOutput j fun c => { c with entriesInserted := c.entriesInserted + 1 }) := by
  rw [takeFollow_eq]
  dsimp only
  rw [if_neg within.not_gt, if_neg ahead.not_ge, if_neg, if_neg room.not_ge]
  simpa only [List.any_eq_true, beq_iff_eq, not_exists, not_and] using unmet

end Follow

/-! ### The flags of the frame's legs (R168) -/

theorem entryFor_congr {s u : State} (slots : u.frames.slots = s.frames.slots) (k : Nat) : u.entryFor k = s.entryFor k := by
  unfold State.entryFor
  rw [slots]

theorem setFlag_missed {s : State} {x : Nat} (missed : s.entryFor (frameOf s.area x) = none) (i : Nat) :
    s.setFlag i x = s.bump (countSignals fun c => { c with flagMissed := c.flagMissed + 1 }) := by
  unfold State.setFlag
  dsimp only
  rw [missed]

/-- A pending leg with flag i set (R168). -/
def Leg.flagged (l : Leg) (i : Nat) : Leg :=
  if l.status = .pending then { l with flags := l.flags ||| (1#8 <<< i) } else l

theorem setFlag_known {s : State} {x : Nat} {e : Entry} (known : s.entryFor (frameOf s.area x) = some e) (i : Nat) :
    s.setFlag i x = (s.setSlot (slotOf (frameOf s.area x)) (.known { e with legs := e.legs.map fun l => l.flagged i })).bump
      (countSignals fun c => { c with flagsSet := c.flagsSet + 1 }) := by
  unfold State.setFlag
  dsimp only
  rw [known]
  rfl

theorem setFlag_legAt {s : State} {x : Nat} {e : Entry} (known : s.entryFor (frameOf s.area x) = some e) (i : Nat)
    (j : Fin 2) {l : Leg} (leg : s.legAt (slotOf (frameOf s.area x)) j = some l) :
    (s.setFlag i x).legAt (slotOf (frameOf s.area x)) j = some (l.flagged i) := by
  rw [legAt_known (entryFor_eq_some known).1, Option.some.injEq] at leg
  rw [setFlag_known known, ← leg]
  refine (setSlot_legAt_same s _ _ j).trans (congrArg some ?_)
  exact getElem_map_fin (fun l => Leg.flagged l i) e.legs j

/-! ### The effects of a SIGNAL (R162) -/

/-- The outputs have taken a SIGNAL, unless delivery is closed (R162, R169). -/
def State.signalled (s : State) (id : BitVec 4) (level : Bool) (x : Nat) : State :=
  if s.closed then s else (List.finRange 4).foldl (fun s j => s.takeSignal j id level x) s

theorem signalled_only (s : State) (id : BitVec 4) (level : Bool) (x : Nat) :
    Only outputPieces s (s.signalled id level x) := takeSignals_only s id level x

theorem applySignal_eq (s : State) (id : BitVec 4) (level : Bool) (line : Word) : s.applySignal id level line
    = (if id.toNat < 8 then (s.signalled id level line.toNat).setFlag id.toNat line.toNat
      else s.signalled id level line.toNat).bump (countSignals fun c => { c with signalsApplied := c.signalsApplied + 1 }) :=
  rfl

theorem signalled_entryFor (s : State) (id : BitVec 4) (level : Bool) (x k : Nat) :
    (s.signalled id level x).entryFor k = s.entryFor k := entryFor_congr (signalled_only s id level x).slots_same k

theorem applySignal_counts (s : State) (id : BitVec 4) (level : Bool) (line : Word) :
    (s.applySignal id level line).ctr.signals = { s.ctr.signals with
      signalsApplied := s.ctr.signals.signalsApplied + 1
      flagsSet := s.ctr.signals.flagsSet
        + (if id.toNat < 8 ∧ s.entryFor (frameOf s.area line.toNat) ≠ none then 1 else 0)
      flagMissed := s.ctr.signals.flagMissed
        + (if id.toNat < 8 ∧ s.entryFor (frameOf s.area line.toNat) = none then 1 else 0) } := by
  have same : (s.signalled id level line.toNat).ctr.signals = s.ctr.signals := signalled_only s _ _ _ .signalsCtr (by decide)
  have entry := signalled_entryFor s id level line.toNat (frameOf s.area line.toNat)
  rw [applySignal_eq, ← (signalled_only s id level line.toNat).area_eq.1, ← same] at *
  generalize s.signalled id level line.toNat = v at *
  by_cases flag : id.toNat < 8
  · rw [if_pos flag]
    cases known : v.entryFor (frameOf v.area line.toNat) with
    | none =>
      rw [setFlag_missed known, ← entry, known]
      simp [flag, countSignals]
    | some e =>
      rw [setFlag_known known, ← entry, known]
      simp [flag, countSignals]
  · rw [if_neg flag]
    simp [flag, countSignals]

theorem applySignal_legAt (s : State) {id : BitVec 4} (flag : id.toNat < 8) (level : Bool) (line : Word)
    (known : s.entryFor (frameOf s.area line.toNat) ≠ none) (j : Fin 2) {l : Leg}
    (leg : s.legAt (slotOf (frameOf s.area line.toNat)) j = some l) :
    (s.applySignal id level line).legAt (slotOf (frameOf s.area line.toNat)) j = some (l.flagged id.toNat) := by
  obtain ⟨e, found⟩ := Option.ne_none_iff_exists'.mp known
  have only := signalled_only s id level line.toNat
  have leg' : (s.signalled id level line.toNat).legAt (slotOf (frameOf s.area line.toNat)) j = some l :=
    (legAt_of_slots (by rw [only.slots_same]) j).trans leg
  rw [← only.area_eq.1] at *
  rw [applySignal_eq, if_pos flag]
  exact setFlag_legAt ((signalled_entryFor s id level line.toNat _).trans found) id.toNat j leg'

theorem applySignal_signals (s : State) (id : BitVec 4) (level : Bool) (line : Word) :
    (s.applySignal id level line).signals = (s.signalled id level line.toNat).signals
      ∧ (s.applySignal id level line).ctr.outputs = (s.signalled id level line.toNat).ctr.outputs
      ∧ ∀ k, (s.applySignal id level line).faultSet k = (s.signalled id level line.toNat).faultSet k := by
  rw [applySignal_eq]
  split
  · have only := setFlag_only (s.signalled id level line.toNat) id.toNat line.toNat
    exact ⟨only.signals_same, only .outputsCtr (by decide), faultSet_of_only only⟩
  · exact ⟨rfl, rfl, fun _ => rfl⟩

end Sys2Proof.Machine

namespace Sys2Proof

open Machine

/-- Settles O34: the processing of the note, the legs by `applySignal_legAt`, the outputs by `takeSignals_at`. -/
theorem signalApplied : Obligations.SignalApplied := by
  intro t s p id level origin line latch rest queue inside sender k known
  obtain ⟨v, told, ran⟩ := process_applied (r := { sender := p, note := .signal id level origin line, latch := latch })
    queue
    (wanted := fun n => n.kind == .signal) rfl rfl inside sender t
  have effect := finished_only (v.applySignal id level line)
  have applied := applySignal_only v id level line
  have counted : (v.applySignal id level line).finished.ctr.signals = (v.applySignal id level line).ctr.signals :=
    effect .signalsCtr (by decide)
  have signals : (v.applySignal id level line).finished.signals = (v.applySignal id level line).signals :=
    effect.signals_same
  have outputs : (v.applySignal id level line).finished.ctr.outputs = (v.applySignal id level line).ctr.outputs :=
    effect .outputsCtr (by decide)
  have uncounted : v.ctr.signals = s.ctr.signals := told.only .signalsCtr (by decide)
  have slots : v.frames.slots = s.frames.slots := told.only.slots_same
  have entry : v.entryFor (frameOf v.area line.toNat) = s.entryFor k := by
    rw [told.area]
    exact entryFor_congr slots _
  obtain ⟨signals', outputs', faults'⟩ := applySignal_signals v id level line
  have alone (j : Fin 4) (opened : s.closed = false) : ∃ u, SameOutput j s u
      ∧ SameOutput j (u.takeSignal j id level line.toNat) (v.signalled id level line.toNat)
      ∧ ∀ k, (u.takeSignal j id level line.toNat).faultSet k = true →
          (v.applySignal id level line).finished.faultSet k = true := by
    have at_told : SameOutput j s v := ⟨told.area, by rw [told.pos], by rw [told.only.signals_same],
      by rw [show v.ctr.outputs = s.ctr.outputs from told.only .outputsCtr (by decide)]⟩
    obtain ⟨u, before, after, kept⟩ := takeSignals_at (List.nodup_finRange 4) (List.mem_finRange j) v id level line.toNat
    have taken : v.signalled id level line.toNat
        = (List.finRange 4).foldl (fun s j => s.takeSignal j id level line.toNat) v :=
      if_neg (by rw [told.closed, opened]; decide)
    refine ⟨u, at_told.trans before, taken ▸ after, fun k set => ?_⟩
    rw [faultSet_of_only effect, faults', taken]
    exact kept k set
  have as_alone (j : Fin 4) (opened : s.closed = false) :
      (v.applySignal id level line).finished.signals.outputs[j] = (s.takeSignal j id level line.toNat).signals.outputs[j]
        ∧ (v.applySignal id level line).finished.ctr.outputs[j] = (s.takeSignal j id level line.toNat).ctr.outputs[j] := by
    obtain ⟨u, before, after, _⟩ := alone j opened
    obtain ⟨output, counts⟩ := takeSignal_congr before id level line.toNat
    rw [signals, signals', outputs, outputs']
    exact ⟨after.output.trans output, after.counts.trans counts⟩
  have tallied := counted.trans (applySignal_counts v id level line)
  rw [uncounted, entry] at tallied
  refine ⟨(v.applySignal id level line).finished, congrArg Host.Outcome.next ran, ?_, ?_,
    congrArg SignalCounters.signalsApplied tallied, congrArg SignalCounters.flagsSet tallied,
    congrArg SignalCounters.flagMissed tallied, ?_, ?_, fun opened j => as_alone j opened, ?_⟩
  · rw [effect.trunk_same, applied.trunk_same, told.queue]
  · rw [effect.mem_same, applied.mem_same, told.state]
  · intro flag entered j l leg
    have place : slotOf (frameOf v.area line.toNat) = slotOf k := by rw [told.area]; rfl
    have leg' := applySignal_legAt v flag level line (entry ▸ entered) j
      (place ▸ (legAt_of_slots (by rw [slots]) j).trans leg)
    rw [place] at leg'
    obtain ⟨l', at_l', same⟩ := effect.leg_eq leg'
    refine ⟨l', at_l', ?_, ?_⟩
    · rw [← show (l.flagged id.toNat).status = l'.status from (congrArg Leg.status same :)]
      unfold Leg.flagged
      split <;> rfl
    · rw [← show (l.flagged id.toNat).flags = l'.flags from (congrArg Leg.flags same :)]
      unfold Leg.flagged
      split <;> rfl
  · intro shut
    have still : v.signalled id level line.toNat = v := if_pos (told.closed.trans shut)
    rw [signals, signals', outputs, outputs', still]
    exact ⟨told.only.signals_same, told.only .outputsCtr (by decide)⟩
  · intro opened j follow subscribes
    obtain ⟨output, counts⟩ := as_alone j opened
    have taken (w : State) (area : w.area = s.area) : w.takeSignal j id level line.toNat = w.takeFollow j line.toNat level := by
      rw [← area] at follow subscribes
      rw [← subscribes]
      exact takeSignal_follow follow level line.toNat
    rw [taken s rfl] at output counts
    dsimp only
    rw [output, counts]
    refine ⟨fun beyond => ?_, fun within begun newer => ?_, fun within begun newest => ?_, fun within ahead met => ?_,
      fun within ahead unmet full => ?_, fun within ahead unmet room => ?_⟩
    · rw [takeFollow_out beyond]
      exact ⟨rfl, countOutput_same ..⟩
    · rw [takeFollow_skipped within begun newer]
      exact ⟨rfl, countOutput_same ..⟩
    · rw [takeFollow_late within begun newest]
      exact ⟨setOutputState_same .., countOutput_same ..⟩
    · rw [takeFollow_merged within ahead met]
      exact ⟨setOutputState_same .., countOutput_same ..⟩
    · obtain ⟨u, before, _, kept⟩ := alone j opened
      rw [takeFollow_full within ahead unmet full]
      refine ⟨by rw [raise_signals]; rfl, by rw [raise_outputsCtr]; exact countOutput_same .., kept _ ?_⟩
      rw [taken u before.area, takeFollow_full (by rw [before.area]; exact within) (by rw [before.area, before.line]; exact ahead)
        (by rw [before.area, before.output]; exact unmet) (by rw [before.output]; exact full)]
      exact raise_faultSet ..
    · rw [takeFollow_inserted within ahead unmet room]
      rw [show ((s.setOutputState j _).bump _).signals.outputs[j] = _ from setOutputState_same ..]
      exact ⟨rfl, fun e => mem_insertByStart .., insertByStart_ordered unmet, countOutput_same ..⟩

end Sys2Proof

/-! The completion of a leg (R144 to R151): what the test of a leg leaves, and the processing of a DONE. -/

namespace Sys2Proof.Machine

-- One proof at a time: the proofs of many statements at once take more threads than the memory holds.
set_option Elab.async false

/-! ### A completed leg (R147 to R149) -/

theorem beginRecord_ctr (s : State) : s.beginRecord.ctr = s.ctr := by
  unfold State.beginRecord
  split
  · rfl
  · rfl

theorem offerRecord_recordsCtr (s : State) (r : FrameRecord) : (s.offerRecord r).ctr.records = { s.ctr.records with
    recordsQueued := (s.offerRecord r).ctr.records.recordsQueued
    recordLost := (s.offerRecord r).ctr.records.recordLost
    recordOverflows := (s.offerRecord r).ctr.records.recordOverflows } := by
  unfold State.offerRecord
  split
  · rfl
  · split
    · dsimp only
      split
      · rw [beginRecord_ctr]; rfl
      · rfl
    · rfl

theorem offerRecord_slots (s : State) (r : FrameRecord) : (s.offerRecord r).frames.slots = s.frames.slots :=
  (offerRecord_only s r).slots_same

/-- What the poster's part of a completion counts, and that it leaves the frame table (R147, R148). -/
theorem postLeg_values {s : State} {i : Fin 8} {e : Entry} (known : s.frames.slots[i] = .known e) (j : Fin 2)
    (poster : Option Station) : (s.postLeg i j poster).frames.slots = s.frames.slots
      ∧ (s.postLeg i j poster).ctr.records = { s.ctr.records with
        recordsQueued := (s.postLeg i j poster).ctr.records.recordsQueued
        recordLost := (s.postLeg i j poster).ctr.records.recordLost
        recordOverflows := (s.postLeg i j poster).ctr.records.recordOverflows
        legsUnposted := s.ctr.records.legsUnposted + (if poster = none then 1 else 0)
        recordsBuilt := s.ctr.records.recordsBuilt + (if poster = some s.self then 1 else 0) } := by
  unfold State.postLeg
  cases poster with
  | none => exact ⟨rfl, by simp [countRecords]⟩
  | some p =>
    dsimp only
    by_cases own : p = s.self
    · rw [if_pos own, known]
      refine ⟨offerRecord_slots _ _, ?_⟩
      rw [offerRecord_recordsCtr]
      simp [countRecords, own]
    · rw [if_neg own]
      exact ⟨rfl, by simp [own]⟩

/-- A completed leg, retired (R149). -/
def Leg.retired (l : Leg) : Leg :=
  { l with status := .retired, delivered := 0, void := 0, removed := 0, gapTotal := 0, flags := 0, own := none }

theorem retireLeg_known {s : State} {i : Fin 8} {e : Entry} (known : s.frames.slots[i] = .known e) (j : Fin 2) :
    s.retireLeg i j = (if ((e.setLeg j e.legs[j].retired).legs[(0 : Fin 2)]).settled
        && ((e.setLeg j e.legs[j].retired).legs[(1 : Fin 2)]).settled then
      (((s.dropFlush i j).bump (countRecords fun c => { c with legsRetired := c.legsRetired + 1 })).setSlot i .free).bump
        (countRecords fun c => { c with slotsFreed := c.slotsFreed + 1 })
    else ((s.dropFlush i j).bump (countRecords fun c => { c with legsRetired := c.legsRetired + 1 })).setSlot i
      (.known (e.setLeg j e.legs[j].retired))) := by
  unfold State.retireLeg
  rw [known]
  rfl

/-- Places of a table: the leg of one has changed, to a retired one or to none; no other pending leg has, and no new leg
stands. -/
structure RetiredAt (s u : State) (i : Fin 8) (j : Fin 2) : Prop where
  here : ∀ l, u.legAt i j = some l → l.status = .retired
  pending : ∀ n m l, ¬ (n = i ∧ m = j) → s.legAt n m = some l → l.status = .pending → u.legAt n m = some l
  old : ∀ n m l, ¬ (n = i ∧ m = j) → u.legAt n m = some l → s.legAt n m = some l

theorem settled_of_pending {l : Leg} (pending : l.status = .pending) : l.settled = false := by
  simp [Leg.settled, pending]

theorem retireLeg_values {s : State} {i : Fin 8} {e : Entry} (known : s.frames.slots[i] = .known e) (j : Fin 2) :
    RetiredAt s (s.retireLeg i j) i j ∧ (s.retireLeg i j).ctr.records = { s.ctr.records with
      legsRetired := s.ctr.records.legsRetired + 1
      slotsFreed := (s.retireLeg i j).ctr.records.slotsFreed } := by
  rw [retireLeg_known known]
  have elsewhere (x : Slot) {n : Fin 8} (other : n ≠ i) (m : Fin 2) :
      (((s.dropFlush i j).bump (countRecords fun c => { c with legsRetired := c.legsRetired + 1 })).setSlot i x).legAt n m
        = s.legAt n m := setSlot_legAt_of_ne _ x other m
  have here (x : Slot) (m : Fin 2) :
      (((s.dropFlush i j).bump (countRecords fun c => { c with legsRetired := c.legsRetired + 1 })).setSlot i x).legAt i m
        = x.entry.map fun e => e.legs[m] := setSlot_legAt_same _ i x m
  split
  · next settled =>
    refine ⟨⟨fun l at_l => ?_, fun n m l apart at_l pending => ?_, fun n m l apart at_l => ?_⟩, rfl⟩
    · exact absurd ((here .free j).symm.trans at_l) nofun
    · by_cases same : n = i
      · subst same
        have other : m ≠ j := fun same => apart ⟨rfl, same⟩
        rw [legAt_known known, Option.some.injEq] at at_l
        have waits : ((e.setLeg j e.legs[j].retired).legs[m]).settled = false := by
          rw [setLeg_legs_of_ne e _ other, at_l]
          exact settled_of_pending pending
        rw [Bool.and_eq_true] at settled
        obtain rfl | rfl : m = 0 ∨ m = 1 := by omega
        · exact absurd settled.1 (by rw [waits]; decide)
        · exact absurd settled.2 (by rw [waits]; decide)
      · exact (elsewhere .free same m).trans at_l
    · by_cases same : n = i
      · subst same
        exact absurd ((here .free m).symm.trans at_l) nofun
      · exact (elsewhere .free same m).symm.trans at_l
  · refine ⟨⟨fun l at_l => ?_, fun n m l apart at_l pending => ?_, fun n m l apart at_l => ?_⟩, rfl⟩
    · rw [here] at at_l
      rw [← Option.some.inj at_l]
      exact congrArg Leg.status (setLeg_legs_same ..)
    · by_cases same : n = i
      · subst same
        rw [here, ← at_l, legAt_known known]
        exact congrArg some (setLeg_legs_of_ne e _ fun same => apart ⟨rfl, same⟩)
      · exact (elsewhere _ same m).trans at_l
    · by_cases same : n = i
      · subst same
        rw [here] at at_l
        rw [← at_l, legAt_known known]
        exact congrArg some (setLeg_legs_of_ne e _ fun same => apart ⟨rfl, same⟩).symm
      · exact (elsewhere _ same m).symm.trans at_l

/-! ### The test of a leg (R147) -/

theorem testLeg_of_waiting {s : State} {i : Fin 8} {j : Fin 2} {l : Leg} (leg : s.legAt i j = some l)
    (waits : l.covered = false) (poster : Option Station) (byRemoval : Bool) : s.testLeg i j poster byRemoval = s := by
  unfold State.testLeg
  rw [leg]
  exact if_neg fun done => absurd done.2 (by rw [waits]; decide)

theorem known_of_legAt {s : State} {i : Fin 8} {j : Fin 2} {l : Leg} (leg : s.legAt i j = some l) :
    ∃ e, s.frames.slots[i] = .known e ∧ e.legs[j] = l := by
  obtain ⟨e, entry, rfl⟩ := Option.map_eq_some_iff.mp leg
  cases slot : s.frames.slots[i] with
  | free => rw [slot] at entry; cases entry
  | foreign k => rw [slot] at entry; cases entry
  | known e' => rw [slot] at entry; cases entry; exact ⟨e, rfl, rfl⟩

theorem testLeg_of_covered {s : State} {i : Fin 8} {j : Fin 2} {l : Leg} (leg : s.legAt i j = some l)
    (pending : l.status = .pending) (covered : l.covered = true) (poster : Option Station) (byRemoval : Bool) :
    RetiredAt s (s.testLeg i j poster byRemoval) i j
      ∧ (s.testLeg i j poster byRemoval).ctr.records = { s.ctr.records with
        recordsQueued := (s.testLeg i j poster byRemoval).ctr.records.recordsQueued
        recordLost := (s.testLeg i j poster byRemoval).ctr.records.recordLost
        recordOverflows := (s.testLeg i j poster byRemoval).ctr.records.recordOverflows
        slotsFreed := (s.testLeg i j poster byRemoval).ctr.records.slotsFreed
        legsCompleted := s.ctr.records.legsCompleted + 1
        legsCompletedByRemoval := if byRemoval then s.ctr.records.legsCompletedByRemoval + 1
                                  else s.ctr.records.legsCompletedByRemoval
        legsRetired := s.ctr.records.legsRetired + 1
        legsUnposted := s.ctr.records.legsUnposted + (if poster = none then 1 else 0)
        recordsBuilt := s.ctr.records.recordsBuilt + (if poster = some s.self then 1 else 0) } := by
  obtain ⟨e, known, _⟩ := known_of_legAt leg
  have tested : s.testLeg i j poster byRemoval = ((s.bump (countRecords fun c => { c with
      legsCompleted := c.legsCompleted + 1
      legsCompletedByRemoval := if byRemoval then c.legsCompletedByRemoval + 1 else c.legsCompletedByRemoval })).postLeg i j
        poster).retireLeg i j := by
    unfold State.testLeg
    rw [leg]
    exact if_pos ⟨pending, covered⟩
  rw [tested]
  generalize counted : s.bump _ = v
  have known' : v.frames.slots[i] = .known e := by rw [← counted]; exact known
  obtain ⟨slots, posted⟩ := postLeg_values known' j poster
  obtain ⟨retired, freed⟩ := retireLeg_values (s := v.postLeg i j poster) (by rw [slots]; exact known') j
  have legs (n : Fin 8) (m : Fin 2) : (v.postLeg i j poster).legAt n m = s.legAt n m :=
    have same : (v.postLeg i j poster).legAt n m = v.legAt n m := legAt_of_slots (by rw [slots]) m
    same.trans (by rw [← counted]; rfl)
  refine ⟨⟨retired.here, fun n m l apart at_l => retired.pending n m l apart ((legs n m).trans at_l),
    fun n m l apart at_l => (legs n m).symm.trans (retired.old n m l apart at_l)⟩, ?_⟩
  rw [freed, posted, ← counted]
  rfl

/-! ### A DONE (R144, R145) -/

/-- The leg awaits the sender of a DONE for frame k of field f. -/
def State.awaitsDone (s : State) (q : Station) (f : BitVec 16) (k : Nat) (j : Fin 2) : Prop :=
  BitVec.ofNat 16 k = f ∧ ∃ e, s.entryFor k = some e ∧ (e.legs[j]).status = .pending
    ∧ hasStation (e.legs[j]).mask q = true
    ∧ hasStation ((e.legs[j]).delivered ||| (e.legs[j]).void ||| (e.legs[j]).removed) q = false

/-- The leg after a DONE (R145). -/
def Leg.done (l : Leg) (q : Station) (delivered : Bool) (gaps : BitVec 17) : Leg :=
  { l with delivered := if delivered then addStation l.delivered q else l.delivered
           void := if delivered then l.void else addStation l.void q
           gapTotal := l.gapTotal + gaps.toNat }

/-- The DONE has been joined to its leg. -/
def State.doneTaken (s : State) (q : Station) (i : Fin 8) (j : Fin 2) (delivered : Bool) (gaps : BitVec 17) : State :=
  (s.modifyLeg i j fun l => l.done q delivered gaps).bump
    (countRecords fun c => { c with donesApplied := c.donesApplied + 1 })

section Done

variable {s : State} {q : Station} {f : BitVec 16} {j : Fin 2}

theorem applyDone_awaited {e : Entry} (found : s.entryFor (extendFrame s.area s.currentFrame f) = some e)
    (inside : s.mem.state = .member ∨ s.mem.state = .leaving)
    (awaited : s.awaitsDone q f (extendFrame s.area s.currentFrame f) j) (delivered : Bool) (gaps : BitVec 17) :
    s.applyDone q f j delivered gaps
      = (s.doneTaken q (slotOf (extendFrame s.area s.currentFrame f)) j delivered gaps).testLeg
        (slotOf (extendFrame s.area s.currentFrame f)) j (some q) false := by
  obtain ⟨exact_frame, e', found', pending, expected, out⟩ := awaited
  obtain rfl : e = e' := Option.some.inj (found.symm.trans found')
  unfold State.applyDone
  dsimp only
  rw [found, Option.filter_some, if_pos (by rw [exact_frame]; exact beq_self_eq_true f)]
  dsimp only
  rw [if_pos]
  · rfl
  · refine ⟨pending, expected, by rw [out]; decide, fun apart => ?_⟩
    obtain member | leaving := inside
    · rw [member] at apart; exact absurd apart (by decide)
    · rw [leaving] at apart; exact absurd apart (by decide)

theorem applyDone_ignored (ignored : ¬ s.awaitsDone q f (extendFrame s.area s.currentFrame f) j) (delivered : Bool)
    (gaps : BitVec 17) : s.applyDone q f j delivered gaps
      = s.bump (countRecords fun c => { c with donesIgnored := c.donesIgnored + 1 }) := by
  unfold State.applyDone
  dsimp only
  split
  · rfl
  · next e found =>
    obtain ⟨found', exact_frame⟩ := Option.filter_eq_some_iff.mp found
    refine if_neg fun ⟨pending, expected, out, _⟩ => ignored ⟨beq_iff_eq.mp exact_frame, e, found', pending, expected, ?_⟩
    exact Bool.eq_false_iff.mpr out

end Done

theorem covered_iff (l : Leg) : l.covered = true ↔ l.mask &&& ~~~(l.delivered ||| l.void ||| l.removed) = 0 := beq_iff_eq

end Sys2Proof.Machine

namespace Sys2Proof

open Machine

/-- Settles O38: the leg by `applyDone_awaited`, its test by `testLeg_of_waiting` and `testLeg_of_covered`. -/
theorem doneReportsPart : Obligations.DoneReportsPart := by
  intro t s q f j delivered gaps latch rest queue inside sender k awaited
  obtain ⟨v, told, ran⟩ := process_applied
    (r := { sender := q, note := .done f j delivered gaps, latch := latch }) queue
    (wanted := fun n => n.kind == .done) rfl rfl inside sender t
  have ran' : exec (.processDone t) s = .next (v.applyDone q f j delivered gaps).finished := congrArg Host.Outcome.next ran
  have effect := finished_only (v.applyDone q f j delivered gaps)
  have counted : (v.applyDone q f j delivered gaps).finished.ctr.records = (v.applyDone q f j delivered gaps).ctr.records :=
    effect .recordsCtr (by decide)
  have uncounted : v.ctr.records = s.ctr.records := told.only .recordsCtr (by decide)
  have queue' : (v.applyDone q f j delivered gaps).finished.trunk.queue = rest := by
    rw [effect.trunk_same, (applyDone_only v q f j delivered gaps).trunk_same, told.queue]
  have at_k : extendFrame v.area v.currentFrame f = k := by rw [told.area, told.currentFrame]
  have entry : v.entryFor k = s.entryFor k := entryFor_congr told.only.slots_same k
  have awaits : v.awaitsDone q f k j ↔ awaited := by
    unfold State.awaitsDone
    rw [entry]
  rw [ran']
  refine ⟨fun ignored => ⟨_, rfl, queue', ?_⟩, fun e found due => ⟨_, rfl, queue', ?_⟩⟩
  · rw [counted, applyDone_ignored (by rw [at_k, awaits]; exact ignored), ← uncounted]
    rfl
  · have applied := applyDone_awaited (s := v) (by rw [at_k, entry]; exact found) (by rw [told.state]; exact inside)
      (by rw [at_k, awaits]; exact due) delivered gaps
    rw [at_k] at applied
    obtain ⟨_, e', found', pending, _⟩ := due
    obtain rfl : e = e' := Option.some.inj (found.symm.trans found')
    have leg : (v.doneTaken q (slotOf k) j delivered gaps).legAt (slotOf k) j
        = some ((e.legs[j]).done q delivered gaps) := by
      have before : v.legAt (slotOf k) j = some e.legs[j] := legAt_known (entryFor_eq_some (entry.trans found)).1 j
      refine (modifyLeg_legAt_same v (slotOf k) j _).trans ?_
      rw [before]
      rfl
    have self_eq : (v.doneTaken q (slotOf k) j delivered gaps).self = s.self := by
      show ((v.modifyLeg (slotOf k) j _).mem.number).getD 0 = s.mem.number.getD 0
      rw [modifyLeg_mem, told.mem]
    have taken : (v.doneTaken q (slotOf k) j delivered gaps).ctr.records
        = { s.ctr.records with donesApplied := s.ctr.records.donesApplied + 1 } := by
      rw [← uncounted]
      refine congrArg (fun c : RecordCounters => { c with donesApplied := c.donesApplied + 1 }) ?_
      exact (modifyLeg_only v (slotOf k) j _) .recordsCtr (by decide)
    have covers := covered_iff ((e.legs[j]).done q delivered gaps)
    rw [counted]
    rw [applied] at effect ⊢
    cases cover : ((e.legs[j]).done q delivered gaps).covered with
    | false =>
      have same := testLeg_of_waiting leg cover (some q) false
      rw [same] at effect ⊢
      obtain ⟨l', at_l', bare⟩ := effect.leg_eq leg
      have open_leg : ¬ _ := fun zero => Bool.eq_false_iff.mp cover (covers.mpr zero)
      refine ⟨congrArg RecordCounters.donesApplied taken, fun _ => ⟨l', at_l', ?_⟩, fun zero => absurd zero open_leg⟩
      refine ⟨(congrArg Leg.status bare :).symm.trans pending, (congrArg Leg.delivered bare :).symm,
        (congrArg Leg.void bare :).symm, (congrArg Leg.removed bare :).symm, (congrArg Leg.gapTotal bare :).symm,
        (congrArg Leg.mask bare :).symm, (congrArg RecordCounters.legsCompleted taken :)⟩
    | true =>
      obtain ⟨retired, completed⟩ := testLeg_of_covered leg pending cover (some q) false
      rw [completed, taken, self_eq]
      refine ⟨rfl, fun nonzero => absurd (covers.mp cover) nonzero, fun _ => ⟨rfl, rfl, ?_, fun l' at_l' => ?_⟩⟩
      · simp only [Option.some.injEq]
      · have bare := effect.leg_bare (slotOf k) j
        rw [at_l', Option.map_some] at bare
        obtain ⟨l, at_l, same⟩ := Option.map_eq_some_iff.mp bare.symm
        exact (congrArg Leg.status same.symm :).trans (retired.here l at_l)

end Sys2Proof

/-! A removal, applied to the legs of the frame table (R146 to R149). -/

namespace Sys2Proof.Machine

-- One proof at a time: the proofs of many statements at once take more threads than the memory holds.
set_option Elab.async false

/-! ### The places of the table, each once -/

theorem insertByFrame_perm (frame : Fin 8 → Nat) (i : Fin 8) (l : List (Fin 8)) :
    (insertByFrame frame i l).Perm (i :: l) := by
  induction l with
  | nil => exact .refl _
  | cons k rest ih =>
    unfold insertByFrame
    split
    · exact .refl _
    · exact (ih.cons k).trans (.swap ..)

theorem knownSlots_nodup (s : State) : s.knownSlots.Nodup := by
  have sorted (l : List (Fin 8)) (frame : Fin 8 → Nat) : (l.foldr (insertByFrame frame) []).Perm l := by
    induction l with
    | nil => exact .refl _
    | cons k rest ih => exact (insertByFrame_perm frame k _).trans (ih.cons k)
  exact (sorted _ _).nodup_iff.mpr ((List.nodup_finRange 8).filter _)

theorem legPlaces_nodup (s : State) : s.legPlaces.Nodup := by
  refine List.nodup_flatMap.mpr ⟨fun i _ => by simp, ?_⟩
  refine (knownSlots_nodup s).imp fun {i n} other => ?_
  intro q first second
  simp only [List.mem_cons, List.not_mem_nil, or_false] at first second
  obtain rfl | rfl := first <;> obtain same | same := second <;> exact other (congrArg Prod.fst same)

/-- All places of a table. -/
def allPlaces : List (Fin 8 × Fin 2) := (List.finRange 8).flatMap fun i => [(i, 0), (i, 1)]

/-- The legs that pass a test are counted in the walk over the places. -/
theorem countLegs_eq (s : State) (test : Leg → Bool) :
    s.countLegs test = s.legPlaces.countP fun q => (s.legAt q.1 q.2).any test := by
  have same : s.legPlaces.Perm (allPlaces.filter fun q => (s.legAt q.1 q.2).isSome) := by
    refine (List.perm_ext_iff_of_nodup (legPlaces_nodup s) (.filter _ (by decide))).mpr fun ⟨i, j⟩ => ?_
    have all : (i, j) ∈ allPlaces := by revert i j; decide
    have leg : (s.legAt i j).isSome = true ↔ ∃ e, s.frames.slots[i].entry = some e := by
      unfold State.legAt
      rw [Option.isSome_map, Option.isSome_iff_exists]
    rw [mem_legPlaces, List.mem_filter, ← leg]
    exact (and_iff_right all).symm
  rw [same.countP_eq, List.countP_filter]
  refine List.countP_congr fun q _ => ?_
  cases s.legAt q.1 q.2 <;> simp

/-! ### One leg (R146, R147) -/

/-- The leg after the removal of station p. -/
def Leg.without (l : Leg) (p : Station) : Leg := { l with removed := addStation l.removed p }

theorem awaits_iff (l : Leg) (p : Station) : l.awaits p = true ↔ l.status = .pending ∧ hasStation l.mask p = true
    ∧ ¬ hasStation (l.delivered ||| l.void ||| l.removed) p = true := by
  unfold Leg.awaits
  simp [and_assoc]

theorem without_covered {l : Leg} {p : Station} (awaits : l.awaits p = true) : (l.without p).covered = l.awaitsOnly p := by
  unfold Leg.awaitsOnly Leg.covered Leg.without addStation
  simp only [awaits, Bool.true_and, BitVec.or_assoc]

/-- The removal of p, applied to one leg. -/
def State.removeFromLeg (s : State) (p : Station) (poster : Option Station) (q : Fin 8 × Fin 2) : State :=
  match s.legAt q.1 q.2 with
  | some l =>
    if l.status = .pending ∧ hasStation l.mask p ∧ ¬ hasStation (l.delivered ||| l.void ||| l.removed) p then
      ((s.modifyLeg q.1 q.2 fun l => l.without p).bump
        (countRecords fun c => { c with removalsApplied := c.removalsApplied + 1 })).testLeg q.1 q.2 poster true
    else s
  | none => s

theorem removeFromLegs_eq (s : State) (p : Station) (poster : Option Station) :
    s.removeFromLegs p poster = s.legPlaces.foldl (fun s q => s.removeFromLeg p poster q) s := rfl

/-- The record counters after a removal that reached `reached` legs and completed `done` of them. -/
structure RemovalCounted (c d : RecordCounters) (reached done : Nat) (unposted own : Prop) [Decidable unposted]
    [Decidable own] : Prop where
  applied : d.removalsApplied = c.removalsApplied + BitVec.ofNat 32 reached
  completed : d.legsCompleted = c.legsCompleted + BitVec.ofNat 32 done
  byRemoval : d.legsCompletedByRemoval = c.legsCompletedByRemoval + BitVec.ofNat 32 done
  retired : d.legsRetired = c.legsRetired + BitVec.ofNat 32 done
  unposted : d.legsUnposted = c.legsUnposted + (if unposted then BitVec.ofNat 32 done else 0)
  built : d.recordsBuilt = c.recordsBuilt + (if own then BitVec.ofNat 32 done else 0)

theorem RemovalCounted.zero (c : RecordCounters) (unposted own : Prop) [Decidable unposted] [Decidable own] :
    RemovalCounted c c 0 0 unposted own := by
  constructor <;> simp

theorem RemovalCounted.add {c d e : RecordCounters} {r k r' k' : Nat} {unposted own : Prop} [Decidable unposted]
    [Decidable own] (first : RemovalCounted c d r k unposted own) (second : RemovalCounted d e r' k' unposted own) :
    RemovalCounted c e (r + r') (k + k') unposted own := by
  constructor
  · rw [second.applied, first.applied, BitVec.ofNat_add, BitVec.add_assoc]
  · rw [second.completed, first.completed, BitVec.ofNat_add, BitVec.add_assoc]
  · rw [second.byRemoval, first.byRemoval, BitVec.ofNat_add, BitVec.add_assoc]
  · rw [second.retired, first.retired, BitVec.ofNat_add, BitVec.add_assoc]
  · rw [second.unposted, first.unposted, BitVec.ofNat_add, BitVec.add_assoc]
    split
    · rfl
    · rfl
  · rw [second.built, first.built, BitVec.ofNat_add, BitVec.add_assoc]
    split
    · rfl
    · rfl

/-- What the removal of p makes of a leg that stands at a place. -/
structure LegReached (l : Leg) (p : Station) (after : Option Leg) : Prop where
  joined : l.awaits p = true → l.awaitsOnly p = false → after = some (l.without p)
  completed : l.awaitsOnly p = true → ∀ l', after = some l' → l'.status = .retired
  other : l.status = .pending → l.awaits p = false → after = some l

theorem awaits_of_only {l : Leg} {p : Station} (only : l.awaitsOnly p = true) : l.awaits p = true :=
  (Bool.and_eq_true_iff.mp only).1

theorem pending_of_awaits {l : Leg} {p : Station} (awaits : l.awaits p = true) : l.status = .pending :=
  ((awaits_iff l p).mp awaits).1

/-- A place of the table that an operation on another place leaves: a pending leg stays, and no new one comes. -/
structure LegKept (before after : Option Leg) : Prop where
  pending : ∀ l, before = some l → l.status = .pending → after = some l
  old : ∀ l, after = some l → before = some l

theorem LegKept.trans {a b c : Option Leg} (first : LegKept a b) (second : LegKept b c) : LegKept a c :=
  ⟨fun l at_l pending => second.pending l (first.pending l at_l pending) pending,
    fun l at_l => first.old l (second.old l at_l)⟩

theorem LegKept.refl (a : Option Leg) : LegKept a a := ⟨fun _ at_l _ => at_l, fun _ at_l => at_l⟩

theorem LegKept.any_eq {a b : Option Leg} (kept : LegKept a b) {test : Leg → Bool}
    (pending : ∀ l, test l = true → l.status = .pending) : b.any test = a.any test := by
  rw [Bool.eq_iff_iff, Option.any_eq_true, Option.any_eq_true]
  constructor
  · rintro ⟨l, at_l, passes⟩
    exact ⟨l, kept.old l at_l, passes⟩
  · rintro ⟨l, at_l, passes⟩
    exact ⟨l, kept.pending l at_l (pending l passes), passes⟩

theorem LegReached.kept {l : Leg} {p : Station} {a b : Option Leg} (reached : LegReached l p a) (kept : LegKept a b) :
    LegReached l p b :=
  ⟨fun awaits more => kept.pending _ (reached.joined awaits more) (show l.status = _ from pending_of_awaits awaits),
    fun only l' at_l => reached.completed only l' (kept.old l' at_l),
    fun pending others => kept.pending _ (reached.other pending others) pending⟩

theorem removeFromLeg_mem (s : State) (p : Station) (poster : Option Station) (q : Fin 8 × Fin 2) :
    (s.removeFromLeg p poster q).mem = s.mem := by
  unfold State.removeFromLeg
  split
  · split
    · rw [testLeg_mem, bump_mem, modifyLeg_mem]
    · rfl
  · rfl

theorem removeFromLeg_of_awaiting {s : State} {p : Station} {q : Fin 8 × Fin 2} {l : Leg} (leg : s.legAt q.1 q.2 = some l)
    (awaits : l.awaits p = true) (poster : Option Station) : s.removeFromLeg p poster q
      = ((s.modifyLeg q.1 q.2 fun l => l.without p).bump
        (countRecords fun c => { c with removalsApplied := c.removalsApplied + 1 })).testLeg q.1 q.2 poster true := by
  unfold State.removeFromLeg
  rw [leg]
  exact if_pos ((awaits_iff l p).mp awaits)

theorem removeFromLeg_of_other {s : State} {p : Station} {q : Fin 8 × Fin 2}
    (other : ∀ l, s.legAt q.1 q.2 = some l → l.awaits p = false) (poster : Option Station) :
    s.removeFromLeg p poster q = s := by
  unfold State.removeFromLeg
  cases leg : s.legAt q.1 q.2 with
  | none => rfl
  | some l =>
    refine if_neg fun awaits => ?_
    exact absurd ((awaits_iff l p).mpr awaits) (by rw [other l leg]; decide)

/-- What the removal of p does at one place, and what it counts. -/
structure PlaceReached (s u : State) (p : Station) (poster : Option Station) (q : Fin 8 × Fin 2) : Prop where
  here : ∀ l, s.legAt q.1 q.2 = some l → LegReached l p (u.legAt q.1 q.2)
  kept : ∀ n m, (n, m) ≠ q → LegKept (s.legAt n m) (u.legAt n m)
  counted : RemovalCounted s.ctr.records u.ctr.records
    (if (s.legAt q.1 q.2).any (fun l => l.awaits p) then 1 else 0)
    (if (s.legAt q.1 q.2).any (fun l => l.awaitsOnly p) then 1 else 0) (poster = none) (poster = some s.self)

theorem removeFromLeg_of_more {s : State} {p : Station} {q : Fin 8 × Fin 2} {l : Leg} (leg : s.legAt q.1 q.2 = some l)
    (awaits : l.awaits p = true) (more : l.awaitsOnly p = false) (poster : Option Station) :
    PlaceReached s (s.removeFromLeg p poster q) p poster q := by
  generalize joined : (s.modifyLeg q.1 q.2 fun l => l.without p).bump
    (countRecords fun c => { c with removalsApplied := c.removalsApplied + 1 }) = v
  have leg' : v.legAt q.1 q.2 = some (l.without p) := by
    rw [← joined]
    exact (modifyLeg_legAt_same s q.1 q.2 _).trans (by rw [leg]; rfl)
  have left : s.removeFromLeg p poster q = v := by
    rw [removeFromLeg_of_awaiting leg awaits, joined]
    exact testLeg_of_waiting leg' ((without_covered awaits).trans more) poster true
  have counts : s.ctr.records = (s.modifyLeg q.1 q.2 fun l => l.without p).ctr.records :=
    (modifyLeg_only s q.1 q.2 _ .recordsCtr (by decide)).symm
  rw [left]
  refine ⟨fun l' at_l' => ?_, fun n m apart => ?_, ?_⟩
  · obtain rfl := Option.some.inj (leg.symm.trans at_l')
    exact ⟨fun _ _ => leg', fun only => absurd only (by rw [more]; decide),
      fun _ others => absurd awaits (by rw [others]; decide)⟩
  · have same : v.legAt n m = s.legAt n m := by
      rw [← joined]
      refine modifyLeg_legAt_of_ne s ?_ _
      rw [← not_and_or]
      exact fun both => apart (Prod.ext both.1 both.2)
    rw [same]
    exact .refl _
  · rw [leg, ← joined, counts]
    constructor <;> simp [awaits, more, countRecords]

theorem removeFromLeg_of_only {s : State} {p : Station} {q : Fin 8 × Fin 2} {l : Leg} (leg : s.legAt q.1 q.2 = some l)
    (only : l.awaitsOnly p = true) (poster : Option Station) :
    PlaceReached s (s.removeFromLeg p poster q) p poster q := by
  have awaits := awaits_of_only only
  generalize joined : (s.modifyLeg q.1 q.2 fun l => l.without p).bump
    (countRecords fun c => { c with removalsApplied := c.removalsApplied + 1 }) = v
  have leg' : v.legAt q.1 q.2 = some (l.without p) := by
    rw [← joined]
    exact (modifyLeg_legAt_same s q.1 q.2 _).trans (by rw [leg]; rfl)
  have left : s.removeFromLeg p poster q = v.testLeg q.1 q.2 poster true := by
    rw [removeFromLeg_of_awaiting leg awaits, joined]
  obtain ⟨retired, counts⟩ := testLeg_of_covered leg' (show l.status = _ from pending_of_awaits awaits)
    ((without_covered awaits).trans only) poster true
  have self_eq : v.self = s.self := by
    rw [← joined]
    show ((s.modifyLeg q.1 q.2 _).mem.number).getD 0 = _
    rw [modifyLeg_mem]
    rfl
  have taken : v.ctr.records = { s.ctr.records with removalsApplied := s.ctr.records.removalsApplied + 1 } := by
    rw [← joined, ← show (s.modifyLeg q.1 q.2 fun l => l.without p).ctr.records = s.ctr.records from
      modifyLeg_only s q.1 q.2 _ .recordsCtr (by decide)]
    rfl
  rw [left]
  refine ⟨fun l' at_l' => ?_, fun n m apart => ?_, ?_⟩
  · obtain rfl := Option.some.inj (leg.symm.trans at_l')
    exact ⟨fun _ more => absurd only (by rw [more]; decide), fun _ l' at_l' => retired.here l' at_l',
      fun _ others => absurd awaits (by rw [others]; decide)⟩
  · have apart' : ¬ (n = q.1 ∧ m = q.2) := fun both => apart (Prod.ext both.1 both.2)
    have same : v.legAt n m = s.legAt n m := by
      rw [← joined]
      exact modifyLeg_legAt_of_ne s (not_and_or.mp apart') _
    rw [← same]
    exact ⟨fun l at_l pending => retired.pending n m l apart' at_l pending, fun l at_l => retired.old n m l apart' at_l⟩
  · rw [counts, taken, leg, self_eq]
    constructor <;> simp [awaits, only]

theorem removeFromLeg_place (s : State) (p : Station) (poster : Option Station) (q : Fin 8 × Fin 2) :
    PlaceReached s (s.removeFromLeg p poster q) p poster q := by
  by_cases awaiting : ∃ l, s.legAt q.1 q.2 = some l ∧ l.awaits p = true
  · obtain ⟨l, leg, awaits⟩ := awaiting
    cases more : l.awaitsOnly p with
    | false => exact removeFromLeg_of_more leg awaits more poster
    | true => exact removeFromLeg_of_only leg more poster
  · have other (l : Leg) (leg : s.legAt q.1 q.2 = some l) : l.awaits p = false :=
      Bool.eq_false_iff.mpr fun awaits => awaiting ⟨l, leg, awaits⟩
    have untouched (test : Leg → Bool) (implies : ∀ l, test l = true → l.awaits p = true) :
        (s.legAt q.1 q.2).any test = false := by
      rw [Bool.eq_false_iff, ne_eq, Option.any_eq_true]
      exact fun ⟨l, leg, passes⟩ => awaiting ⟨l, leg, implies l passes⟩
    rw [removeFromLeg_of_other other]
    refine ⟨fun l leg => ⟨fun awaits => absurd awaits (by rw [other l leg]; decide),
      fun only => absurd (awaits_of_only only) (by rw [other l leg]; decide), fun _ _ => leg⟩, fun _ _ _ => .refl _, ?_⟩
    rw [untouched _ fun _ awaits => awaits, untouched _ fun _ only => awaits_of_only only]
    exact .zero ..

/-! ### All legs (R146) -/

/-- What the walk over places makes of every leg, and what it counts. -/
structure WalkReached (s u : State) (p : Station) (poster : Option Station) (l : List (Fin 8 × Fin 2)) : Prop where
  here : ∀ q ∈ l, ∀ x, s.legAt q.1 q.2 = some x → LegReached x p (u.legAt q.1 q.2)
  kept : ∀ q, q ∉ l → LegKept (s.legAt q.1 q.2) (u.legAt q.1 q.2)
  counted : RemovalCounted s.ctr.records u.ctr.records (l.countP fun q => (s.legAt q.1 q.2).any fun x => x.awaits p)
    (l.countP fun q => (s.legAt q.1 q.2).any fun x => x.awaitsOnly p) (poster = none) (poster = some s.self)

theorem removeFromLeg_walk (p : Station) (poster : Option Station) {l : List (Fin 8 × Fin 2)} (distinct : l.Nodup)
    (s : State) : WalkReached s (l.foldl (fun s q => s.removeFromLeg p poster q) s) p poster l := by
  induction l generalizing s with
  | nil => exact ⟨nofun, fun _ _ => .refl _, .zero ..⟩
  | cons a l ih =>
    obtain ⟨apart, distinct'⟩ := List.nodup_cons.mp distinct
    have first := removeFromLeg_place s p poster a
    have rest := ih distinct' (s.removeFromLeg p poster a)
    have self_eq : (s.removeFromLeg p poster a).self = s.self := by
      unfold State.self
      rw [removeFromLeg_mem]
    have kept (q : Fin 8 × Fin 2) (within : q ∈ l) := first.kept q.1 q.2 fun same => apart (same ▸ within)
    have same_count (test : Leg → Bool) (pending : ∀ x, test x = true → x.status = .pending) :
        (l.countP fun q => ((s.removeFromLeg p poster a).legAt q.1 q.2).any test)
          = l.countP fun q => (s.legAt q.1 q.2).any test :=
      List.countP_congr fun q within => by rw [(kept q within).any_eq pending]
    refine ⟨fun q within x leg => ?_, fun q out => ?_, ?_⟩
    · obtain rfl | later := List.mem_cons.mp within
      · exact (first.here x leg).kept (rest.kept q apart)
      · by_cases pending : x.status = .pending
        · exact rest.here q later x ((kept q later).pending x leg pending)
        · exact ⟨fun awaits => absurd (pending_of_awaits awaits) pending,
            fun only => absurd (pending_of_awaits (awaits_of_only only)) pending, fun pends => absurd pends pending⟩
    · obtain ⟨other, out'⟩ := not_or.mp (mt List.mem_cons.mpr out)
      exact (first.kept q.1 q.2 other).trans (rest.kept q out')
    · have both := first.counted.add (self_eq ▸ rest.counted)
      rw [same_count _ fun _ => pending_of_awaits, same_count _ fun _ only => pending_of_awaits (awaits_of_only only)] at both
      rw [List.countP_cons, List.countP_cons, Nat.add_comm, Nat.add_comm (List.countP _ _)]
      exact both

/-- The removal of a station has reached the legs, whatever becomes of own parts afterwards. -/
theorem removeFromLegs_reached {S : List Piece} {s v u : State} (p : Station) (poster : Option Station)
    (slots : v.frames.slots = s.frames.slots) (counts : v.ctr.records = s.ctr.records) (self_eq : v.self = s.self)
    (after : Only S (v.removeFromLegs p poster) u) (entries_out : .entries ∉ S := by decide)
    (counts_out : .recordsCtr ∉ S := by decide) : s.removalReached u p poster := by
  have walk := removeFromLeg_walk p poster (legPlaces_nodup v) v
  rw [← removeFromLegs_eq] at walk
  have legs (i : Fin 8) (j : Fin 2) : v.legAt i j = s.legAt i j := legAt_of_slots (by rw [slots]) j
  refine ⟨fun i j l leg => ?_, ?_⟩
  · obtain ⟨e, known, _⟩ := known_of_legAt ((legs i j).trans leg)
    have reached := walk.here (i, j) ((mem_legPlaces v i j).mpr ⟨e, by rw [known]; rfl⟩) l ((legs i j).trans leg)
    refine ⟨fun awaits more => ?_, fun only l' at_l' => ?_, fun pending others => ?_⟩
    · obtain ⟨l', at_l', bare⟩ := after.leg_eq (reached.joined awaits more) entries_out
      exact ⟨l', at_l', (congrArg (fun x : Leg => { x with own := l'.own }) bare).symm⟩
    · have bare := after.leg_bare i j entries_out
      rw [at_l', Option.map_some] at bare
      obtain ⟨l, at_l, same⟩ := Option.map_eq_some_iff.mp bare.symm
      exact (congrArg Leg.status same.symm :).trans (reached.completed only l at_l)
    · obtain ⟨l', at_l', bare⟩ := after.leg_eq (reached.other pending others) entries_out
      exact ⟨l', at_l', (congrArg (fun x : Leg => { x with own := l'.own }) bare).symm⟩
  · have counted := walk.counted
    have same (test : Leg → Bool) : (v.legPlaces.countP fun q => (v.legAt q.1 q.2).any test) = s.countLegs test := by
      rw [← countLegs_eq]
      exact List.countP_congr fun q _ => by rw [legs]
    have recorded : u.ctr.records = (v.removeFromLegs p poster).ctr.records := after .recordsCtr counts_out
    rw [same, same, counts, self_eq, ← recorded] at counted
    obtain ⟨applied, completed, byRemoval, retired, unposted, built⟩ := counted
    exact ⟨applied, completed, byRemoval, retired, unposted, built⟩

end Sys2Proof.Machine

/-! The processing of a DROP and of a ROSTER-LEAVE (R81, R88, R90, R92). -/

namespace Sys2Proof.Machine

-- One proof at a time: the proofs of many statements at once take more threads than the memory holds.
set_option Elab.async false

/-! ### A station is removed (R81, R88, R90, R146) -/

/-- The station has left the roster; at a MEMBER or LEAVING station it is counted. -/
def State.struck (s : State) (p : Station) : State :=
  if s.mem.state = .member ∨ s.mem.state = .leaving then
    (s.dropFromRoster p).bump (countMembership fun c => { c with removals := c.removals + 1 })
  else s.dropFromRoster p

theorem struck_only (s : State) (p : Station) : Only [.roster, .peers, .timers, .memCtr] s (s.struck p) :=
  .ite (fun _ => ((dropFromRoster_only s p).mono (by decide)).next (bumpMembership_only _ _)) fun _ =>
    (dropFromRoster_only s p).mono (by decide)

theorem struck_mem (s : State) (p : Station) : (s.struck p).mem = { s.mem with
    roster := dropStation s.mem.roster p, peers := s.mem.peers.set p none, silence := s.mem.silence.set p .stopped } := by
  unfold State.struck
  split <;> rfl

theorem removeStation_eq (s : State) (p : Station) (dropSender : Option Station) : s.removeStation p dropSender
    = (if p = s.self then s.struck p
      else (s.struck p).removeFromLegs p (removalPoster dropSender (dropStation s.mem.roster p))).memberChecks := rfl

/-- What follows the removal at the legs. -/
theorem memberChecks_finished_only (s : State) :
    Only ([.channels, .framesCtr, .draws] ++ claimPieces ++ settlePieces) s s.memberChecks.finished :=
  ((memberChecks_only s).mono (by decide)).next (finished_only _)

/-- From s to u, station p has left the roster with its record and its timer. -/
structure Removed (s u : State) (p : Station) (poster : Option Station) : Prop where
  mem : u.mem.state = s.mem.state ∧ u.mem.roster = dropStation s.mem.roster p ∧ u.mem.peers[p] = none
    ∧ u.mem.silence[p] = .stopped
  counted : u.ctr.mem = if s.mem.state = .member ∨ s.mem.state = .leaving then
      { s.ctr.mem with removals := s.ctr.mem.removals + 1 } else s.ctr.mem
  reached : p ≠ s.self → s.removalReached u p poster
  own : p = s.self → ∀ (i : Fin 8) (j : Fin 2) (l : Leg), s.legAt i j = some l →
    ∃ l', u.legAt i j = some l' ∧ l' = { l with own := l'.own }

theorem Told.removed {s v : State} {rest : List Received} (told : Told s v rest) (p : Station)
    (dropSender : Option Station) :
    (v.removeStation p dropSender).finished.trunk.queue = rest
      ∧ Removed s (v.removeStation p dropSender).finished p (removalPoster dropSender (dropStation s.mem.roster p)) := by
  have self_eq : v.self = s.self := by
    unfold State.self
    rw [told.mem]
  have only := (removeStation_only v p dropSender).mono (S := removalPieces ++ claimPieces ++ settlePieces) (by decide)
  have after := only.next (finished_only _)
  have struck_self : (v.struck p).self = s.self := by
    unfold State.self at self_eq ⊢
    rw [struck_mem]
    exact self_eq
  have mem : (v.removeStation p dropSender).finished.mem = (v.struck p).mem := by
    have checked (w : State) : w.memberChecks.finished.mem = w.mem := (memberChecks_finished_only w).mem_same
    rw [removeStation_eq, checked]
    split
    · rfl
    · exact (removeFromLegs_only _ _ _).mem_same
  have memCtr : (v.removeStation p dropSender).finished.ctr.mem = (v.struck p).ctr.mem := by
    have checked (w : State) : w.memberChecks.finished.ctr.mem = w.ctr.mem :=
      memberChecks_finished_only w .memCtr (by decide)
    rw [removeStation_eq, checked]
    split
    · rfl
    · exact (removeFromLegs_only _ _ _) .memCtr (by decide)
  have uncounted : v.ctr.mem = s.ctr.mem := told.only .memCtr (by decide)
  refine ⟨(congrArg Trunk.queue after.trunk_same).trans told.queue, ?_, ?_, fun other => ?_, fun own i j l leg => ?_⟩
  · rw [mem, struck_mem, told.state, told.roster]
    exact ⟨rfl, rfl, Vector.getElem_set_self .., Vector.getElem_set_self ..⟩
  · rw [memCtr, ← uncounted, ← told.state]
    unfold State.struck
    split <;> rfl
  · have other' : ¬ p = v.self := by rw [self_eq]; exact other
    rw [removeStation_eq, if_neg other', told.roster]
    refine removeFromLegs_reached (v := v.struck p) p _ ?_ ?_ struck_self (memberChecks_finished_only _)
    · rw [(struck_only v p).slots_same, told.only.slots_same]
    · exact (struck_only v p .recordsCtr (by decide)).trans (told.only .recordsCtr (by decide))
  · rw [removeStation_eq, if_pos (own.trans self_eq.symm)]
    have leg' : (v.struck p).legAt i j = some l := by
      rw [← leg]
      exact legAt_of_slots (by rw [(struck_only v p).slots_same, told.only.slots_same]) j
    obtain ⟨l', at_l', bare⟩ := (memberChecks_finished_only (v.struck p)).leg_eq leg'
    exact ⟨l', at_l', (congrArg (fun x : Leg => { x with own := l'.own }) bare).symm⟩

/-! ### A station that leaves the group (R88, R90, R92, R94) -/

theorem settleTap_of_no_lines {s : State} {t : Tap} (empty : (s.taps[t]).lines = []) :
    s.settleTap t = s.setWaiting t false := by
  unfold State.settleTap
  dsimp only
  rw [empty]
  have discarded : State.discardHeads t [] s = s := rfl
  have judged : s.judgeWait t = s.setWaiting t false := by
    unfold State.judgeWait
    rw [empty]
  rw [discarded, judged]
  exact if_neg (Nat.not_lt_zero _)

theorem legPlaces_of_free {s : State} (free : ∀ i : Fin 8, s.frames.slots[i] = .free) : s.legPlaces = [] := by
  refine List.eq_nil_iff_forall_not_mem.mpr fun ⟨i, j⟩ within => ?_
  obtain ⟨e, entry⟩ := (mem_legPlaces s i j).mp within
  rw [free i] at entry
  cases entry

theorem endCheck_of_free {s : State} (free : ∀ i : Fin 8, s.frames.slots[i] = .free) (t : Tap) : s.endCheck t = s := by
  have places := legPlaces_of_free free
  have marked : s.finishMarked t = s := by
    unfold State.finishMarked State.openFrames
    rw [places]
    rfl
  unfold State.endCheck
  rw [marked]
  unfold State.startFlushes
  rw [places]
  exact ite_self _

/-- The units of an emptied station have nothing to decide. -/
theorem State.emptied.afterTap {s : State} (h : s.emptied) : s.afterTap.emptied := by
  obtain ⟨roster, joinFrame, roll, peers, slots, level, isOpen, frame, resume, founded, rotation, channels, taps, free,
    low, mode, offset, latch, last, strobes, queue, run, held, turn, lastTap, handled, store, port, records, outputs⟩ := h
  have settled : s.settle = (s.setWaiting 0 false).setWaiting 1 false := by
    unfold State.settle
    rw [settleTap_of_no_lines (taps 0).2.1, settleTap_of_no_lines (s := s.setWaiting 0 false) (taps 1).2.1]
  have same : s.afterTap = (s.setWaiting 0 false).setWaiting 1 false := by
    have still (w : State) (free : ∀ i : Fin 8, w.frames.slots[i] = .free) : w.endChecks = w := by
      unfold State.endChecks
      rw [endCheck_of_free free, endCheck_of_free free]
    unfold State.afterTap
    rw [settled]
    exact still _ slots
  rw [same]
  exact ⟨roster, joinFrame, roll, peers, slots, level, isOpen, frame, resume, founded, rotation, channels, taps, free,
    low, mode, offset, latch, last, strobes, queue, run, held, turn, lastTap, handled, store, port, records, outputs⟩

theorem State.emptied.enterListening {s : State} (h : s.emptied) : s.enterListening.emptied := by
  obtain ⟨roster, joinFrame, roll, peers, slots, level, isOpen, frame, resume, founded, rotation, channels, taps, free,
    low, mode, offset, latch, last, strobes, queue, run, held, turn, lastTap, handled, store, port, records,
    outputs⟩ := h.changeState .listening
  exact ⟨roster, joinFrame, roll, peers, slots, level, isOpen, frame, resume, founded, rotation, channels, taps, free,
    low, rfl, offset, latch, last, strobes, queue, run, held, turn, lastTap, handled, store, port, records, outputs⟩

/-- From s to u, the station has left the group: it holds nothing, and no note waits but one on the wire. -/
structure Departed (s u : State) (st : StationState) : Prop where
  state : u.mem.state = st
  emptied : u.emptied
  pending : ∀ k, s.onWire k = false → u.pendingOf k = []
  faults : u.window.faults = s.window.faults
  area : u.area = s.area

theorem home_apart (s : State) : ¬ (s.home = .leaving ∨ s.home = .lapsed) := by
  unfold State.home
  split <;> decide

theorem enterConfigured_departed (s : State) : Departed s (s.enterConfigured false) s.home :=
  ⟨enterConfigured_state s false, .enterConfigured s false, fun _ free => enterConfigured_pendingOf free false,
    enterConfigured_only s false .faults (by decide), enterConfigured_area s false⟩

theorem Departed.finished {s u : State} {st : StationState} (h : Departed s u st) (apart : ¬ (st = .leaving ∨ st = .lapsed)) :
    Departed s u.finished st := by
  have same : u.finished = u.afterTap := by
    unfold State.finished
    rw [keepLeaveClaimed_of_away (by rw [h.state]; exact apart)]
  have only := afterTap_only u
  rw [same]
  exact ⟨only.mem_same ▸ h.state, h.emptied.afterTap,
    fun k free => (pendingOf_congr (only .tx (by decide)) k).trans (h.pending k free),
    (only .faults (by decide)).trans h.faults, only.area_eq.1.trans h.area⟩

theorem leaveLapsed_departed (s : State) : Departed s s.leaveLapsed
    (if s.home = .configured ∧ cfgAutoRejoin s.area then .listening else s.home) := by
  have entered := enterConfigured_departed s
  unfold State.leaveLapsed
  dsimp only
  rw [entered.state, entered.area]
  split
  · have only := enterListening_only (s.enterConfigured false)
    refine ⟨?_, entered.emptied.enterListening, fun k free => ?_, (only .faults (by decide)).trans entered.faults,
      only.area_eq.1.trans entered.area⟩
    · rw [enterListening_mem]
    · exact (pendingOf_congr (only .tx (by decide)) k).trans (entered.pending k free)
  · exact entered

theorem rejoin_apart (s : State) : ¬ ((if s.home = .configured ∧ cfgAutoRejoin s.area then StationState.listening
    else s.home) = .leaving ∨ (if s.home = .configured ∧ cfgAutoRejoin s.area then StationState.listening else s.home)
    = .lapsed) := by
  split
  · decide
  · exact home_apart s

/-- A note that has been told, and DROPPED, change nothing that a departure reads. -/
theorem home_congr {s v : State} (faults : v.faultSet .configCorrupt = s.faultSet .configCorrupt) : v.home = s.home := by
  unfold State.home
  rw [faults]

theorem raise_faultSet_of_ne (s : State) {k n : FaultKind} (other : n ≠ k) : (s.raise k).faultSet n = s.faultSet n := by
  have apart : (1#16 <<< k.bit.val).getLsbD n.bit.val = false := by
    revert other
    cases k <;> cases n <;> decide
  unfold State.faultSet
  rw [raise_faults, BitVec.getLsbD_or, apart, Bool.or_false]

/-! ### The effects, by state (R81, R88, R90, R92) -/

theorem removeIfIn_of_in {s : State} {p : Station} (within : hasStation s.mem.roster p = true) (d : Option Station) :
    s.removeIfIn p d = s.removeStation p d := if_pos within

theorem applyDrop_other {s : State} {p : Station} (within : hasStation s.mem.roster p = true) (q : Station)
    (here : (s.mem.state = .listening ∨ s.mem.state = .joining)
      ∨ ((s.mem.state = .member ∨ s.mem.state = .leaving) ∧ p ≠ s.self)) :
    s.applyDrop q p = s.removeStation p (some q) := by
  rw [← removeIfIn_of_in within]
  unfold State.applyDrop
  obtain (listening | joining) | ⟨member | leaving, other⟩ := here
  · rw [listening]
  · rw [joining]
  · rw [member]; exact if_neg other
  · rw [leaving]; exact if_neg other

theorem applyDrop_own {s : State} (inside : s.mem.state = .member ∨ s.mem.state = .leaving) (q : Station) :
    s.applyDrop q s.self = (s.raise .dropped).enterConfigured false := by
  unfold State.applyDrop
  obtain member | leaving := inside
  · rw [member]; exact if_pos rfl
  · rw [leaving]; exact if_pos rfl

theorem applyDrop_lapsed {s : State} (lapsed : s.mem.state = .lapsed) (q p : Station) :
    s.applyDrop q p = (s.raise .dropped).leaveLapsed := by
  unfold State.applyDrop
  rw [lapsed]

theorem applyLeave_other {s : State} {q : Station} (within : hasStation s.mem.roster q = true)
    (here : (s.mem.state = .listening ∨ s.mem.state = .joining)
      ∨ ((s.mem.state = .member ∨ s.mem.state = .leaving) ∧ q ≠ s.self)) :
    s.applyLeave q = s.removeStation q none := by
  rw [← removeIfIn_of_in within]
  unfold State.applyLeave
  obtain (listening | joining) | ⟨member | leaving, other⟩ := here
  · rw [listening]
  · rw [joining]
  · rw [member]; exact if_neg other
  · rw [leaving]; exact if_neg other

theorem applyLeave_own {s : State} (leaving : s.mem.state = .leaving) :
    s.applyLeave s.self = s.enterConfigured false := by
  unfold State.applyLeave
  rw [leaving]
  exact if_pos rfl

theorem applyLeave_lapsed {s : State} (lapsed : s.mem.state = .lapsed) (q : Station) : s.applyLeave q = s.leaveLapsed := by
  unfold State.applyLeave
  rw [lapsed]

theorem Removed.listener {s u : State} {p : Station} {poster : Option Station} (h : Removed s u p poster)
    (apart : s.mem.state = .listening ∨ s.mem.state = .joining) : s.listenerRemoved u p poster := by
  obtain ⟨state, roster, peer, _⟩ := h.mem
  refine ⟨state, roster, peer, h.counted.trans (if_neg ?_), h.reached, h.own⟩
  obtain listening | joining := apart
  · rw [listening]; decide
  · rw [joining]; decide

theorem applies_of_apart {s : State} (apart : s.mem.state = .listening ∨ s.mem.state = .joining) {r : Received}
    (kind : r.note.kind = .drop ∨ r.note.kind = .roster) : s.applies r = true := by
  unfold State.applies
  obtain state | state := apart <;> rw [state] <;> obtain kind | kind := kind <;> rw [kind]

section Tell

variable {s v : State} {rest : List Received} (told : Told s v rest)
include told

theorem Told.self_eq : v.self = s.self := by
  unfold State.self
  rw [told.mem]

theorem Told.home_eq : v.home = s.home := home_congr (faultSet_of_only told.only _)

/-- A departure after the note has been told, with or without a raised fault. -/
theorem Told.departed {x u : State} {st : StationState} (raised : x = v ∨ ∃ k, x = v.raise k) (gone : Departed x u st)
    (apart : ¬ (st = .leaving ∨ st = .lapsed)) : u.finished.mem.state = st ∧ u.finished.mem.roster = 0
      ∧ u.finished.trunk.queue = [] ∧ u.finished.area = s.area ∧ u.finished.window.faults = x.window.faults
      ∧ u.finished.emptied ∧ ∀ k, s.onWire k = false → u.finished.pendingOf k = [] := by
  have h := gone.finished apart
  have trunk : x.trunk = v.trunk := by
    obtain rfl | ⟨k, rfl⟩ := raised
    · rfl
    · exact raise_trunk ..
  have area : x.area = v.area := by
    obtain rfl | ⟨k, rfl⟩ := raised
    · rfl
    · exact (raise_only _ _).area_eq.1
  have emptied := h.emptied
  obtain ⟨roster, _, _, _, _, _, _, _, _, _, _, _, _, _, _, _, _, _, _, _, queue, _⟩ := emptied
  exact ⟨h.state, roster, queue, h.area.trans (area.trans told.area), h.faults, h.emptied, fun k free =>
    h.pending k ((onWire_of_trunk trunk k).trans ((told.wire k).trans free))⟩

end Tell

end Sys2Proof.Machine

namespace Sys2Proof

open Machine

/-- Settles O36: the removals by `Told.removed`, the departures by `Told.departed`. -/
theorem dropsAndLeavesRemove : Obligations.DropsAndLeavesRemove := by
  refine ⟨?drop, ?leave⟩
  case drop =>
    intro t s q p latch rest queue
    have run (applies : s.applies { sender := q, note := .drop p, latch := latch } = true) :
        ∃ v, Told s v rest ∧ exec (.processDrop t) s = .next (v.applyDrop q p).finished := by
      obtain ⟨v, told, ran⟩ := process_of_applies (r := { sender := q, note := .drop p, latch := latch }) queue
        (wanted := fun n => n.kind == .drop) rfl rfl applies t
      exact ⟨v, told, congrArg Host.Outcome.next ran⟩
    have raised_home {v : State} (told : Told s v rest) : (v.raise .dropped).home = s.home :=
      (home_congr (raise_faultSet_of_ne v (by decide))).trans told.home_eq
    have dropped {v w : State} (faults : w.window.faults = (v.raise .dropped).window.faults) :
        w.faultSet .dropped = true := by
      unfold State.faultSet
      rw [faults]
      exact raise_faultSet v .dropped
    refine ⟨fun inside sender other within => ?_, fun inside sender own => ?_, fun apart within => ?_,
      fun lapsed own => ?_⟩
    · obtain ⟨v, told, ran⟩ := run (applies_of_inside inside sender)
      rw [ran, applyDrop_other (told.roster ▸ within) q (.inr ⟨told.state ▸ inside, told.self_eq ▸ other⟩)]
      obtain ⟨queue', removed⟩ := told.removed p (some q)
      obtain ⟨state, roster, peer, silence⟩ := removed.mem
      refine ⟨_, rfl, queue', state, roster, peer, silence, ?_, removed.reached other⟩
      rw [removed.counted, if_pos inside]
    · obtain ⟨v, told, ran⟩ := run (applies_of_inside inside sender)
      rw [ran, own, ← told.self_eq, applyDrop_own (told.state ▸ inside) q]
      obtain ⟨state, roster, queue', _, faults, emptied, pending⟩ :=
        told.departed (.inr ⟨_, rfl⟩) (enterConfigured_departed (v.raise .dropped)) (home_apart _)
      exact ⟨_, rfl, state.trans (raised_home told), roster, dropped faults, queue', emptied, pending⟩
    · obtain ⟨v, told, ran⟩ := run (applies_of_apart apart (.inl rfl))
      rw [ran, applyDrop_other (told.roster ▸ within) q (.inl (told.state ▸ apart))]
      obtain ⟨queue', removed⟩ := told.removed p (some q)
      exact ⟨_, rfl, queue', removed.listener apart⟩
    · have applies : s.applies { sender := q, note := .drop p, latch := latch } = true := by
        unfold State.applies
        rw [lapsed, own]
        exact (congrArg (· || _) (beq_self_eq_true _)).trans (Bool.true_or _)
      obtain ⟨v, told, ran⟩ := run applies
      rw [ran, applyDrop_lapsed (told.state.trans lapsed) q p]
      obtain ⟨state, roster, _, _, faults, emptied, pending⟩ :=
        told.departed (.inr ⟨_, rfl⟩) (leaveLapsed_departed (v.raise .dropped)) (rejoin_apart _)
      refine ⟨_, rfl, dropped faults, roster, emptied, pending, ?_⟩
      rw [state, raised_home told, (raise_only v _).area_eq.1, told.area]
  case leave =>
    intro t s q latch rest queue
    have inside_applies (inside : s.mem.state = .member ∨ s.mem.state = .leaving) :
        s.applies { sender := q, note := .rosterLeave, latch := latch } = true := by
      unfold State.applies
      obtain state | state := inside <;> rw [state] <;> rfl
    have run (applies : s.applies { sender := q, note := .rosterLeave, latch := latch } = true) :
        ∃ v, Told s v rest ∧ exec (.processRosterLeave t) s = .next (v.applyLeave q).finished := by
      obtain ⟨v, told, ran⟩ := process_of_applies (r := { sender := q, note := .rosterLeave, latch := latch }) queue
        (wanted := fun n => n == .rosterLeave) rfl rfl applies t
      exact ⟨v, told, congrArg Host.Outcome.next ran⟩
    refine ⟨fun inside other within => ?_, fun apart within => ?_, fun leaving own => ?_, fun lapsed own => ?_⟩
    · obtain ⟨v, told, ran⟩ := run (inside_applies inside)
      rw [ran, applyLeave_other (told.roster ▸ within) (.inr ⟨told.state ▸ inside, told.self_eq ▸ other⟩)]
      obtain ⟨queue', removed⟩ := told.removed q none
      obtain ⟨state, roster, peer, silence⟩ := removed.mem
      refine ⟨_, rfl, queue', state, roster, peer, silence, ?_, removed.reached other⟩
      rw [removed.counted, if_pos inside]
    · obtain ⟨v, told, ran⟩ := run (applies_of_apart apart (.inr rfl))
      rw [ran, applyLeave_other (told.roster ▸ within) (.inl (told.state ▸ apart))]
      obtain ⟨queue', removed⟩ := told.removed q none
      exact ⟨_, rfl, queue', removed.listener apart⟩
    · obtain ⟨v, told, ran⟩ := run (inside_applies (.inr leaving))
      rw [ran, own, ← told.self_eq, applyLeave_own (told.state.trans leaving)]
      obtain ⟨state, roster, queue', area, faults, emptied, pending⟩ :=
        told.departed (.inl rfl) (enterConfigured_departed v) (home_apart _)
      exact ⟨_, rfl, state.trans told.home_eq, roster, queue', area, faults.trans (told.only .faults (by decide)), emptied,
        pending⟩
    · have applies : s.applies { sender := q, note := .rosterLeave, latch := latch } = true := by
        unfold State.applies
        rw [lapsed, own]
        exact (congrArg (_ || ·) (beq_self_eq_true _)).trans (Bool.or_true _)
      obtain ⟨v, told, ran⟩ := run applies
      rw [ran, applyLeave_lapsed (told.state.trans lapsed)]
      obtain ⟨state, roster, _, _, _, emptied, pending⟩ :=
        told.departed (.inl rfl) (leaveLapsed_departed v) (rejoin_apart _)
      refine ⟨_, rfl, roster, emptied, pending, ?_⟩
      rw [state, told.home_eq, told.area]

end Sys2Proof

/-! What the end checks make of own parts (R127, R135, R136): a COLLECTING part's taps become done, and it enters FLUSHING;
no other part changes. -/

namespace Sys2Proof.Machine

-- One proof at a time: the proofs of many statements at once take more threads than the memory holds.
set_option Elab.async false

/-! ### Own parts, place by place -/

/-- From s to u every own part has stayed in its place, changed by no more than R. -/
def PartsRel (R : OwnPart → OwnPart → Prop) (s u : State) : Prop :=
  ∀ i j, Option.Rel R (s.partAt i j) (u.partAt i j)

namespace PartsRel

variable {R : OwnPart → OwnPart → Prop}

theorem of_parts (refl : ∀ p, R p p) {s u : State} (parts : u.partAt = s.partAt) : PartsRel R s u := by
  intro i j
  rw [parts]
  cases s.partAt i j with
  | none => exact .none
  | some p => exact .some (refl p)

theorem of_only (refl : ∀ p, R p p) {S : List Piece} {s u : State} (only : Only S s u) (out : .parts ∉ S := by decide) :
    PartsRel R s u := of_parts refl (only .parts out)

theorem trans (trans : ∀ p q r, R p q → R q r → R p r) {s u v : State} (first : PartsRel R s u)
    (second : PartsRel R u v) : PartsRel R s v := by
  intro i j
  have a := first i j
  have b := second i j
  cases p : s.partAt i j with
  | none =>
    rw [p] at a
    cases q : u.partAt i j with
    | none => rw [q] at b; exact b
    | some y => rw [q] at a; cases a
  | some x =>
    rw [p] at a
    cases q : u.partAt i j with
    | none => rw [q] at a; cases a
    | some y =>
      rw [q] at a b
      cases a with
      | some hxy =>
        cases r : v.partAt i j with
        | none => rw [r] at b; cases b
        | some z =>
          rw [r] at b
          cases b with
          | some hyz => exact .some (trans x y z hxy hyz)

theorem part {s u : State} (h : PartsRel R s u) {i : Fin 8} {j : Fin 2} {p : OwnPart} (at_p : s.partAt i j = some p) :
    ∃ p', u.partAt i j = some p' ∧ R p p' := by
  have rel := h i j
  rw [at_p] at rel
  cases at_u : u.partAt i j with
  | none => rw [at_u] at rel; cases rel
  | some p' =>
    rw [at_u] at rel
    cases rel with
    | some related => exact ⟨p', rfl, related⟩

theorem isSome {s u : State} (h : PartsRel R s u) (i : Fin 8) (j : Fin 2) :
    (u.partAt i j).isSome = (s.partAt i j).isSome := by
  have rel := h i j
  cases p : s.partAt i j <;> cases q : u.partAt i j <;> rw [p, q] at rel <;> cases rel <;> rfl

theorem modifyPart (refl : ∀ p, R p p) {s : State} {i : Fin 8} {j : Fin 2} {f : OwnPart → OwnPart}
    (changes : ∀ p, s.partAt i j = some p → R p (f p)) : PartsRel R s (s.modifyPart i j f) := by
  intro n m
  by_cases here : n = i ∧ m = j
  · obtain ⟨rfl, rfl⟩ := here
    rw [modifyPart_partAt_same]
    cases part : s.partAt n m with
    | none => exact .none
    | some p => exact .some (changes p part)
  · rw [modifyPart_partAt_of_ne s (not_and_or.mp here) f]
    cases s.partAt n m with
    | none => exact .none
    | some p => exact .some (refl p)

theorem foldl {α : Type} {f : State → α → State} (refl : ∀ p, R p p) (all : ∀ p q r, R p q → R q r → R p r)
    (step : ∀ s a, PartsRel R s (f s a)) (l : List α) (s : State) : PartsRel R s (l.foldl f s) := by
  induction l generalizing s with
  | nil => exact of_parts refl rfl
  | cons a l ih => exact trans all (step s a) (ih _)

end PartsRel

/-! ### What the end checks change (R135, R136) -/

/-- A COLLECTING part may have taps done and be FLUSHING, with its flush waiting; any other stays. -/
structure OwnPart.Ends (p q : OwnPart) : Prop where
  gapRows : q.gapRows = p.gapRows
  timer : q.timer = p.timer
  rows : ∀ t : Tap, (q.taps[t]).written = (p.taps[t]).written ∧ (q.taps[t]).filled = (p.taps[t]).filled
  done : ∀ t : Tap, (p.taps[t]).done = true → (q.taps[t]).done = true
  kept : p.state ≠ .collecting → q = p
  state : p.state = .collecting → (q.state = .collecting ∧ q.flush = p.flush) ∨ (q.state = .flushing ∧ q.flush = .waiting)

theorem OwnPart.Ends.refl (p : OwnPart) : p.Ends p :=
  ⟨rfl, rfl, fun _ => ⟨rfl, rfl⟩, fun _ done => done, fun _ => rfl, fun state => .inl ⟨state, rfl⟩⟩

theorem OwnPart.Ends.trans (p q r : OwnPart) (first : p.Ends q) (second : q.Ends r) : p.Ends r where
  gapRows := second.gapRows.trans first.gapRows
  timer := second.timer.trans first.timer
  rows t := ⟨(second.rows t).1.trans (first.rows t).1, (second.rows t).2.trans (first.rows t).2⟩
  done t done := second.done t (first.done t done)
  kept other := by
    obtain rfl := first.kept other
    exact second.kept other
  state collecting := by
    obtain ⟨state, flush⟩ | ⟨state, flush⟩ := first.state collecting
    · obtain ⟨state', flush'⟩ | ended := second.state state
      · exact .inl ⟨state', flush'.trans flush⟩
      · exact .inr ended
    · obtain rfl := second.kept (by rw [state]; decide)
      exact .inr ⟨state, flush⟩

/-- From s to u own parts have changed by end checks only. -/
abbrev PartsEnd (s u : State) : Prop := PartsRel OwnPart.Ends s u

namespace PartsEnd

theorem next {s u v : State} (first : PartsEnd s u) (second : PartsEnd u v) : PartsEnd s v :=
  PartsRel.trans OwnPart.Ends.trans first second

theorem of_only {S : List Piece} {s u : State} (only : Only S s u) (out : .parts ∉ S := by decide) : PartsEnd s u :=
  PartsRel.of_only OwnPart.Ends.refl only out

theorem ite {p : Prop} [Decidable p] {s u v : State} (yes : p → PartsEnd s u) (no : ¬ p → PartsEnd s v) :
    PartsEnd s (if p then u else v) := by
  split
  · next hp => exact yes hp
  · next hp => exact no hp

theorem foldl {α : Type} {f : State → α → State} (step : ∀ s a, PartsEnd s (f s a)) (l : List α) (s : State) :
    PartsEnd s (l.foldl f s) := PartsRel.foldl OwnPart.Ends.refl OwnPart.Ends.trans step l s

theorem same (s : State) : PartsEnd s s := PartsRel.of_parts OwnPart.Ends.refl rfl

theorem setTap_done (p : OwnPart) (t : Tap) (collecting : p.state = .collecting) :
    p.Ends (p.setTap t fun x => { x with done := true }) := by
  have taps (n : Tap) : (p.setTap t fun x => { x with done := true }).taps[n]
      = if n = t then { p.taps[n] with done := true } else p.taps[n] := by
    split
    · next here => rw [here]; exact Vector.getElem_set_self ..
    · next other => exact getElem_set_of_ne p.taps _ other
  refine ⟨rfl, rfl, fun n => ?_, fun n done => ?_, fun other => absurd collecting other, fun _ => .inl ⟨collecting, rfl⟩⟩
  · rw [taps]
    split <;> exact ⟨rfl, rfl⟩
  · rw [taps]
    split
    · rfl
    · exact done

theorem tapDone (s : State) (t : Tap) (k : Nat) : PartsEnd s (s.tapDone t k) := by
  refine foldl (fun v q => ite (fun _ => PartsRel.modifyPart OwnPart.Ends.refl fun p _ => ?_) fun _ => same v) _ s
  split
  · next collecting => exact setTap_done p t collecting
  · exact .refl p

theorem finishMarked (s : State) (t : Tap) : PartsEnd s (s.finishMarked t) :=
  foldl (fun v k => ite (fun _ => tapDone v t k) fun _ => same v) _ s

theorem startFlushes (s : State) : PartsEnd s s.startFlushes := by
  refine foldl (fun v q => ?_) _ s
  dsimp only
  split
  · next p part =>
    refine ite (fun ended => next ?_ (of_only (present_only _ _))) fun _ => same v
    refine PartsRel.modifyPart OwnPart.Ends.refl fun p' part' => ?_
    obtain rfl := Option.some.inj (part.symm.trans part')
    exact ⟨rfl, rfl, fun _ => ⟨rfl, rfl⟩, fun _ done => done, fun other => absurd ended.1 other, fun _ => .inr ⟨rfl, rfl⟩⟩
  · exact same v

theorem endCheck (s : State) (t : Tap) : PartsEnd s (s.endCheck t) :=
  ite (fun _ => same s) fun _ => (finishMarked s t).next (startFlushes _)

theorem endChecks (s : State) : PartsEnd s s.endChecks := (endCheck s 0).next (endCheck _ 1)

theorem settleTap (s : State) (t : Tap) : PartsEnd s (s.settleTap t) := by
  have judged := (of_only (discardHeads_only t (s.taps[t]).lines s)).next (of_only (judgeWait_only _ t))
  exact ite (fun _ => judged.next (endCheck _ t)) fun _ => judged

theorem settle (s : State) : PartsEnd s s.settle := (settleTap s 0).next (settleTap _ 1)

theorem afterTap (s : State) : PartsEnd s s.afterTap := (settle s).next (endChecks _)

theorem finished (s : State) : PartsEnd s s.finished := (of_only (keepLeaveClaimed_only s)).next (afterTap _)

end PartsEnd

end Sys2Proof.Machine

/-! The processing of an OPEN (R99, R102 to R105, R117): the grants it consumes and the entry it makes. -/

namespace Sys2Proof.Machine

-- One proof at a time: the proofs of many statements at once take more threads than the memory holds.
set_option Elab.async false

/-! ### The entries of an OPEN (R101a, R103) -/

theorem steered_map (entries : StreamEntries) :
    entries.steered.map Prod.snd = [entries.entry 0, entries.entry 1].filterMap id := by
  unfold StreamEntries.steered
  cases first : entries.entry 0 <;> cases second : entries.entry 1 <;> simp [first, second]

theorem steered_isEmpty (entries : StreamEntries) :
    entries.steered.isEmpty = true ↔ [entries.entry 0, entries.entry 1].filterMap id = [] := by
  rw [← steered_map, List.isEmpty_iff, List.map_eq_nil_iff]

theorem steered_all (entries : StreamEntries) (test : Steer → Bool) : (entries.steered.all fun e => test e.2) = true
    ↔ ∀ e ∈ [entries.entry 0, entries.entry 1].filterMap id, test e = true := by
  rw [← steered_map, List.all_eq_true, List.forall_mem_map]

/-- The grant of a stream's entry is consumed, if it has one. -/
def State.consumeEntry (s : State) (j : Fin 2) (o : Option Steer) : State := o.elim s (s.consumeSteer j)

/-! ### The grants it consumes (R104) -/

theorem consumeEntry_only (s : State) (j : Fin 2) (o : Option Steer) :
    Only [.channels, .framesCtr, .rotation] s (s.consumeEntry j o) := by
  cases o with
  | none => exact .refl _ s
  | some x => exact consumeSteer_only s j x

theorem consumeEntry_rotation_same (s : State) (j : Fin 2) (x : Steer) :
    (s.consumeEntry j (some x)).frames.rotation[j] = some x.channel := Vector.getElem_set_self ..

theorem consumeEntry_rotation_of_ne (s : State) {i j : Fin 2} (other : i ≠ j) (o : Option Steer) :
    (s.consumeEntry j o).frames.rotation[i] = s.frames.rotation[i] := by
  cases o with
  | none => rfl
  | some x =>
    refine (getElem_set_of_ne _ _ other).trans ?_
    split <;> rfl

theorem consumeEntry_channel_same {s : State} {x : Steer} (known : x.channel.val < cfgChannels s.area) (j : Fin 2) :
    (s.consumeEntry j (some x)).frames.channels[x.channel] = (s.frames.channels[x.channel]).consume x.seq := by
  have consumed : (s.consumeEntry j (some x)).frames.channels
      = s.frames.channels.set x.channel ((s.frames.channels[x.channel]).consume x.seq) := by
    unfold State.consumeEntry State.consumeSteer
    dsimp only [Option.elim]
    rw [if_pos known]
    rfl
  rw [consumed]
  exact Vector.getElem_set_self ..

theorem consumeEntry_channel_of_ne (s : State) (j : Fin 2) {o : Option Steer} {c : Fin 8}
    (other : ∀ x, o = some x → x.channel ≠ c) : (s.consumeEntry j o).frames.channels[c] = s.frames.channels[c] := by
  cases o with
  | none => rfl
  | some x =>
    unfold State.consumeEntry State.consumeSteer
    dsimp only [Option.elim]
    split
    · exact getElem_set_of_ne s.frames.channels _ (other x rfl).symm
    · rfl

theorem consumeEntry_opened (s : State) (j : Fin 2) (o : Option Steer) :
    (s.consumeEntry j o).ctr.frames.framesOpened = s.ctr.frames.framesOpened := by
  cases o with
  | none => rfl
  | some x =>
    unfold State.consumeEntry State.consumeSteer
    dsimp only [Option.elim]
    split <;> rfl

/-- The grants of both streams' entries are consumed (R104). -/
def State.consumeEntries (s : State) (entries : StreamEntries) : State :=
  (s.consumeEntry 0 (entries.entry 0)).consumeEntry 1 (entries.entry 1)

theorem steered_foldl (s : State) (entries : StreamEntries) :
    entries.steered.foldl (fun s e => s.consumeSteer e.1 e.2) s
      = s.consumeEntries entries := by
  unfold StreamEntries.steered State.consumeEntries State.consumeEntry
  cases first : entries.entry 0 <;> cases second : entries.entry 1 <;> simp [first, second]

section Entries

variable (s : State) (entries : StreamEntries)

theorem consumeEntries_only : Only [.channels, .framesCtr, .rotation] s (s.consumeEntries entries) :=
  (consumeEntry_only s 0 _).trans (consumeEntry_only _ 1 _)

theorem consumeEntries_opened : (s.consumeEntries entries).ctr.frames.framesOpened = s.ctr.frames.framesOpened :=
  (consumeEntry_opened _ 1 _).trans (consumeEntry_opened s 0 _)

variable {entries}

theorem consumeEntries_rotation {j : Fin 2} {x : Steer} (steered : entries.entry j = some x) :
    (s.consumeEntries entries).frames.rotation[j] = some x.channel := by
  unfold State.consumeEntries
  obtain rfl | rfl : j = 0 ∨ j = 1 := by omega
  · rw [consumeEntry_rotation_of_ne _ (by decide), steered]
    exact consumeEntry_rotation_same ..
  · rw [steered]
    exact consumeEntry_rotation_same ..

theorem consumeEntries_channel_of_ne {c : Fin 8} (other : ∀ j x, entries.entry j = some x → x.channel ≠ c) :
    (s.consumeEntries entries).frames.channels[c] = s.frames.channels[c] := by
  unfold State.consumeEntries
  rw [consumeEntry_channel_of_ne _ 1 (other 1), consumeEntry_channel_of_ne _ 0 (other 0)]

theorem consumeEntries_channel {j : Fin 2} {x : Steer} (steered : entries.entry j = some x)
    (known : x.channel.val < cfgChannels s.area)
    (alone : ∀ (i : Fin 2) (y : Steer), i ≠ j → entries.entry i = some y → y.channel ≠ x.channel) :
    (s.consumeEntries entries).frames.channels[x.channel] = (s.frames.channels[x.channel]).consume x.seq := by
  unfold State.consumeEntries
  obtain rfl | rfl : j = 0 ∨ j = 1 := by omega
  · rw [consumeEntry_channel_of_ne _ 1 fun y => alone 1 y (by decide), steered]
    exact consumeEntry_channel_same known 0
  · have known' : x.channel.val < cfgChannels (s.consumeEntry 0 (entries.entry 0)).area := by
      rw [(consumeEntry_only s 0 _).area_eq.1]
      exact known
    rw [steered, consumeEntry_channel_same known' 1, consumeEntry_channel_of_ne _ 0 fun y => alone 0 y (by decide)]

end Entries

/-- What a channel holds after its grant has been consumed, as R104 says it. -/
theorem consume_spec (ch : Channel) (q : Byte) :
    let v := ch.consume q
    let passed := ∃ b, ch.blind = some b ∧ seqAtOrBelow b q = true
    v.lastSeen = some (match ch.lastSeen with
      | some l => if seqAbove q l then q else l
      | none => q)
    ∧ (ch.complete = true → v = { ch with queue := ch.queue.drop 1, lastSeen := v.lastSeen })
    ∧ (ch.complete = false →
        v.queue = ch.queue.filter (fun g => !seqAtOrBelow g.seq q)
        ∧ v.nextSeq = (if seqAbove q ch.nextSeq = true ∨ q = ch.nextSeq then q + 1 else ch.nextSeq)
        ∧ (passed → v.complete = true ∧ v.blind = none)
        ∧ (¬ passed → v.complete = false ∧ v.blind = ch.blind)) := by
  intro v passed
  have complete_case (complete : ch.complete = true) : v = { ch with
      queue := ch.queue.drop 1, lastSeen := raiseSeq ch.lastSeen q } := if_pos complete
  have incomplete_case (incomplete : ch.complete = false) : v = {
      queue := ch.queue.filter fun g => !seqAtOrBelow g.seq q
      complete := match ch.blind with | some b => seqAtOrBelow b q | none => false
      blind := if (match ch.blind with | some b => seqAtOrBelow b q | none => false) then none else ch.blind
      nextSeq := if seqAbove q ch.nextSeq || q == ch.nextSeq then q + 1 else ch.nextSeq
      lastSeen := raiseSeq ch.lastSeen q } := if_neg (by rw [incomplete]; decide)
  refine ⟨?_, fun complete => ?_, fun incomplete => ?_⟩
  · refine Eq.trans (b := raiseSeq ch.lastSeen q) ?_ (raiseSeq_eq ch.lastSeen q)
    cases complete : ch.complete with
    | true => rw [complete_case complete]
    | false => rw [incomplete_case complete]
  · rw [complete_case complete]
  · have passes : (match ch.blind with | some b => seqAtOrBelow b q | none => false) = true ↔ passed := by
      cases blind : ch.blind <;> simp [passed, blind]
    rw [incomplete_case incomplete]
    refine ⟨rfl, ?_, fun pass => ?_, fun stuck => ?_⟩
    · simp only [Bool.or_eq_true, beq_iff_eq]
    · exact ⟨passes.mpr pass, if_pos (passes.mpr pass)⟩
    · exact ⟨Bool.eq_false_iff.mpr fun pass => stuck (passes.mp pass), if_neg fun pass => stuck (passes.mp pass)⟩

/-! ### The entry that it makes (R97, R105, R122) -/

/-- An entry stays, but for own parts. -/
theorem Only.known_slot {S : List Piece} {s u : State} (h : Only S s u) {i : Fin 8} {e : Entry}
    (known : s.frames.slots[i] = .known e) (out : .entries ∉ S := by decide) :
    ∃ e', u.frames.slots[i] = .known e' ∧ e'.frame = e.frame ∧ e'.resumed = e.resumed
      ∧ ∀ j : Fin 2, (e'.legs[j]).bare = (e.legs[j]).bare := by
  have bare : (u.frames.slots[i]).bare = (s.frames.slots[i]).bare := map_eq_getElem (h .entries out) i
  rw [known] at bare
  cases slot : u.frames.slots[i] with
  | free => rw [slot] at bare; cases bare
  | foreign k => rw [slot] at bare; cases bare
  | known e' =>
    rw [slot] at bare
    have same := Slot.known.inj bare
    exact ⟨e', rfl, (congrArg Entry.frame same :), (congrArg Entry.resumed same :),
      map_eq_getElem (congrArg Entry.legs same :)⟩

/-- The entry of an OPEN for frame k. -/
def State.newEntry (s : State) (k : Nat) (mask : StationSet) (entries : StreamEntries) : Entry :=
  { frame := k, resumed := s.frames.resume == some k
    legs := #v[newLeg s.self mask (entries.entry 0), newLeg s.self mask (entries.entry 1)] }

theorem newEntry_leg (s : State) (k : Nat) (mask : StationSet) (entries : StreamEntries) (j : Fin 2) :
    ((s.newEntry k mask entries).legs[j]) = newLeg s.self mask (entries.entry j) := by
  obtain rfl | rfl : j = 0 ∨ j = 1 := by omega
  · rfl
  · rfl

/-- The frame has been entered; the checks of its parts are to come. -/
def State.slotEntered (s : State) (k : Nat) (mask : StationSet) (entries : StreamEntries) : State :=
  (s.setSlot (slotOf k) (.known (s.newEntry k mask entries))).bump
    (countFrames fun f => { f with framesOpened := f.framesOpened + 1 })

theorem enterFrame_eq (s : State) (k : Nat) (mask : StationSet) (entries : StreamEntries) : s.enterFrame k mask entries
    = (((s.slotEntered k mask entries).bornVoid (slotOf k) 0).bornVoid (slotOf k) 1).startLegTimers.endChecks := rfl

/-- Own parts stay, whatever becomes of them. -/
abbrev PartsStay (s u : State) : Prop := PartsRel (fun _ _ => True) s u

theorem PartsStay.next {s u v : State} (first : PartsStay s u) (second : PartsStay u v) : PartsStay s v :=
  PartsRel.trans (fun _ _ _ _ _ => trivial) first second

theorem PartsStay.of_only {S : List Piece} {s u : State} (only : Only S s u) (out : .parts ∉ S := by decide) :
    PartsStay s u := PartsRel.of_only (fun _ => trivial) only out

theorem PartsStay.modifyPart (s : State) (i : Fin 8) (j : Fin 2) (f : OwnPart → OwnPart) :
    PartsStay s (s.modifyPart i j f) := PartsRel.modifyPart (fun _ => trivial) fun _ _ => trivial

theorem PartsStay.markVoid (s : State) (i : Fin 8) (j : Fin 2) : PartsStay s (s.markVoid i j) :=
  (modifyPart s i j _).next (of_only (dropFlush_only _ i j))

theorem PartsStay.bornVoid (s : State) (i : Fin 8) (j : Fin 2) : PartsStay s (s.bornVoid i j) := by
  have same : PartsStay s s := of_only (.refl [] s)
  have voided : PartsStay s (s.voidPart i j) :=
    ((markVoid s i j).next (of_only (claimDone_only _ i j false))).next (of_only (bumpDelivery_only _ _))
  unfold State.bornVoid
  split
  · split
    · exact markVoid s i j
    · split
      · exact same
      · exact voided
  · exact same

theorem PartsStay.startLegTimers (s : State) : PartsStay s s.startLegTimers := by
  have same (v : State) : PartsStay v v := of_only (.refl [] v)
  unfold State.startLegTimers
  split
  · exact same s
  · refine PartsRel.foldl (fun _ => trivial) (fun _ _ _ _ _ => trivial) (fun v q => ?_) _ s
    dsimp only
    split
    · exact modifyPart v _ _ _
    · exact same v

/-- From the entered slot on, the entry stays but for own parts, and own parts stay. -/
theorem enterFrame_after (s : State) (k : Nat) (mask : StationSet) (entries : StreamEntries) :
    Only (voidPieces ++ claimPieces ++ settlePieces) (s.slotEntered k mask entries) (s.enterFrame k mask entries).finished
      ∧ ∀ i j, ((s.enterFrame k mask entries).finished.partAt i j).isSome
        = ((s.slotEntered k mask entries).partAt i j).isSome := by
  rw [enterFrame_eq]
  generalize s.slotEntered k mask entries = v
  have only := (bornVoid_only v (slotOf k) 0).next (bornVoid_only _ (slotOf k) 1)
  have timed := only.next (startLegTimers_only _)
  have ended := (timed.mono (S := voidPieces ++ claimPieces ++ settlePieces) (by decide)).next (endChecks_only _)
  refine ⟨ended.next (finished_only _), fun i j => ?_⟩
  have parts := ((PartsStay.bornVoid v (slotOf k) 0).next (.bornVoid _ (slotOf k) 1)).next (.startLegTimers _)
  exact ((PartsEnd.endChecks _).next (.finished _)).isSome i j |>.trans (parts.isSome i j)

theorem enterFrame_entry (s : State) (k : Nat) (mask : StationSet) (entries : StreamEntries) :
    ∃ e, (s.enterFrame k mask entries).finished.frames.slots[slotOf k] = .known e ∧ e.frame = k
      ∧ e.resumed = (s.frames.resume == some k)
      ∧ ∀ j : Fin 2, (e.legs[j]).bare = (newLeg s.self mask (entries.entry j)).bare
        ∧ (e.legs[j]).own.isSome = ((entries.entry j).isSome && hasStation mask s.self) := by
  obtain ⟨only, parts⟩ := enterFrame_after s k mask entries
  have entered : (s.slotEntered k mask entries).frames.slots[slotOf k] = .known (s.newEntry k mask entries) :=
    setSlot_slots_same ..
  obtain ⟨e, slot, frame, resumed, legs⟩ := only.known_slot entered
  refine ⟨e, slot, frame, resumed, fun j => ⟨(legs j).trans (congrArg Leg.bare (newEntry_leg ..)), ?_⟩⟩
  have own (v : State) (e : Entry) (slot : v.frames.slots[slotOf k] = .known e) : v.partAt (slotOf k) j = (e.legs[j]).own := by
    unfold State.partAt
    rw [legAt_known slot]
    rfl
  rw [← own _ e slot, parts, own _ _ entered, newEntry_leg]
  unfold newLeg
  dsimp only
  split
  · next both => exact both.symm
  · next neither => exact (Bool.eq_false_iff.mpr neither).symm

/-! ### The cases of an OPEN (R99, R103, R117) -/

/-- The state in which an OPEN's grants are consumed (R99, R103). -/
def State.openRaised (s : State) (k : Nat) : State := (s.raiseH k).clearForeign (slotOf k)

theorem openRaised_only (s : State) (k : Nat) : Only [.h, .framesCtr, .entries, .parts] s (s.openRaised k) :=
  ((raiseH_only s k).mono (by decide)).next (clearForeign_only _ _)

theorem openRaised_h (s : State) (k : Nat) : (s.openRaised k).frames.h = k := clearForeign_only _ _ .h (by decide)

theorem openRaised_counts (s : State) (k : Nat) : (s.openRaised k).ctr.frames = { s.ctr.frames with
    framesSkipped := s.ctr.frames.framesSkipped + BitVec.ofNat 32 (k - s.frames.h - 1) } :=
  clearForeign_only (s.raiseH k) (slotOf k) .framesCtr (by decide)

theorem openRaised_channels (s : State) (k : Nat) : (s.openRaised k).frames.channels = s.frames.channels :=
  openRaised_only s k .channels (by decide)

theorem openRaised_grantMatches (s : State) (k : Nat) (e : Steer) : (s.openRaised k).grantMatches e = s.grantMatches e := by
  unfold State.grantMatches
  rw [openRaised_channels]

section Cases

variable {s : State} {f : BitVec 16} {mask : StationSet} {entries : StreamEntries}

theorem applyOpening_ignored (ignored : s.openIgnored (extendFrame s.area s.currentFrame f) entries = true) :
    s.applyOpening f mask entries = s.bump (countFrames countOpenIgnored) := if_pos ignored

variable (kept : s.openIgnored (extendFrame s.area s.currentFrame f) entries = false)
include kept

theorem applyOpening_lost (unsteered : entries.steered.isEmpty = true) : s.applyOpening f mask entries
    = (s.raiseH (extendFrame s.area s.currentFrame f)).bump (countFrames countFrameLost) := by
  unfold State.applyOpening
  dsimp only
  rw [if_neg (by rw [kept]; decide), if_pos unsteered]

variable (steered : entries.steered.isEmpty = false)
include steered

theorem applyOpening_desync (clash : (s.frames.slots[slotOf (extendFrame s.area s.currentFrame f)]).entry ≠ none
      ∨ (entries.steered.all fun e => s.grantMatches e.2) = false) :
    ∃ v, Only [.h, .framesCtr, .entries, .parts] s v
      ∧ v.frames.h = extendFrame s.area s.currentFrame f
      ∧ v.ctr.frames.framesLost = s.ctr.frames.framesLost + 1 ∧ v.ctr.frames.desyncSeen = s.ctr.frames.desyncSeen
      ∧ s.applyOpening f mask entries = v.desync := by
  unfold State.applyOpening
  dsimp only
  rw [if_neg (by rw [kept]; decide), if_neg (by rw [steered]; decide)]
  have raised := (raiseH_only s (extendFrame s.area s.currentFrame f)).mono (S := [.h, .framesCtr, .entries, .parts])
    (by decide)
  split
  · exact ⟨_, raised.next (bumpFrames_only _ countFrameLost), rfl, rfl, rfl, rfl⟩
  · next vacant =>
    have unmatched := clash.resolve_left fun entry => vacant (Option.isSome_iff_ne_none.mpr entry)
    have unmatched' : ¬ (entries.steered.all fun e =>
        (s.openRaised (extendFrame s.area s.currentFrame f)).grantMatches e.2) = true := by
      simp only [openRaised_grantMatches, unmatched]
      decide
    have only := (openRaised_only s (extendFrame s.area s.currentFrame f)).next (bumpFrames_only _ countFrameLost)
    have counts := openRaised_counts s (extendFrame s.area s.currentFrame f)
    refine ⟨_, only, openRaised_h _ _, ?_, ?_, if_neg unmatched'⟩
    · exact congrArg (· + 1) (congrArg FrameCounters.framesLost counts :)
    · exact (congrArg FrameCounters.desyncSeen counts :)

theorem applyOpening_entered (vacant : (s.frames.slots[slotOf (extendFrame s.area s.currentFrame f)]).entry = none)
    (matched : (entries.steered.all fun e => s.grantMatches e.2) = true) : s.applyOpening f mask entries
      = ((s.openRaised (extendFrame s.area s.currentFrame f)).consumeEntries entries).enterFrame
        (extendFrame s.area s.currentFrame f) mask entries := by
  have matches_eq : (entries.steered.all fun e =>
      (s.openRaised (extendFrame s.area s.currentFrame f)).grantMatches e.2) = true := by
    simpa only [openRaised_grantMatches] using matched
  have empty : ((s.raiseH (extendFrame s.area s.currentFrame f)).frames.slots[
      slotOf (extendFrame s.area s.currentFrame f)]).entry.isSome = false := by
    rw [show (s.raiseH (extendFrame s.area s.currentFrame f)).frames.slots = s.frames.slots from rfl, vacant]
    rfl
  unfold State.applyOpening
  dsimp only
  rw [if_neg (by rw [kept]; decide), if_neg (by rw [steered]; decide), if_neg (by rw [empty]; decide)]
  refine (if_pos matches_eq).trans ?_
  rw [steered_foldl]
  rfl

end Cases

end Sys2Proof.Machine

namespace Sys2Proof

open Machine

/-- Settles O37: the four cases of `State.applyOpening`, with the grants by `consume_spec` and the entry by
`enterFrame_entry`. -/
theorem openEntersFrame : Obligations.OpenEntersFrame := by
  intro t s q f mask entries latch rest queue inside sender k ignored steered
  obtain ⟨v, told, ran⟩ := process_applied (r := { sender := q, note := .opening f mask entries, latch := latch }) queue
    (wanted := fun n => n.kind == .opening) rfl rfl inside sender t
  have ran' : exec (.processOpen t) s = .next (v.applyOpening f mask entries).finished := congrArg Host.Outcome.next ran
  have at_k : extendFrame v.area v.currentFrame f = k := by rw [told.area, told.currentFrame]
  have before := told.frames
  have channels : v.frames.channels = s.frames.channels := by rw [before]
  have counts : v.ctr.frames = s.ctr.frames := told.only .framesCtr (by decide)
  have level : v.frames.h = s.frames.h := by rw [before]
  have ignored_iff : v.openIgnored (extendFrame v.area v.currentFrame f) entries = true ↔ ignored := by
    have allowed : v.allowed k = s.allowed k := by
      unfold State.allowed
      rw [before]
    rw [at_k]
    unfold State.openIgnored
    rw [level, allowed, told.area]
    simp [ignored, or_assoc]
  have kept (w : State) : w.finished.frames.h = w.frames.h ∧ w.finished.frames.channels = w.frames.channels
      ∧ w.finished.ctr.frames = w.ctr.frames ∧ w.finished.mem = w.mem ∧ w.finished.trunk = w.trunk :=
    ⟨finished_only w .h (by decide), finished_only w .channels (by decide), finished_only w .framesCtr (by decide),
      (finished_only w).mem_same, (finished_only w).trunk_same⟩
  have taken (applies : ¬ ignored) : v.openIgnored (extendFrame v.area v.currentFrame f) entries = false :=
    Bool.eq_false_iff.mpr fun yes => applies (ignored_iff.mp yes)
  have some_steered (nonempty : steered ≠ []) : entries.steered.isEmpty = false :=
    Bool.eq_false_iff.mpr fun empty => nonempty ((steered_isEmpty entries).mp empty)
  have matches_eq (e : Steer) : v.grantMatches e = s.grantMatches e := by
    unfold State.grantMatches
    rw [channels]
  have entry_eq : (v.frames.slots[slotOf (extendFrame v.area v.currentFrame f)]).entry = (s.frames.slots[slotOf k]).entry := by
    rw [told.only.slots_same]
    exact congrArg (fun i : Fin 8 => (s.frames.slots[i]).entry) (congrArg slotOf at_k)
  rw [ran']
  refine ⟨fun skip => ⟨_, rfl, ?_⟩, fun applies empty => ⟨_, rfl, ?_⟩, fun applies nonempty clash => ⟨_, rfl, ?_⟩,
    fun applies nonempty vacant matched => ?_⟩
  · obtain ⟨h, ch, ctr, mem, trunk⟩ := kept (v.applyOpening f mask entries)
    rw [h, ch, ctr, mem, trunk, applyOpening_ignored (ignored_iff.mpr skip)]
    exact ⟨told.queue, told.state, level, channels,
      congrArg (fun c : FrameCounters => { c with opensIgnored := c.opensIgnored + 1 }) counts⟩
  · obtain ⟨h, ch, ctr, mem, trunk⟩ := kept (v.applyOpening f mask entries)
    rw [h, ch, ctr, mem, applyOpening_lost (taken applies) ((steered_isEmpty entries).mpr empty), at_k]
    refine ⟨told.state, rfl, channels, ?_⟩
    rw [← counts, ← level]
    rfl
  · obtain ⟨w, only, h', lost, seen, desync⟩ := applyOpening_desync (mask := mask) (taken applies) (some_steered nonempty)
      (clash.imp (fun entry => by rw [entry_eq]; exact entry) fun ⟨e, within, unmatched⟩ =>
        Bool.eq_false_iff.mpr fun all => absurd ((steered_all entries v.grantMatches).mp all e within)
          (by rw [matches_eq, unmatched]; decide))
    obtain ⟨h, ch, ctr, mem, trunk⟩ := kept (v.applyOpening f mask entries)
    have after := desync_only w
    have tallied : w.desync.ctr.frames = { w.ctr.frames with desyncSeen := w.ctr.frames.desyncSeen + 1 } := by
      have lapsed : w.desync.ctr.frames = ((w.raise .desync).bump
        (countFrames fun f => { f with desyncSeen := f.desyncSeen + 1 })).ctr.frames :=
        (lapseFrom_only _ _) .framesCtr (by decide)
      have raised : (w.raise .desync).ctr.frames = w.ctr.frames := (raise_only _ _) .framesCtr (by decide)
      rw [lapsed, ← raised]
      rfl
    rw [h, ch, ctr, mem, faultSet_of_only (finished_only _), desync]
    refine ⟨(after .h (by decide)).trans (h'.trans at_k),
      (after .channels (by decide)).trans ((only .channels (by decide)).trans channels), desync_faultSet w, ?_, ?_, ?_⟩
    · rw [(congrArg FrameCounters.desyncSeen tallied :), seen, counts]
    · rw [(congrArg FrameCounters.framesLost tallied :), lost, counts]
    · rw [desync_state, only.mem_same, told.state]
      obtain member | leaving := inside
      · rw [if_pos member, if_pos member]
      · rw [leaving]
  · have entered := applyOpening_entered (mask := mask) (taken applies) (some_steered nonempty) (entry_eq.trans vacant)
      ((steered_all entries v.grantMatches).mpr fun e within => (matches_eq e).trans (matched e within))
    rw [at_k] at entered
    have raised := openRaised_only v k
    have consumed := consumeEntries_only (v.openRaised k) entries
    have raised_channels := (openRaised_channels v k).trans channels
    have area : (v.openRaised k).area = s.area := raised.area_eq.1.trans told.area
    have opened : ((v.openRaised k).consumeEntries entries).ctr.frames.framesOpened = s.ctr.frames.framesOpened := by
      rw [consumeEntries_opened, (congrArg FrameCounters.framesOpened (openRaised_counts v k) :), counts]
    have level' : ((v.openRaised k).consumeEntries entries).frames.h = k := (consumed .h (by decide)).trans (openRaised_h v k)
    have mem : ((v.openRaised k).consumeEntries entries).mem = v.mem := by rw [consumed.mem_same, raised.mem_same]
    have self_eq : ((v.openRaised k).consumeEntries entries).self = s.self := by
      unfold State.self
      rw [mem, told.mem]
    have resume : ((v.openRaised k).consumeEntries entries).frames.resume = s.frames.resume := by
      rw [consumed.gate_eq.2.2.1, raised.gate_eq.2.2.1, before]
    have rotation (j : Fin 2) {x : Steer} := consumeEntries_rotation (v.openRaised k) (entries := entries) (j := j) (x := x)
    have channel (j : Fin 2) {x : Steer} := consumeEntries_channel (v.openRaised k) (entries := entries) (j := j) (x := x)
    have other {c : Fin 8} := consumeEntries_channel_of_ne (v.openRaised k) (entries := entries) (c := c)
    generalize (v.openRaised k).consumeEntries entries = w at *
    obtain ⟨after, _⟩ := enterFrame_after w k mask entries
    obtain ⟨e, slot, frame, resumed, legs⟩ := enterFrame_entry w k mask entries
    have channels_kept : (w.enterFrame k mask entries).finished.frames.channels = w.frames.channels :=
      after .channels (by decide)
    have rotation_kept : (w.enterFrame k mask entries).finished.frames.rotation = w.frames.rotation :=
      after .rotation (by decide)
    have counted : (w.enterFrame k mask entries).finished.ctr.frames = (w.slotEntered k mask entries).ctr.frames :=
      after .framesCtr (by decide)
    rw [entered]
    refine ⟨_, e, rfl, ?_, (after .h (by decide)).trans level', slot, frame, by rw [resumed, resume], ?_, fun j => ?_⟩
    · rw [after.mem_same]
      exact (congrArg Membership.state mem).trans told.state
    · exact (congrArg FrameCounters.framesOpened counted).trans (congrArg (· + 1) opened)
    · obtain ⟨bare, own⟩ := legs j
      rw [self_eq] at own
      refine ⟨(congrArg Leg.mask bare :), (congrArg Leg.steer bare :), (congrArg Leg.status bare :),
        (congrArg Leg.delivered bare :), (congrArg Leg.void bare :), (congrArg Leg.removed bare :),
        (congrArg Leg.gapTotal bare :), (congrArg Leg.flags bare :), own, fun x steers => ⟨?_, fun known alone => ?_, fun c unnamed => ?_⟩⟩
      · rw [rotation_kept]
        exact rotation j steers
      · rw [channels_kept, channel j steers (by rw [area]; exact known) alone, raised_channels]
        exact consume_spec (s.frames.channels[x.channel]) x.seq
      · rw [channels_kept, other unnamed, raised_channels]

end Sys2Proof

/-! The processing of a ROLL (R12, R80, R84 to R86, R118). -/

namespace Sys2Proof.Machine

-- One proof at a time: the proofs of many statements at once take more threads than the memory holds.
set_option Elab.async false

theorem Only.free_slot {S : List Piece} {s u : State} (h : Only S s u) {i : Fin 8} (free : s.frames.slots[i] = .free)
    (out : .entries ∉ S := by decide) : u.frames.slots[i] = .free := by
  have bare : (u.frames.slots[i]).bare = (s.frames.slots[i]).bare := map_eq_getElem (h .entries out) i
  rw [free] at bare
  cases slot : u.frames.slots[i] with
  | free => rfl
  | foreign k => rw [slot] at bare; cases bare
  | known e => rw [slot] at bare; cases bare

/-! ### A ROLL at a LISTENING or JOINING station (R12, R80, R118) -/

theorem applyNote_roll_apart {s : State} (apart : s.mem.state = .listening ∨ s.mem.state = .joining) (p : Station) (r : Roll)
    (latch : Latch) : s.applyNote { sender := p, note := .roll r, latch := latch } = s.listenRoll p r latch := by
  unfold State.applyNote
  exact if_pos apart

theorem learnRoll_pos (s : State) (p : Station) (r : Roll) (latch : Latch) : (s.learnRoll p r latch).pos
    = { ({ s.pos with offset := r.groupCount - latch.raw }).setLine s.area (s.pos.raw + (r.groupCount - latch.raw)) with
      mode := .tracking } := by
  have before := (((((setLearned_only s r.roster (some r.digest)).mono (S := [.roster, .peers, .framesCtr] ++ framePieces)
    (by decide)).next (recordRoll_only _ p r)).next (keepRosterPeers_only _)).next (learnFrames_only _ r)).next
    (takeCompleteness_only _ r)
  unfold State.learnRoll
  generalize State.takeCompleteness _ r = v at before ⊢
  have aligned : (v.align (r.groupCount - latch.raw)).pos = { ({ v.pos with offset := r.groupCount - latch.raw }).setLine
      v.area (v.pos.raw + (r.groupCount - latch.raw)) with mode := .tracking } := (presentAdvance_only _).pos_same
  rw [aligned, before.pos_same, before.area_eq.1]

theorem learnRoll_mem (s : State) (p : Station) (r : Roll) (latch : Latch) :
    (s.learnRoll p r latch).mem.roster = r.roster ∧ (s.learnRoll p r latch).mem.heardRoll = true
      ∧ ∀ x : Fin 8, hasStation r.roster x = false → (s.learnRoll p r latch).mem.peers[x] = none := by
  unfold State.learnRoll
  generalize heard : ({ s with mem := { s.mem with
    roster := r.roster, heardRoll := true, latestDigest := some r.digest } } : State).recordRoll p r = v
  have recorded : v.mem.roster = r.roster ∧ v.mem.heardRoll = true := by
    obtain ⟨_, roster, _, heardRoll, _⟩ := (recordRoll_only { s with mem := { s.mem with
      roster := r.roster, heardRoll := true, latestDigest := some r.digest } } p r).roster_eq
    rw [heard] at roster heardRoll
    exact ⟨roster, heardRoll⟩
  have after := (((learnFrames_only v.keepRosterPeers r).mono (S := .framesCtr :: .mode :: .position :: framePieces
    ++ advancePieces) (by decide)).next (takeCompleteness_only _ r)).next (align_only _ (r.groupCount - latch.raw))
  rw [after.mem_same]
  refine ⟨recorded.1, recorded.2, fun x out => ?_⟩
  have peer : v.keepRosterPeers.mem.peers[x] = if hasStation v.mem.roster x then v.mem.peers[x] else none :=
    Vector.getElem_ofFn ..
  rw [peer, recorded.1, out]
  rfl

/-- H, the gate record and the free slots after a ROLL has been learnt (R118). -/
theorem learnRoll_frames (s : State) (p : Station) (r : Roll) (latch : Latch) :
    (s.learnRoll p r latch).frames.h = s.rollFrame r r.h ∧ (s.learnRoll p r latch).frames.gateOpen = r.gateOpen
      ∧ (s.learnRoll p r latch).frames.gateFrame = s.rollFrame r r.gateFrame
      ∧ (s.learnRoll p r latch).frames.resume = (if r.gateOpen then some (s.rollFrame r r.gateFrame) else none)
      ∧ ∀ i : Fin 8, (∀ f ∈ r.occupied, slotOf (s.rollFrame r f) ≠ i) → (s.learnRoll p r latch).frames.slots[i] = .free := by
  have before := (((setLearned_only s r.roster (some r.digest)).mono (S := [.roster, .peers]) (by decide)).next
    (recordRoll_only _ p r)).next (keepRosterPeers_only _)
  unfold State.learnRoll
  generalize State.keepRosterPeers _ = v at before ⊢
  have frame (f : BitVec 16) : v.rollFrame r f = s.rollFrame r f := by
    unfold State.rollFrame
    rw [before.area_eq.1]
  have after := ((takeCompleteness_only (v.learnFrames r) r).mono (S := .channels :: .framesCtr :: .mode :: .position
    :: advancePieces) (by decide)).next (align_only _ (r.groupCount - latch.raw))
  obtain ⟨isOpen, gateFrame, resume, _⟩ := after.gate_eq
  have level : _ = (v.learnFrames r).frames.h := after .h (by decide)
  refine ⟨level.trans (frame r.h), isOpen, gateFrame.trans (frame _), resume.trans ?_, fun i unnamed => ?_⟩
  · exact congrArg (fun k => if r.gateOpen then some k else none) (frame r.gateFrame)
  · have learnt : (v.learnFrames r).frames.slots[i]
        = (v.frames.slots[i]).learn ((r.occupied.map (v.rollFrame r)).find? fun k => slotOf k == i) :=
      Vector.getElem_ofFn ..
    have named : ((r.occupied.map (v.rollFrame r)).find? fun k => slotOf k == i) = none := by
      refine List.find?_eq_none.mpr fun k within => ?_
      obtain ⟨f, at_f, rfl⟩ := List.mem_map.mp within
      rw [frame, beq_iff_eq]
      exact unnamed f at_f
    have free : (v.learnFrames r).frames.slots[i] = .free := by
      rw [learnt, named]
      rfl
    exact after.free_slot free

/-! ### A ROLL at a MEMBER (R84 to R86) -/

/-- The record that a ROLL leaves of its sender, before the comparison (R85). -/
def Peer.said (now : Moment) (r : Roll) (skew : Option Bool) : Peer :=
  { lastHeard := now
    roll := some { channels := r.channels, faultSummary := r.faultSummary, digest := r.digest }
    skew := skew }

section Member

variable {s : State} {p : Station} (other : p ≠ s.self) (r : Roll)
include other

theorem noteRoll_eq : s.noteRoll p r = ((((if r.digest ≠ s.window.digest then s.raise .configMismatch
    else s).recordRoll p r).forgetForeign r).takeCompleteness r).setRollTimer p := by
  unfold State.noteRoll
  rw [if_neg other]

theorem noteRoll_peers : ∃ skew, (s.noteRoll p r).mem.peers = s.mem.peers.set p (some (Peer.said s.now r skew)) := by
  rw [noteRoll_eq other]
  have raised : (if r.digest ≠ s.window.digest then s.raise .configMismatch else s).mem = s.mem
      ∧ (if r.digest ≠ s.window.digest then s.raise .configMismatch else s).now = s.now := by
    split
    · exact ⟨raise_mem .., raise_only _ _ .now (by decide)⟩
    · exact ⟨rfl, rfl⟩
  generalize (if r.digest ≠ s.window.digest then s.raise .configMismatch else s) = v at raised ⊢
  obtain ⟨mem, now⟩ := raised
  have after := (((forgetForeign_only (v.recordRoll p r) r).mono (S := [.entries, .channels, .framesCtr, .timers, .parts])
    (by decide)).next (takeCompleteness_only _ r)).next (setRollTimer_only _ p)
  have peers : _ = (v.recordRoll p r).mem.peers := after .peers (by decide)
  have other' : ¬ p = v.self := by
    unfold State.self
    rw [mem]
    exact other
  refine ⟨v.mem.peers[p].bind Peer.skew, peers.trans ?_⟩
  unfold State.recordRoll
  rw [if_neg other', ← mem, ← now]
  rfl

theorem noteRoll_mismatch (differs : r.digest ≠ s.window.digest) : (s.noteRoll p r).faultSet .configMismatch = true := by
  rw [noteRoll_eq other, if_pos differs]
  have after := (((recordRoll_only (s.raise .configMismatch) p r).mono (S := [.peers, .entries, .channels, .framesCtr,
    .timers, .parts]) (by decide)).next (forgetForeign_only _ r)).next (takeCompleteness_only _ r)
  rw [faultSet_of_only (after.next (setRollTimer_only _ p))]
  exact raise_faultSet s .configMismatch

end Member

/-- The counts have been compared, and a disagreement counted (R86). -/
def State.compared (s : State) (p : Station) (agree : Bool) : State :=
  let s1 := { s with mem := { s.mem with peers := s.mem.peers.set p (s.mem.peers[p].map fun x =>
    { x with skew := some agree }) } }
  if agree then s1 else s1.bump (countMembership fun c => { c with skewDisagree := c.skewDisagree + 1 })

theorem skewVote_eq (s : State) (p : Station) (r : Roll) (latch : Latch) : s.skewVote p r latch
    = (let v := s.compared p (decide (countDistance r.groupCount latch.group ≤ cfgSkew s.area))
       if v.outvoted then (v.raise .skew).lapse else v) := rfl

theorem compared_only (s : State) (p : Station) (agree : Bool) : Only [.peers, .memCtr] s (s.compared p agree) := by
  have set := (setPeers_only s (s.mem.peers.set p (s.mem.peers[p].map fun x => { x with skew := some agree }))).mono
    (S := [.peers, .memCtr]) (by decide)
  exact .ite (fun _ => set) fun _ => set.next (bumpMembership_only _ _)

theorem compared_values (s : State) (p : Station) (agree : Bool) :
    (s.compared p agree).mem.peers = s.mem.peers.set p (s.mem.peers[p].map fun x => { x with skew := some agree })
      ∧ (s.compared p agree).ctr.mem.skewDisagree = s.ctr.mem.skewDisagree + (if agree then 0 else 1) := by
  unfold State.compared
  cases agree with
  | true => exact ⟨rfl, (BitVec.add_zero _).symm⟩
  | false => exact ⟨rfl, rfl⟩

theorem lapse_memCtr (s : State) : s.lapse.ctr.mem = { s.ctr.mem with
    stateChanges := s.ctr.mem.stateChanges + 1, lapses := s.ctr.mem.lapses + 1 } := by
  unfold State.lapse
  dsimp only
  have counted := changeState_memCtr s .lapsed
  generalize s.changeState .lapsed = v at counted ⊢
  have after (w : State) : (((w.withdrawAll .withdrawn false).dropTurn.stopLegTimers).claimRoster
      .rosterLeave).settle.ctr.mem = w.ctr.mem := by
    have only := (((withdrawAll_only w .withdrawn false).mono (S := [.turn] ++ claimPieces ++ settlePieces)
      (by decide)).next (dropTurn_only _)).next (stopLegTimers_only _)
    exact ((only.next (claimRoster_only _ _)).next (settle_only _)) .memCtr (by decide)
  rw [after]
  exact congrArg (fun c : MembershipCounters => { c with lapses := c.lapses + 1 }) counted

theorem told_peers_of_ne {s : State} {r : Received} (quiet : s.quiet r) (rest : List Received) {x : Station}
    (other : x ≠ r.sender) : (s.told r rest).mem.peers[x] = s.mem.peers[x] := by
  have heard (v : State) : (v.hear r.sender).mem.peers[x] = v.mem.peers[x] := by
    unfold State.hear
    split
    · rfl
    · exact getElem_set_of_ne v.mem.peers _ other
  exact (heard _).trans (by rw [(told_withdrawn quiet rest).mem_same]; rfl)

/-- The vote reads the number, the roster and the records only (R86). -/
theorem vote_congr {s u : State} (self_eq : u.self = s.self) (roster : u.mem.roster = s.mem.roster)
    (peers : u.mem.peers = s.mem.peers) :
    (∀ agree, u.skewCount agree = s.skewCount agree) ∧ u.lowerDisagrees = s.lowerDisagrees := by
  unfold State.skewCount State.lowerDisagrees
  rw [self_eq, roster, peers]
  exact ⟨fun _ => rfl, rfl⟩

theorem outvoted_iff (s : State) : s.outvoted = true ↔ 1 + s.skewCount true < s.skewCount false
    ∨ (s.skewCount false = 1 + s.skewCount true ∧ s.lowerDisagrees = true) := by
  unfold State.outvoted
  simp

/-- The vote has been acted on (R86). -/
def State.voted (s : State) : State := if s.outvoted then (s.raise .skew).lapse else s

theorem voted_only (s : State) : Only (.faults :: .raisesCtr :: lapsePieces) s s.voted :=
  .ite (fun _ => ((raise_only s .skew).mono (by decide)).next (lapse_only _)) fun _ => .refl _ s

theorem voted_faultSet {s : State} {k : FaultKind} (set : s.faultSet k = true) : s.voted.faultSet k = true := by
  unfold State.voted
  split
  · rw [faultSet_of_only (lapse_only _)]
    unfold State.faultSet at set ⊢
    rw [raise_faults, BitVec.getLsbD_or, set, Bool.true_or]
  · exact set

theorem voted_skewDisagree (s : State) : s.voted.ctr.mem.skewDisagree = s.ctr.mem.skewDisagree := by
  unfold State.voted
  split
  · rw [lapse_memCtr, show (s.raise .skew).ctr.mem = s.ctr.mem from raise_only s .skew .memCtr (by decide)]
  · rfl

theorem voted_state {s : State} (member : s.mem.state = .member) :
    (s.outvoted = true → s.voted.mem.state = .lapsed ∧ s.voted.faultSet .skew = true)
      ∧ (s.outvoted = false → s.voted.mem.state = .member) := by
  unfold State.voted
  refine ⟨fun out => ?_, fun stays => ?_⟩
  · rw [if_pos out, faultSet_of_only (lapse_only _)]
    exact ⟨lapse_mem_state _, raise_faultSet s .skew⟩
  · rw [if_neg (by rw [stays]; decide)]
    exact member

end Sys2Proof.Machine

namespace Sys2Proof

open Machine

/-- Settles O41: another digest by `Told.departed`, the own one by what `State.learnRoll` sets. -/
theorem rollAlignsListener : Obligations.RollAlignsListener := by
  intro t s p r latch rest queue apart frame g
  have applies : s.applies { sender := p, note := .roll r, latch := latch } = true := by
    unfold State.applies
    obtain state | state := apart <;> rw [state] <;> rfl
  obtain ⟨v, told, ran⟩ := process_of_applies (r := { sender := p, note := .roll r, latch := latch }) queue
    (wanted := fun n => n.kind == .roll) rfl rfl applies t
  have digest : v.window.digest = s.window.digest := told.only.area_eq.2
  have ran' : exec (.processRoll t) s = .next (v.listenRoll p r latch).finished := by
    rw [← applyNote_roll_apart (told.state ▸ apart)]
    exact congrArg Host.Outcome.next ran
  rw [ran', listenRoll_eq, digest]
  refine ⟨fun other => ⟨_, rfl, ?_⟩, fun own => ⟨_, rfl, ?_⟩⟩
  · rw [if_pos other]
    obtain ⟨state, roster, _, _, faults, _⟩ :=
      told.departed (.inr ⟨_, rfl⟩) (enterConfigured_departed (v.raise .configMismatch)) (home_apart _)
    refine ⟨state.trans ?_, roster, ?_⟩
    · exact (home_congr (raise_faultSet_of_ne v (by decide))).trans told.home_eq
    · unfold State.faultSet
      rw [faults]
      exact raise_faultSet v .configMismatch
  · rw [if_neg (not_not_intro own)]
    have learned := learnRoll_only v p r latch
    have after := finished_only (v.learnRoll p r latch)
    obtain ⟨roster, heard, peers⟩ := learnRoll_mem v p r latch
    obtain ⟨level, isOpen, gateFrame, resume, free⟩ := learnRoll_frames v p r latch
    have pos : (v.learnRoll p r latch).finished.pos = { ({ s.pos with offset := r.groupCount - latch.raw }).setLine s.area
        (s.pos.raw + (r.groupCount - latch.raw)) with mode := .tracking } := by
      rw [after.pos_same, learnRoll_pos, told.pos, told.area]
    have rollFrame (f : BitVec 16) : v.rollFrame r f = frame f := by
      unfold State.rollFrame
      rw [told.area]
    have state : (v.learnRoll p r latch).mem.state = v.mem.state := learned .state (by decide)
    rw [after.trunk_same, after.mem_same, state, learned.trunk_same, roster, heard]
    have count : (v.learnRoll p r latch).finished.groupCount = g := by
      unfold State.groupCount
      rw [pos]
      rfl
    have kept_h : (v.learnRoll p r latch).finished.frames.h = (v.learnRoll p r latch).frames.h := after .h (by decide)
    obtain ⟨kept_open, kept_frame, kept_resume, _⟩ := after.gate_eq
    rw [count, pos, kept_h, kept_open, kept_frame, kept_resume, level, isOpen, gateFrame, resume, rollFrame, rollFrame]
    refine ⟨told.queue, told.state, rfl, rfl, rfl, rfl, rfl, rfl, rfl, peers, rfl, rfl, rfl, rfl, fun i unnamed => ?_⟩
    exact after.free_slot (free i fun f at_f => by rw [rollFrame]; exact unnamed f at_f)

/-- Settles O42: what `State.noteRoll` and `State.compared` leave of the sender's record, then the vote. -/
theorem rollComparedAtMember : Obligations.RollComparedAtMember := by
  intro t s p r latch rest queue member sender other agree
  obtain ⟨told, ran⟩ := process_told (r := { sender := p, note := .roll r, latch := latch }) queue
    (wanted := fun n => n.kind == .roll) rfl (.inl rfl) (applies_of_inside (.inl member) sender) t
  have strangers {x : Fin 8} := told_peers_of_ne (s := s.tick t) (r := { sender := p, note := .roll r, latch := latch })
    (.inl rfl) rest (x := x)
  generalize (s.tick t).told { sender := p, note := .roll r, latch := latch } rest = v at told ran strangers
  have other' : p ≠ v.self := by rw [told.self_eq]; exact other
  have member' := told.state.trans member
  have applied : v.applyNote { sender := p, note := .roll r, latch := latch }
      = (v.noteRoll p r).orphanRule.skewVote p r latch := by
    unfold State.applyNote
    dsimp only
    rw [if_neg (by rw [member']; decide), memberRoll_eq, if_pos member', if_neg other']
  have ran' : exec (.processRoll t) s = .next (v.applyNote { sender := p, note := .roll r, latch := latch }).finished :=
    congrArg Host.Outcome.next ran
  have noted := (noteRoll_only v p r).next (orphanRule_only _)
  have agree_eq : decide (countDistance r.groupCount latch.group ≤ cfgSkew (v.noteRoll p r).orphanRule.area) = agree := by
    rw [noted.area_eq.1, told.area]
    rfl
  have voted : (v.noteRoll p r).orphanRule.skewVote p r latch = ((v.noteRoll p r).orphanRule.compared p agree).voted := by
    rw [skewVote_eq, agree_eq]
    rfl
  have record : ∃ skew, (v.noteRoll p r).orphanRule.mem.peers = v.mem.peers.set p (some (Peer.said v.now r skew)) := by
    obtain ⟨skew, peers⟩ := noteRoll_peers other' r
    exact ⟨skew, ((orphanRule_only _) .peers (by decide)).trans peers⟩
  have mismatch (differs : r.digest ≠ v.window.digest) : (v.noteRoll p r).orphanRule.faultSet .configMismatch = true :=
    (faultSet_of_only (orphanRule_only _) _).trans (noteRoll_mismatch other' r differs)
  rw [ran', applied, voted]
  generalize (v.noteRoll p r).orphanRule = n at noted record mismatch
  obtain ⟨skew, record⟩ := record
  obtain ⟨compared, disagree⟩ := compared_values n p agree
  have peers : (n.compared p agree).mem.peers = v.mem.peers.set p (some (Peer.said v.now r (some agree))) := by
    have here : n.mem.peers[p] = some (Peer.said v.now r skew) := by
      rw [record]
      exact Vector.getElem_set_self ..
    rw [compared, here, record]
    exact Vector.set_set ..
  have only := (noted.mono (S := .memCtr :: .peers :: .timers :: .entries :: .parts :: .channels :: .framesCtr
    :: raisePieces) (by decide)).next (compared_only n p agree)
  have c_mismatch (differs : r.digest ≠ v.window.digest) : (n.compared p agree).faultSet .configMismatch = true :=
    (faultSet_of_only (compared_only n p agree) _).trans (mismatch differs)
  have counted : (n.compared p agree).ctr.mem.skewDisagree = s.ctr.mem.skewDisagree + (if agree then 0 else 1) := by
    rw [disagree, show n.ctr.mem = v.ctr.mem from noted .memCtr (by decide),
      show v.ctr.mem = s.ctr.mem from told.only .memCtr (by decide)]
  generalize n.compared p agree = c at peers only c_mismatch counted
  have ended := ((voted_only c).mono (S := .faults :: .raisesCtr :: lapsePieces ++ claimPieces ++ settlePieces)
    (by decide)).next (finished_only _)
  obtain ⟨number, c_roster, _⟩ := only.roster_eq
  obtain ⟨number', u_roster, _⟩ := ended.roster_eq
  have u_peers : c.voted.finished.mem.peers = c.mem.peers := ended .peers (by decide)
  have now : c.voted.finished.now = v.now := (ended .now (by decide)).trans (only .now (by decide))
  have self_eq : c.voted.finished.self = c.self := by
    unfold State.self
    rw [number']
  obtain ⟨votes, lower⟩ := vote_congr self_eq u_roster u_peers
  have c_member : c.mem.state = .member := (only .state (by decide)).trans member'
  obtain ⟨out, stays⟩ := voted_state c_member
  have queue' : c.voted.finished.trunk.queue = rest :=
    (congrArg Trunk.queue ended.trunk_eq :).trans ((congrArg Trunk.queue only.trunk_eq :).trans told.queue)
  have memCtr : c.voted.finished.ctr.mem = c.voted.ctr.mem := finished_only _ .memCtr (by decide)
  refine ⟨_, rfl, queue', ?_, ?_, fun x apart => ?_, fun differs => ?_, ?_, ?_⟩
  · rw [u_roster, c_roster, told.roster]
  · rw [u_peers, peers, now]
    exact Vector.getElem_set_self ..
  · rw [u_peers, peers]
    exact (getElem_set_of_ne v.mem.peers _ apart).trans (strangers apart)
  · rw [faultSet_of_only (finished_only _)]
    exact voted_faultSet (c_mismatch (by rw [told.only.area_eq.2]; exact differs))
  · rw [memCtr, voted_skewDisagree, counted]
  · dsimp only
    rw [votes, votes, lower, ← outvoted_iff, faultSet_of_only (finished_only _), (finished_only c.voted).mem_same]
    exact ⟨out, fun no => stays (Bool.eq_false_iff.mpr no)⟩

end Sys2Proof

/-! The processing of a ROSTER-JOIN (R12, R82, R83, R87, R110, R123). -/

namespace Sys2Proof.Machine

-- One proof at a time: the proofs of many statements at once take more threads than the memory holds.
set_option Elab.async false

/-! ### Another station's ROSTER-JOIN at a MEMBER (R82, R83, R87) -/

theorem applyNote_join (s : State) (j : Station) (digest : BitVec 16) (founding : Bool) (latch : Latch) :
    s.applyNote { sender := j, note := .rosterJoin digest founding, latch := latch } = s.applyJoin j digest founding := rfl

theorem applyJoin_at_member {s : State} (member : s.mem.state = .member) {j : Station} (other : j ≠ s.self)
    (digest : BitVec 16) (founding : Bool) : s.applyJoin j digest founding = s.peerJoin j digest founding := by
  have same : (s.peerJoin j digest founding).mem.state = .member :=
    (peerJoin_only s j digest founding .state (by decide)).trans member
  unfold State.applyJoin
  rw [if_neg (fun own => other own.1), if_neg (fun own => other own.1)]
  unfold State.restartListen
  rw [if_neg (by rw [same]; decide)]

/-- Station j stands in the roster, with a new record and a silence timer (R83, R87). -/
def State.admitted (s : State) (j : Station) : State := { s with
  mem := { s.mem with
    roster := addStation s.mem.roster j
    peers := s.mem.peers.set j (some (Peer.new s.now))
    silence := s.mem.silence.set j (s.startTimer (3 * cfgR s.area)) }
  ctr := { s.ctr with mem := { s.ctr.mem with joinsSeen := s.ctr.mem.joinsSeen + 1 } } }

theorem addToRoster_at_member {s : State} (member : s.mem.state = .member) {j : Station} (other : j ≠ s.self) :
    s.addToRoster j = s.admitted j := by
  unfold State.addToRoster
  dsimp only
  rw [if_pos ⟨.inl member, other⟩, if_pos member]
  rfl

theorem peerJoin_admitted {s : State} {j : Station} {digest : BitVec 16} (own : digest = s.window.digest)
    (new : hasStation s.mem.roster j = false) : s.peerJoin j digest false = s.addToRoster j := by
  unfold State.peerJoin State.enrol
  rw [if_neg (not_not_intro own), if_neg (by simp), if_neg (by rw [new]; decide)]

theorem peerJoin_refused {s : State} {digest : BitVec 16} {founding : Bool}
    (refused : digest ≠ s.window.digest ∨ (founding = true ∧ s.mem.roster ≠ 0)) (j : Station) :
    s.peerJoin j digest founding = s := by
  unfold State.peerJoin
  split
  · rfl
  · next same =>
    obtain ⟨founds, others⟩ := refused.resolve_left same
    exact if_pos (Bool.and_eq_true_iff.mpr ⟨founds, bne_iff_ne.mpr others⟩)

/-! ### The own ROSTER-JOIN (R12, R83, R110, R123) -/

theorem addStation_dropStation (m : StationSet) (p : Station) : addStation (dropStation m p) p = addStation m p := by
  unfold addStation dropStation
  generalize 1#8 <<< p.val = b
  ext i
  simp only [BitVec.getElem_or, BitVec.getElem_and, BitVec.getElem_not]
  cases m[i] <;> cases b[i] <;> rfl

theorem memberChecks_apart {s : State} (apart : s.mem.state ≠ .member) : s.memberChecks = s := if_neg apart

/-- The own number joins the roster at a JOINING station, where it leaves it first if it stands in it. -/
theorem enrol_own {s : State} (joining : s.mem.state = .joining) :
    (s.enrol s.self).mem.roster = addStation s.mem.roster s.self ∧ (s.enrol s.self).mem.number = s.mem.number
      ∧ (s.enrol s.self).frames = s.frames := by
  have add (v : State) (state : v.mem.state = .joining) (p : Station) : v.addToRoster p = { v with
      mem := { v.mem with roster := addStation v.mem.roster p }
      ctr := { v.ctr with mem := { v.ctr.mem with joinsSeen := v.ctr.mem.joinsSeen + 1 } } } := by
    unfold State.addToRoster
    dsimp only
    have apart : ¬ (v.mem.state = .member ∨ v.mem.state = .leaving) := by rw [state]; decide
    rw [if_neg fun inside => apart inside.1]
    rfl
  unfold State.enrol
  split
  · have left : s.removeStation s.self none = s.struck s.self := by
      rw [removeStation_eq, if_pos rfl]
      exact memberChecks_apart (by rw [struck_mem, joining]; decide)
    have state : (s.struck s.self).mem.state = .joining := by rw [struck_mem]; exact joining
    rw [left, add _ state]
    refine ⟨?_, ?_, (struck_only s s.self).frames_same⟩
    · dsimp only
      rw [struck_mem]
      exact addStation_dropStation ..
    · dsimp only
      rw [struck_mem]
  · rw [add s joining]
    exact ⟨rfl, rfl, rfl⟩

theorem applyJoin_own {s : State} (joining : s.mem.state = .joining) {digest : BitVec 16} {founding : Bool}
    (same : founding = false → ∀ d, s.mem.latestDigest = some d → d = digest)
    (alone : founding = true → s.mem.roster = 0) :
    s.applyJoin s.self digest founding = (s.enrol s.self).enterMember founding := by
  unfold State.applyJoin
  rw [if_pos ⟨rfl, joining⟩]
  unfold State.ownJoin
  rw [if_neg, if_neg]
  · intro founds
    obtain ⟨founds, others⟩ := Bool.and_eq_true_iff.mp founds
    exact bne_iff_ne.mp others (alone founds)
  · intro differs
    obtain ⟨plain, differs⟩ := Bool.and_eq_true_iff.mp differs
    obtain ⟨d, heard, other⟩ := (Option.any_eq_true ..).mp differs
    exact bne_iff_ne.mp other (same (Bool.not_eq_true' _ ▸ plain) d heard)

/-- A station that enters MEMBER, before the checks (R83, R110, R112, R123). -/
def State.entered (s : State) (founding : Bool) : State :=
  let s1 := if founding then s.found else s
  let s2 := s1.changeState .member
  let s3 := { s2 with mem := { s2.mem with joinFrame := s2.frames.h, roll := .running (s2.now + cfgR s2.area) } }
  let s4 := s3.startPeers.enterIssuing
  { s4 with delivery := { s4.delivery with handled := Vector.replicate 2 s4.pos.lineIndex } }

theorem enterMember_eq (s : State) (founding : Bool) : s.enterMember founding = (s.entered founding).memberChecks := rfl

theorem enterIssuing_pos (s : State) : s.enterIssuing.pos.mode = .issuing ∧ s.enterIssuing.pos.lastIssue = none
    ∧ s.enterIssuing.pos.offset = s.pos.offset
    ∧ (s.pos.mode ≠ .stopped → s.enterIssuing.pos.w = s.pos.w ∧ s.enterIssuing.pos.lineIndex = s.pos.lineIndex) := by
  unfold State.enterIssuing
  dsimp only
  refine ⟨rfl, rfl, ?_, fun running => ?_⟩
  · split <;> rfl
  · rw [if_neg running]
    exact ⟨rfl, rfl⟩

theorem entered_values (s : State) (founding : Bool) : (s.entered founding).mem.state = .member
    ∧ (s.entered founding).mem.roster = s.mem.roster ∧ (s.entered founding).mem.number = s.mem.number
    ∧ (s.entered founding).mem.joinFrame = (if founding then 0 else s.frames.h)
    ∧ (s.entered founding).mem.roll = .running (s.now + cfgR s.area)
    ∧ (s.entered founding).pos.mode = .issuing ∧ (s.entered founding).pos.lastIssue = none
    ∧ (s.entered founding).pos.offset = s.pos.offset
    ∧ (∀ tap : Tap, (s.entered founding).delivery.handled[tap] = (s.entered founding).pos.lineIndex)
    ∧ (s.pos.mode ≠ .stopped → (s.entered founding).pos.w = s.pos.w
        ∧ (s.entered founding).pos.lineIndex = s.pos.lineIndex)
    ∧ (s.entered founding).trunk = s.trunk ∧ (s.entered founding).now = s.now
    ∧ (founding = true → (s.entered founding).frames = s.found.frames) := by
  have founded : Only framePieces s (if founding then s.found else s) :=
    .ite (fun _ => found_only s) fun _ => .refl _ s
  have level : (if founding then s.found else s).frames.h = if founding then 0 else s.frames.h := by split <;> rfl
  have frames (founds : founding = true) : (if founding then s.found else s).frames = s.found.frames := by rw [if_pos founds]
  unfold State.entered
  dsimp only
  generalize (if founding = true then s.found else s) = v at founded level frames ⊢
  have mem := changeState_mem v .member
  have changed := changeState_only v .member
  have frames' := changeState_frames v .member
  generalize v.changeState .member = w at mem changed frames' ⊢
  obtain ⟨mode, last, offset, running⟩ := enterIssuing_pos ({ w with mem := { w.mem with
    joinFrame := w.frames.h, roll := .running (w.now + cfgR w.area) } } : State).startPeers
  have pos : w.pos = s.pos := changed.pos_same.trans founded.pos_same
  have trunk : w.trunk = s.trunk := changed.trunk_same.trans founded.trunk_same
  have now : w.now = s.now := (changed .now (by decide)).trans (founded .now (by decide))
  have area : w.area = s.area := changed.area_eq.1.trans founded.area_eq.1
  have v_mem : v.mem = s.mem := founded.mem_same
  refine ⟨congrArg Membership.state mem, ?_, ?_, ?_, ?_, mode, last, offset.trans ?_, fun tap => getElem_replicate_fin ..,
    fun moving => ?_, trunk, now, fun founds => frames'.trans (frames founds)⟩
  · exact (congrArg Membership.roster mem :).trans (congrArg Membership.roster v_mem :)
  · exact (congrArg Membership.number mem :).trans (congrArg Membership.number v_mem :)
  · exact (congrArg FrameUnit.h frames').trans level
  · rw [← now, ← area]
    rfl
  · exact congrArg Position.offset pos
  · obtain ⟨here, line⟩ := running (by rw [← pos] at moving; exact moving)
    rw [← pos]
    exact ⟨here, line⟩

/-! ### Complete channels (R111, R112) -/

/-- A walk over channels whose steps leave a channel alone that is complete. -/
theorem foldl_complete {f : State → Fin 8 → State} {c : Fin 8}
    (step : ∀ v n, (v.frames.channels[c]).complete = true → (f v n).frames.channels[c] = v.frames.channels[c])
    (l : List (Fin 8)) {s : State} (complete : (s.frames.channels[c]).complete = true) :
    (l.foldl f s).frames.channels[c] = s.frames.channels[c] := by
  induction l generalizing s with
  | nil => rfl
  | cons n l ih =>
    have same := step s n complete
    exact (ih (by rw [same]; exact complete)).trans same

theorem orphanRule_complete {s : State} {c : Fin 8} (complete : (s.frames.channels[c]).complete = true) :
    s.orphanRule.frames.channels[c] = s.frames.channels[c] := by
  refine foldl_complete (fun v n whole => ?_) _ complete
  dsimp only
  split
  · next orphan =>
    refine getElem_set_of_ne v.frames.channels _ fun same => orphan.2.1 ?_
    rw [← same]
    exact whole
  · rfl

theorem soleRule_complete {s : State} {c : Fin 8} (complete : (s.frames.channels[c]).complete = true) :
    s.soleRule.frames.channels[c] = s.frames.channels[c] := by
  unfold State.soleRule
  split
  · refine foldl_complete (fun v n whole => ?_) _ complete
    dsimp only
    split
    · rfl
    · next open_channel =>
      refine getElem_set_of_ne v.frames.channels _ fun same => open_channel ?_
      rw [← same]
      exact whole
  · rfl

theorem memberChecks_complete {s : State} {c : Fin 8} (complete : (s.frames.channels[c]).complete = true) :
    s.memberChecks.frames.channels[c] = s.frames.channels[c] := by
  unfold State.memberChecks
  split
  · dsimp only
    generalize drawn : ({ s with draws := s.draws + 1 } : State) = v
    have same : v.frames = s.frames := by rw [← drawn]
    rw [← same] at complete ⊢
    split
    · exact (soleRule_complete (by rw [orphanRule_complete complete]; exact complete)).trans (orphanRule_complete complete)
    · exact (orphanRule_complete (by rw [soleRule_complete complete]; exact complete)).trans (soleRule_complete complete)
  · rfl

end Sys2Proof.Machine

namespace Sys2Proof

open Machine

/-- Settles O43: the admission of another station, then the own entry into MEMBER. -/
theorem joinsAdmitted : Obligations.JoinsAdmitted := by
  refine ⟨?other, ?own⟩
  case other =>
    intro t s j digest founding latch rest queue member other
    have applies : s.applies { sender := j, note := .rosterJoin digest founding, latch := latch } = true := by
      unfold State.applies
      rw [member]
      rfl
    obtain ⟨told, ran⟩ := process_told (r := { sender := j, note := .rosterJoin digest founding, latch := latch }) queue
      (wanted := Note.isJoin) rfl (.inr (.inr (by rw [member]; decide))) applies t
    generalize (s.tick t).told { sender := j, note := .rosterJoin digest founding, latch := latch } rest = v at told ran
    have member' := told.state.trans member
    have other' : j ≠ v.self := by rw [told.self_eq]; exact other
    have ran' : exec (.processRosterJoin t) s = .next (v.peerJoin j digest founding).finished := by
      rw [← applyJoin_at_member member' other']
      exact congrArg Host.Outcome.next ran
    have joins : v.ctr.mem = s.ctr.mem := told.only .memCtr (by decide)
    have digest_eq : v.window.digest = s.window.digest := told.only.area_eq.2
    rw [ran']
    refine ⟨fun own plain new => ⟨_, rfl, ?_⟩, fun refused => ⟨_, rfl, ?_⟩⟩
    · rw [plain, peerJoin_admitted (own.trans digest_eq.symm) (by rw [told.roster]; exact new),
        addToRoster_at_member member' other']
      have stalled : v.trunk.stalled = s.trunk.stalled := (congrArg Trunk.stalled told.trunk :)
      have after := finished_only (v.admitted j)
      have memCtr : (v.admitted j).finished.ctr.mem = (v.admitted j).ctr.mem := after .memCtr (by decide)
      have now : (v.admitted j).finished.now = v.now := after .now (by decide)
      have peer : (v.admitted j).mem.peers[j] = some (Peer.new v.now) := Vector.getElem_set_self ..
      have timer : (v.admitted j).mem.silence[j] = v.startTimer (3 * cfgR v.area) := Vector.getElem_set_self ..
      rw [after.trunk_same, after.mem_same, memCtr, now, peer, timer]
      refine ⟨told.queue, member', congrArg (addStation · j) told.roster, rfl, ?_, congrArg (fun c => c.joinsSeen + 1) joins⟩
      unfold State.startTimer
      rw [stalled, told.area]
    · rw [peerJoin_refused (by rw [digest_eq, told.roster]; exact refused)]
      have after := finished_only v
      rw [after.trunk_same, after.mem_same]
      exact ⟨told.queue, member', told.roster, (after .memCtr (by decide)).trans joins⟩
  case own =>
    intro t s digest founding latch rest queue joining same alone
    have applies : s.applies { sender := s.self, note := .rosterJoin digest founding, latch := latch } = true := by
      unfold State.applies
      rw [joining]
      rfl
    obtain ⟨told, ran⟩ := process_told (r := { sender := s.self, note := .rosterJoin digest founding, latch := latch })
      queue (wanted := Note.isJoin) rfl (.inr (.inl rfl)) applies t
    generalize (s.tick t).told { sender := s.self, note := .rosterJoin digest founding, latch := latch } rest = v
      at told ran
    have joining' := told.state.trans joining
    have latest : v.mem.latestDigest = s.mem.latestDigest := (congrArg Membership.latestDigest told.mem :)
    have effect : v.applyNote { sender := s.self, note := .rosterJoin digest founding, latch := latch }
        = (v.enrol v.self).enterMember founding := by
      rw [applyNote_join, ← told.self_eq]
      refine applyJoin_own joining' (fun plain d heard => ?_) fun founds => ?_
      · exact same plain d (latest ▸ heard)
      · exact told.roster.trans (alone founds)
    have ran' : exec (.processRosterJoin t) s = .next ((v.enrol v.self).enterMember founding).finished := by
      rw [← effect]
      exact congrArg Host.Outcome.next ran
    obtain ⟨roster, number, frames⟩ := enrol_own joining'
    have enrolled := enrol_only v v.self
    generalize v.enrol v.self = n at roster number frames enrolled ran'
    obtain ⟨state, e_roster, e_number, joinFrame, roll, mode, last, offset, handled, running, trunk, now, founds⟩ :=
      entered_values n founding
    have complete_kept {c : Fin 8} := memberChecks_complete (s := n.entered founding) (c := c)
    rw [ran', enterMember_eq]
    generalize n.entered founding = e at *
    have after := memberChecks_finished_only e
    have u_now : e.memberChecks.finished.now = e.now := after .now (by decide)
    have u_handled : e.memberChecks.finished.delivery.handled = e.delivery.handled := after .handled (by decide)
    have n_now : n.now = v.now := enrolled .now (by decide)
    have n_pos : n.pos = s.pos := enrolled.pos_same.trans told.pos
    have n_area : n.area = s.area := enrolled.area_eq.1.trans told.area
    have n_h : n.frames.h = s.frames.h := by rw [frames, told.frames]
    have n_trunk : n.trunk = v.trunk := enrolled.trunk_same
    refine ⟨_, rfl, ?_⟩
    rw [after.mem_same, after.pos_same, after.trunk_same, u_now, u_handled, e_roster, e_number, joinFrame, roll, n_h, now,
      n_area, roster, number, told.roster, told.self_eq, told.mem]
    refine ⟨?_, state, rfl, rfl, rfl, rfl, mode, last, offset.trans (by rw [n_pos]), handled, fun moving => ?_,
      fun founded => ?_⟩
    · rw [trunk, n_trunk, told.queue]
    · obtain ⟨at_w, line⟩ := running (by rw [n_pos]; exact moving)
      exact ⟨at_w.trans (by rw [n_pos]), line.trans (by rw [n_pos])⟩
    · have found_frames := founds founded
      obtain ⟨gateOpen, gateFrame, resume, is_founded⟩ := after.gate_eq
      have level : e.memberChecks.finished.frames.h = e.frames.h := after .h (by decide)
      have u_channels : e.memberChecks.finished.frames.channels = e.memberChecks.frames.channels :=
        finished_only _ .channels (by decide)
      rw [gateOpen, gateFrame, resume, is_founded, level, u_channels, found_frames]
      refine ⟨rfl, rfl, rfl, rfl, rfl, fun i => after.free_slot ?_, fun c known => ?_⟩
      · rw [found_frames]
        exact getElem_replicate_fin ..
      · have founded_channel : e.frames.channels[c] = Channel.founded := by
          rw [found_frames]
          exact (Vector.getElem_ofFn ..).trans (if_pos (by rw [n_area]; exact known))
        rw [complete_kept (by rw [founded_channel]; rfl), founded_channel]
        exact ⟨rfl, rfl, rfl⟩

end Sys2Proof

/-! The ends of own parts and of flushes, and the host link (R136 to R141, R152 to R154, R181). -/

namespace Sys2Proof.Machine

-- One proof at a time: the proofs of many statements at once take more threads than the memory holds.
set_option Elab.async false

/-! ### What the head decisions count (R128, R129) -/

/-- The delivery counters without those of the head decisions. -/
def DeliveryCounters.undecided (c : DeliveryCounters) : DeliveryCounters :=
  { c with linesDiscarded := 0, discardClosed := 0, discardNoPart := 0, discardPartClosed := 0, discardNotAllowed := 0
           discardNotInTable := 0, discardUnopened := 0, openWaits := 0 }

theorem discardHeads_counts (t : Tap) (l : List Line) (s : State) :
    (State.discardHeads t l s).ctr.delivery.undecided = s.ctr.delivery.undecided := by
  induction l generalizing s with
  | nil => rfl
  | cons x l ih =>
    unfold State.discardHeads
    split
    · next why _ =>
      rw [ih]
      cases why <;> rfl
    all_goals rfl

theorem judgeWait_counts (s : State) (t : Tap) :
    (s.judgeWait t).ctr.delivery.undecided = s.ctr.delivery.undecided := by
  unfold State.judgeWait
  split
  · rfl
  · split
    · split <;> rfl
    · rfl

theorem endCheck_deliveryCtr (s : State) (t : Tap) : (s.endCheck t).ctr.delivery = s.ctr.delivery :=
  endCheck_only s t .deliveryCtr (by decide)

theorem settleTap_counts (s : State) (t : Tap) :
    (s.settleTap t).ctr.delivery.undecided = s.ctr.delivery.undecided := by
  unfold State.settleTap
  dsimp only
  have judged := (judgeWait_counts _ t).trans (discardHeads_counts t (s.taps[t]).lines s)
  split
  · rw [endCheck_deliveryCtr]
    exact judged
  · exact judged

/-- The head decisions count discards and waits only. -/
theorem settle_counts (s : State) : s.settle.ctr.delivery.undecided = s.ctr.delivery.undecided :=
  (settleTap_counts _ 1).trans (settleTap_counts s 0)

/-! ### The end of a part (R136 to R140) -/

/-- A part that has ended. -/
def OwnPart.ended (p : OwnPart) (st : PartState) : OwnPart := { p with state := st, timer := .stopped, flush := .none }

theorem markVoid_partAt_same (s : State) (i : Fin 8) (j : Fin 2) :
    (s.markVoid i j).partAt i j = (s.partAt i j).map fun p => p.ended .void := by
  have dropped : ((s.modifyPart i j fun p => p.ended .void).dropFlush i j).partAt i j
      = (s.modifyPart i j fun p => p.ended .void).partAt i j :=
    congrFun (congrFun ((dropFlush_only _ i j) .parts (by decide)) i) j
  exact dropped.trans (modifyPart_partAt_same ..)

theorem claimDone_of_part {s : State} {i : Fin 8} {j : Fin 2} {p : OwnPart} (part : s.partAt i j = some p) (delivered : Bool) :
    s.claimDone i j delivered = s.claimFifo (.done (s.frameAt i) j delivered p.gapRows) := by
  unfold State.claimDone
  rw [part]

theorem claimFifo_done {s : State} (room : (s.pendingOf .done).length < 16) (k : Nat) (j : Fin 2) (delivered : Bool)
    (gaps : Nat) : (s.claimFifo (.done k j delivered gaps)).pendingOf .done
      = s.pendingOf .done ++ [{ claim := .done k j delivered gaps, attempts := 0, doom := .none }] := by
  have free : s.hasRoom (Claim.done k j delivered gaps).kind = true := decide_eq_true room
  unfold State.claimFifo
  rw [if_pos free]
  exact Vector.getElem_set_self ..

theorem frameAt_of_only {S : List Piece} {s u : State} (h : Only S s u) (i : Fin 8) (out : .entries ∉ S := by decide) :
    u.frameAt i = s.frameAt i := by
  unfold State.frameAt
  rw [h.slot_frame i out]

/-- A part ends as VOID and claims DONE VOID. -/
theorem voidPart_values {s : State} {i : Fin 8} {j : Fin 2} {p : OwnPart} (part : s.partAt i j = some p) :
    (s.voidPart i j).partAt i j = some (p.ended .void)
      ∧ (s.voidPart i j).ctr.delivery = { s.ctr.delivery with partsVoid := s.ctr.delivery.partsVoid + 1 }
      ∧ ((s.pendingOf .done).length < 16 → (s.voidPart i j).pendingOf .done = s.pendingOf .done
          ++ [{ claim := .done (s.frameAt i) j false p.gapRows, attempts := 0, doom := .none }]) := by
  have marked : (s.markVoid i j).partAt i j = some (p.ended .void) := by
    rw [markVoid_partAt_same, part]
    rfl
  have only := markVoid_only s i j
  have claimed := claimDone_only (s.markVoid i j) i j false
  have parts : ((s.markVoid i j).claimDone i j false).partAt i j = (s.markVoid i j).partAt i j :=
    congrFun (congrFun (claimed .parts (by decide)) i) j
  have counts : ((s.markVoid i j).claimDone i j false).ctr.delivery = s.ctr.delivery :=
    (claimed .deliveryCtr (by decide)).trans (only .deliveryCtr (by decide))
  have lists : (s.markVoid i j).pendingOf .done = s.pendingOf .done := pendingOf_congr (only .tx (by decide)) _
  refine ⟨parts.trans marked, ?_, fun room => ?_⟩
  · exact congrArg (fun c : DeliveryCounters => { c with partsVoid := c.partsVoid + 1 }) counts
  · have ended : ((s.markVoid i j).claimDone i j false).pendingOf .done = (s.markVoid i j).pendingOf .done
        ++ [{ claim := .done ((s.markVoid i j).frameAt i) j false p.gapRows, attempts := 0, doom := .none }] := by
      rw [claimDone_of_part marked]
      exact claimFifo_done (by rw [lists]; exact room) _ _ _ _
    rw [lists, frameAt_of_only only] at ended
    exact ended

/-- A part ends as REPORTED and claims DONE DELIVERED. -/
theorem reportPart_values {s : State} {i : Fin 8} {j : Fin 2} {p : OwnPart} (part : s.partAt i j = some p) :
    (s.reportPart i j).partAt i j = some (p.ended .reported)
      ∧ (s.reportPart i j).ctr.delivery = { s.ctr.delivery with partsDelivered := s.ctr.delivery.partsDelivered + 1 }
      ∧ ((s.pendingOf .done).length < 16 → (s.reportPart i j).pendingOf .done = s.pendingOf .done
          ++ [{ claim := .done (s.frameAt i) j true p.gapRows, attempts := 0, doom := .none }]) := by
  have marked : (s.modifyPart i j fun p => p.ended .reported).partAt i j = some (p.ended .reported) := by
    rw [modifyPart_partAt_same, part]
    rfl
  have only := modifyPart_only s i j fun p => p.ended .reported
  have claimed := claimDone_only (s.modifyPart i j fun p => p.ended .reported) i j true
  have parts : ((s.modifyPart i j fun p => p.ended .reported).claimDone i j true).partAt i j
      = (s.modifyPart i j fun p => p.ended .reported).partAt i j := congrFun (congrFun (claimed .parts (by decide)) i) j
  have counts : ((s.modifyPart i j fun p => p.ended .reported).claimDone i j true).ctr.delivery = s.ctr.delivery :=
    (claimed .deliveryCtr (by decide)).trans (only .deliveryCtr (by decide))
  have lists : (s.modifyPart i j fun p => p.ended .reported).pendingOf .done = s.pendingOf .done :=
    pendingOf_congr (only .tx (by decide)) _
  refine ⟨parts.trans marked, ?_, fun room => ?_⟩
  · exact congrArg (fun c : DeliveryCounters => { c with partsDelivered := c.partsDelivered + 1 }) counts
  · have ended : ((s.modifyPart i j fun p => p.ended .reported).claimDone i j true).pendingOf .done
        = (s.modifyPart i j fun p => p.ended .reported).pendingOf .done ++ [{
          claim := .done ((s.modifyPart i j fun p => p.ended .reported).frameAt i) j true p.gapRows
          attempts := 0, doom := .none }] := by
      rw [claimDone_of_part marked]
      exact claimFifo_done (by rw [lists]; exact room) _ _ _ _
    rw [lists, frameAt_of_only only] at ended
    exact ended

/-! ### The instructions that end parts (R136 to R138) -/

/-- The head decisions leave a part that has ended. -/
theorem settle_part_kept {s : State} {i : Fin 8} {j : Fin 2} {p : OwnPart} (part : s.partAt i j = some p)
    (ended : p.state ≠ .collecting) : s.settle.partAt i j = some p := by
  obtain ⟨p', part', ends⟩ := (PartsEnd.settle s).part part
  rw [part', ends.kept ended]

theorem modifyPart_eq (s : State) (i : Fin 8) (j : Fin 2) (f : OwnPart → OwnPart) :
    s.modifyPart i j f = { s with frames := (s.modifyPart i j f).frames } := by
  unfold State.modifyPart State.modifyLeg
  split <;> rfl

theorem cutTurn_counts (s : State) (i : Fin 8) (j : Fin 2) : ∃ n, (s.cutTurn i j).ctr.delivery
    = { s.ctr.delivery with linesDropped := n } := by
  have dropped {b : Prop} [Decidable b] : ∃ n,
      (if b then s.bump (countDelivery fun c => { c with linesDropped := c.linesDropped + 1 }) else s).ctr.delivery
        = { s.ctr.delivery with linesDropped := n } := by
    split <;> exact ⟨_, rfl⟩
  unfold State.cutTurn
  split
  · exact ⟨_, rfl⟩
  · exact ite_of (P := fun v => ∃ n, v.ctr.delivery = { s.ctr.delivery with linesDropped := n }) (fun _ => dropped)
      fun _ => dropped

/-- The record unit awaits a flush of this number. -/
def RecordStep.awaits (x : RecordStep) (number : Nat) : Bool :=
  match x with
  | .flushIssued n _ => n == number
  | .idle | .write | .flushWaiting | .message => false

theorem recordAwaits_iff {x : RecordStep} {number : Nat} : x.awaits number = true ↔ ∃ m, x = .flushIssued number m := by
  cases x <;> simp [RecordStep.awaits]

/-- A flush completion is for the record unit, or for a part. -/
theorem exec_flushCompletion (t : Moment) (number : Nat) (s : State) : exec (.flushCompletion t number) s
    = .next (if s.records.step.awaits number then
        { s.tick t with records := { s.records with step := .message } }.present .recordMessage
      else if s.closed then s.tick t
      else match (s.tick t).awaiting number with
        | some (i, j) => (s.tick t).reportPart i j
        | none => s.tick t) := rfl

/-- The head record leaves the queue, and the next begins (R152). -/
theorem dropHeadRecord_values {s : State} {r : FrameRecord} {rest : List FrameRecord} (queue : s.records.queue = r :: rest) :
    s.dropHeadRecord.records = { queue := rest, step := if rest = [] then .idle else .write }
      ∧ (rest ≠ [] → .recordWrite ∈ s.dropHeadRecord.delivery.port) := by
  have left : s.records.queue.drop 1 = rest := by
    rw [queue]
    rfl
  unfold State.dropHeadRecord State.beginRecord
  rw [left]
  cases rest with
  | nil => exact ⟨rfl, fun some => absurd rfl some⟩
  | cons x rest => exact ⟨rfl, fun _ => List.mem_append_right _ (List.mem_singleton_self _)⟩

/-- What LEG_TIMER_EXPIRY does to a part whose timer is due (R138). -/
theorem exec_legTimerExpiry {t : Moment} {s : State} {i : Fin 8} {j : Fin 2} {p : OwnPart} {deadline : Moment}
    (part : s.partAt i j = some p) (timer : p.timer = .running deadline) (due : deadline ≤ max s.now t)
    (opened : s.closed = false) : exec (.legTimerExpiry t i j) s = .next (if p.state = .collecting then
        ((((s.tick t).cutTurn i j).voidPart i j).bump
          (countDelivery fun c => { c with legTimeouts := c.legTimeouts + 1 })).settle
      else (s.tick t).modifyPart i j fun p => { p with timer := .expired }) := by
  obtain ⟨state, taps, gapRows, _, flush⟩ := p
  obtain rfl := timer
  have here : (s.tick t).partAt i j = some ⟨state, taps, gapRows, .running deadline, flush⟩ := part
  have acts : deadline ≤ (s.tick t).now ∧ ¬ (s.tick t).closed := ⟨due, (Bool.eq_false_iff.mp opened :)⟩
  refine congrArg Host.Outcome.next ?_
  rw [here]
  exact if_pos acts

/-- What FLUSH_TIMEOUT does to a part whose flush is overdue (R137). -/
theorem exec_flushTimeout {t : Moment} {s : State} {i : Fin 8} {j : Fin 2} {p : OwnPart} {number : Nat} {m : Moment}
    (part : s.partAt i j = some p) (flushing : p.state = .flushing) (issued : p.flush = .issued number m)
    (due : m + 2000000 ≤ max s.now t) (opened : s.closed = false) : exec (.flushTimeout t i j) s = .next
      (((((s.tick t).voidPart i j).bump
        (countDelivery fun c => { c with flushTimeouts := c.flushTimeouts + 1 })).raise .link).settle) := by
  obtain ⟨state, taps, gapRows, timer, flush⟩ := p
  obtain rfl := flushing
  obtain rfl := issued
  have here : (s.tick t).partAt i j = some ⟨.flushing, taps, gapRows, timer, .issued number m⟩ := part
  have acts : m + 2000000 ≤ (s.tick t).now ∧ ¬ (s.tick t).closed := ⟨due, (Bool.eq_false_iff.mp opened :)⟩
  refine congrArg Host.Outcome.next ?_
  rw [here]
  exact if_pos acts

end Sys2Proof.Machine

namespace Sys2Proof

open Machine

/-- Settles O46: a COLLECTING part is voided, and the head decisions that follow leave it; a FLUSHING one keeps all but the
timer. -/
theorem legTimerVoidsPart : Obligations.LegTimerVoidsPart := by
  intro t s i j p deadline part timer due opened
  have executed := exec_legTimerExpiry part timer due opened
  refine ⟨fun collecting => ?_, fun flushing => ?_⟩
  · rw [if_pos collecting] at executed
    generalize cut_eq : (s.tick t).cutTurn i j = v at executed
    have cut : Only [.now, .turn, .deliveryCtr] s v := by
      rw [← cut_eq]
      exact ((tick_only s t).mono (by decide)).next (cutTurn_only _ i j)
    obtain ⟨n, dropped⟩ : ∃ n, v.ctr.delivery = { s.ctr.delivery with linesDropped := n } := by
      rw [← cut_eq]
      exact cutTurn_counts (s.tick t) i j
    have cut_part : v.partAt i j = some p := (congrFun (congrFun (cut .parts (by decide) : v.partAt = _) i) j).trans part
    obtain ⟨ended, counts, claimed⟩ := voidPart_values cut_part
    generalize u_eq : ((v.voidPart i j).bump
      (countDelivery fun c => { c with legTimeouts := c.legTimeouts + 1 })) = u at executed
    have timed : Only voidPieces (v.voidPart i j) u := by
      rw [← u_eq]
      exact (bumpDelivery_only _ _).mono (by decide)
    have whole : Only (.now :: .turn :: voidPieces) s u :=
      ((cut.mono (by decide)).next (voidPart_only v i j)).next timed
    have settled := whole.mono (S := .now :: .turn :: (voidPieces ++ settlePieces)) (by decide) |>.next (settle_only u)
    have ended_u : u.partAt i j = some (p.ended .void) := by
      rw [← u_eq]
      exact ended
    have counts_u : u.settle.ctr.delivery.undecided = DeliveryCounters.undecided { s.ctr.delivery with
        linesDropped := n, partsVoid := s.ctr.delivery.partsVoid + 1
        legTimeouts := s.ctr.delivery.legTimeouts + 1 } := by
      refine (settle_counts u).trans (congrArg _ ?_)
      rw [← u_eq]
      exact congrArg (fun c : DeliveryCounters => { c with legTimeouts := c.legTimeouts + 1 })
        (counts.trans (congrArg (fun c : DeliveryCounters => { c with partsVoid := c.partsVoid + 1 }) dropped))
    have list : u.settle.pendingOf .done = (v.voidPart i j).pendingOf .done := by
      refine pendingOf_congr ((settle_only u .tx (by decide)).trans ?_) _
      rw [← u_eq]
      rfl
    have before : v.pendingOf .done = s.pendingOf .done := pendingOf_congr (cut .tx (by decide)) _
    refine ⟨u.settle, p.ended .void, executed, settle_part_kept ended_u PartState.noConfusion, rfl, rfl, rfl, rfl,
      congrArg DeliveryCounters.legTimeouts counts_u, congrArg DeliveryCounters.partsVoid counts_u, settled.mem_same,
      settled .handled (by decide), fun room => ?_⟩
    rw [list, claimed (before ▸ room), before, frameAt_of_only cut]
  · rw [if_neg (by rw [flushing]; decide)] at executed
    have only := modifyPart_only (s.tick t) i j fun p => { p with timer := .expired }
    have table := modifyPart_eq (s.tick t) i j fun p => { p with timer := .expired }
    refine ⟨_, executed, ?_, (congrArg State.ctr table :), (congrArg State.delivery table :), only .tx (by decide)⟩
    rw [modifyPart_partAt_same]
    exact congrArg (Option.map _) part

/-- Settles O45: the part that awaits the flush is reported, a flush overdue voids its part, and an overdue record flush
drops the head record. -/
theorem flushesEnd : Obligations.FlushesEnd := by
  refine ⟨fun t s => ⟨fun i j number p opened awaits part other => ?_, fun number m step => ?_,
    fun i j p number m opened part flushing issued due => ?_⟩, fun t s number m r rest queue step due => ?_⟩
  · obtain ⟨ended, counts, claimed⟩ := reportPart_values (s := s.tick t) part
    refine ⟨_, ?_, ended, counts, claimed⟩
    rw [exec_flushCompletion, if_neg fun recorded => ?_, if_neg (by rw [opened]; decide),
      show (s.tick t).awaiting number = _ from awaits]
    obtain ⟨m, step⟩ := recordAwaits_iff.mp recorded
    exact other m step
  · rw [exec_flushCompletion, if_pos (recordAwaits_iff.mpr ⟨m, step⟩)]
    rfl
  · have executed := exec_flushTimeout part flushing issued due opened
    obtain ⟨ended, counts, claimed⟩ := voidPart_values (s := s.tick t) part
    generalize v_eq : ((s.tick t).voidPart i j).bump
      (countDelivery fun c => { c with flushTimeouts := c.flushTimeouts + 1 }) = v at executed
    have voided : Only (.now :: voidPieces) s v := by
      rw [← v_eq]
      exact (((tick_only s t).mono (by decide)).next (voidPart_only _ i j)).next (bumpDelivery_only _ _)
    have raised := raise_only v .link
    have settled := settle_only (v.raise .link)
    have whole : Only (.now :: (voidPieces ++ raisePieces ++ settlePieces)) s (v.raise .link).settle :=
      ((voided.mono (by decide)).next raised).next settled
    have ended_v : v.partAt i j = some (p.ended .void) := by
      rw [← v_eq]
      exact ended
    have counts_v : (v.raise .link).settle.ctr.delivery.undecided = DeliveryCounters.undecided { s.ctr.delivery with
        partsVoid := s.ctr.delivery.partsVoid + 1, flushTimeouts := s.ctr.delivery.flushTimeouts + 1 } := by
      refine (settle_counts _).trans (congrArg _ ((raised .deliveryCtr (by decide)).trans ?_))
      rw [← v_eq]
      exact congrArg (fun c : DeliveryCounters => { c with flushTimeouts := c.flushTimeouts + 1 }) counts
    have list : (v.raise .link).settle.pendingOf .done = ((s.tick t).voidPart i j).pendingOf .done := by
      refine pendingOf_congr ((settled .tx (by decide)).trans ((raised .tx (by decide)).trans ?_)) _
      rw [← v_eq]
      rfl
    have ended_raised : (v.raise .link).partAt i j = some (p.ended .void) :=
      (congrFun (congrFun (raised .parts (by decide) : (v.raise .link).partAt = _) i) j).trans ended_v
    have flag : (v.raise .link).settle.faultSet .link = true :=
      (faultSet_of_only settled _).trans (raise_faultSet v .link)
    have kept := settle_part_kept ended_raised PartState.noConfusion
    generalize (v.raise .link).settle = u at *
    exact ⟨u, p.ended .void, executed, kept, rfl, rfl, rfl, flag, whole .state (by decide),
      congrArg DeliveryCounters.flushTimeouts counts_v,
      congrArg DeliveryCounters.partsVoid counts_v, fun room => list.trans (claimed room)⟩
  · have executed : exec (.recordFlushTimeout t) s
        = .next ((((s.tick t).bump (countLost 1)).raise .link).dropHeadRecord) := by
      refine congrArg Host.Outcome.next ?_
      rw [show (s.tick t).records.step = _ from step]
      exact if_pos due
    generalize v_eq : (s.tick t).bump (countLost 1) = v at executed
    have lost : Only [.now, .recordsCtr] s v := by
      rw [← v_eq]
      exact ((tick_only s t).mono (by decide)).next (bumpRecords_only _ _)
    have count : v.ctr.records = { s.ctr.records with recordLost := s.ctr.records.recordLost + 1 } := by
      rw [← v_eq]
      rfl
    have raised := raise_only v .link
    have dropped := dropHeadRecord_only (v.raise .link)
    have whole : Only (.now :: .recordsCtr :: .records :: raisePieces) s (v.raise .link).dropHeadRecord :=
      ((lost.mono (by decide)).next raised).next dropped
    have same : (v.raise .link).records = s.records := (raised .records (by decide)).trans (lost .records (by decide))
    have queued : (v.raise .link).records.queue = r :: rest := by rw [same, queue]
    obtain ⟨records, begun⟩ := dropHeadRecord_values queued
    have counted : (v.raise .link).dropHeadRecord.ctr.records = v.ctr.records :=
      (dropped .recordsCtr (by decide)).trans (raised .recordsCtr (by decide))
    exact ⟨_, executed, records, begun, (faultSet_of_only dropped _).trans (raise_faultSet _ .link), counted.trans count,
      whole.mem_same, whole .lastRequest (by decide)⟩

end Sys2Proof

/-! The host link goes down and up (R139, R154, R181). -/

namespace Sys2Proof.Machine

-- One proof at a time: the proofs of many statements at once take more threads than the memory holds.
set_option Elab.async false

/-! ### The parts at link down (R139) -/

/-- A part of a later state was there before. -/
theorem PartsRel.origin {R : OwnPart → OwnPart → Prop} {s u : State} (h : PartsRel R s u) {i : Fin 8} {j : Fin 2}
    {p' : OwnPart} (part' : u.partAt i j = some p') : ∃ p, s.partAt i j = some p ∧ R p p' := by
  obtain ⟨p, part⟩ := Option.isSome_iff_exists.mp ((h.isSome i j).symm.trans (Option.isSome_iff_exists.mpr ⟨p', part'⟩))
  obtain ⟨p₁, part₁, related⟩ := h.part part
  cases part₁.symm.trans part'
  exact ⟨p, part, related⟩

/-- A part that is still to end. -/
abbrev OwnPart.live (p : OwnPart) : Prop := p.state = .collecting ∨ p.state = .flushing

theorem OwnPart.not_live {p : OwnPart} (void : p.state = .void) : ¬ p.live := by
  rintro (collecting | flushing)
  · exact PartState.noConfusion (void.symm.trans collecting)
  · exact PartState.noConfusion (void.symm.trans flushing)

/-- A part at link down: it stays, or was COLLECTING or FLUSHING and is VOID. -/
structure OwnPart.Voids (p q : OwnPart) : Prop where
  gapRows : q.gapRows = p.gapRows
  kept : ¬ p.live → q = p
  state : p.live → q = p ∨ q.state = .void

theorem OwnPart.Voids.refl (p : OwnPart) : p.Voids p := ⟨rfl, fun _ => rfl, fun _ => .inl rfl⟩

theorem OwnPart.Voids.trans (p q r : OwnPart) (first : p.Voids q) (second : q.Voids r) : p.Voids r where
  gapRows := second.gapRows.trans first.gapRows
  kept ended := by
    obtain rfl := first.kept ended
    exact second.kept ended
  state live := by
    obtain rfl | void := first.state live
    · exact second.state live
    · obtain rfl := second.kept (OwnPart.not_live void)
      exact .inr void

theorem voidPart_partsVoid (s : State) {i : Fin 8} {j : Fin 2}
    (live : ∀ p, s.partAt i j = some p → p.live) :
    PartsRel OwnPart.Voids s (s.voidPart i j) := by
  have marked : PartsRel OwnPart.Voids s (s.modifyPart i j fun p => p.ended .void) :=
    PartsRel.modifyPart .refl fun p part => ⟨rfl, fun ended => absurd (live p part) ended, fun _ => .inr rfl⟩
  have claimed : Only [.port, .tx, .queueCtr, .deliveryCtr] (s.modifyPart i j fun p => p.ended .void) (s.voidPart i j) :=
    (((dropFlush_only (s.modifyPart i j fun p => p.ended .void) i j).mono (by decide)).next
      (claimDone_only _ i j false)).next (bumpDelivery_only _ _)
  exact PartsRel.trans .trans marked (.of_only .refl claimed)

/-- One place of the walk that voids the parts. -/
def State.voidAt (s : State) (q : Fin 8 × Fin 2) : State :=
  match s.partAt q.1 q.2 with
  | some p => if p.state = .collecting ∨ p.state = .flushing then s.voidPart q.1 q.2 else s
  | none => s

theorem voidParts_eq (s : State) : s.voidParts = s.legPlaces.foldl State.voidAt s := rfl

theorem voidAt_partsVoid (s : State) (q : Fin 8 × Fin 2) : PartsRel OwnPart.Voids s (s.voidAt q) := by
  unfold State.voidAt
  split
  · next p part =>
    split
    · next live => exact voidPart_partsVoid s fun p' part' => Option.some.inj (part.symm.trans part') ▸ live
    · exact PartsRel.of_parts .refl rfl
  · exact PartsRel.of_parts .refl rfl

theorem voidAt_ended (s : State) (i : Fin 8) (j : Fin 2) {p : OwnPart} (part : (s.voidAt (i, j)).partAt i j = some p) :
    ¬ p.live := by
  unfold State.voidAt at part
  split at part
  · next p' part' =>
    split at part
    · rw [(voidPart_values part').1] at part
      cases part
      exact OwnPart.not_live rfl
    · next ended =>
      cases part'.symm.trans part
      exact ended
  · next nothing => cases nothing.symm.trans part

theorem voidWalk_ended (l : List (Fin 8 × Fin 2)) (s : State) {i : Fin 8} {j : Fin 2} (here : (i, j) ∈ l) {p : OwnPart}
    (part : (l.foldl State.voidAt s).partAt i j = some p) : ¬ p.live := by
  induction l generalizing s with
  | nil => cases here
  | cons q l ih =>
    obtain rfl | later := List.mem_cons.mp here
    · have rest : PartsRel OwnPart.Voids (s.voidAt (i, j)) (l.foldl State.voidAt (s.voidAt (i, j))) :=
        PartsRel.foldl .refl .trans voidAt_partsVoid l _
      obtain ⟨p₀, part₀, voids⟩ := rest.origin part
      have ended := voidAt_ended s i j part₀
      rw [voids.kept ended]
      exact ended
    · exact ih _ later part

theorem voidParts_partsVoid (s : State) : PartsRel OwnPart.Voids s s.voidParts :=
  PartsRel.foldl .refl .trans voidAt_partsVoid _ s

/-- No part is COLLECTING. -/
def State.noneCollecting (s : State) : Prop := ∀ i j p, s.partAt i j = some p → p.state ≠ .collecting

theorem voidParts_ended (s : State) {i : Fin 8} {j : Fin 2} {p : OwnPart} (part : s.voidParts.partAt i j = some p) :
    ¬ p.live := by
  obtain ⟨p₀, part₀, -⟩ := (voidParts_partsVoid s).origin part
  exact voidWalk_ended s.legPlaces s (mem_legPlaces_of_part part₀) part

theorem voidParts_noneCollecting (s : State) : s.voidParts.noneCollecting := fun _ _ _ part collecting =>
  voidParts_ended s part (.inl collecting)

theorem State.noneCollecting.ends {s u : State} (h : s.noneCollecting) (ends : PartsEnd s u) : u.noneCollecting := by
  intro i j p part
  obtain ⟨p₀, part₀, kept⟩ := ends.origin part
  rw [kept.kept (h i j p₀ part₀)]
  exact h i j p₀ part₀

/-! ### What is counted at link down -/

theorem voidPart_counts (s : State) (i : Fin 8) (j : Fin 2) :
    (s.voidPart i j).ctr.delivery = { s.ctr.delivery with partsVoid := s.ctr.delivery.partsVoid + 1 } := by
  have claimed : ((s.markVoid i j).claimDone i j false).ctr.delivery = s.ctr.delivery :=
    ((claimDone_only _ i j false) .deliveryCtr (by decide)).trans (markVoid_only s i j .deliveryCtr (by decide))
  exact congrArg (fun c : DeliveryCounters => { c with partsVoid := c.partsVoid + 1 }) claimed

theorem voidPart_notices (s : State) (i : Fin 8) (j : Fin 2) : noticesWaiting (s.voidPart i j) = noticesWaiting s := by
  have claimed : (s.voidPart i j).delivery.port = (s.markVoid i j).delivery.port :=
    (claimDone_only (s.markVoid i j) i j false) .port (by decide)
  have marked : (s.markVoid i j).delivery.port = s.delivery.port.filter fun r => r != .partFlush i j :=
    congrArg (List.filter _) (modifyPart_only s i j (fun p => p.ended .void) .port (by decide))
  unfold noticesWaiting
  rw [claimed, marked, List.countP_filter]
  refine List.countP_congr fun r _ => ?_
  cases r <;> simp [PortRequest.isNotice]

/-- Voiding the parts leaves the notices that wait, and counts voided parts only. -/
theorem voidParts_counts (s : State) :
    noticesWaiting s.voidParts = noticesWaiting s
      ∧ ∃ n, s.voidParts.ctr.delivery = { s.ctr.delivery with partsVoid := n } := by
  rw [voidParts_eq]
  generalize s.legPlaces = l
  induction l generalizing s with
  | nil => exact ⟨rfl, _, rfl⟩
  | cons q l ih =>
    have one : noticesWaiting (s.voidAt q) = noticesWaiting s
        ∧ ∃ n, (s.voidAt q).ctr.delivery = { s.ctr.delivery with partsVoid := n } := by
      unfold State.voidAt
      split
      · split
        · exact ⟨voidPart_notices s _ _, _, voidPart_counts s _ _⟩
        · exact ⟨rfl, _, rfl⟩
      · exact ⟨rfl, _, rfl⟩
    obtain ⟨notices, n, count⟩ := one
    obtain ⟨notices', n', count'⟩ := ih (s.voidAt q)
    exact ⟨notices'.trans notices, n', by rw [List.foldl_cons, count', count]⟩

theorem dropTurn_counts (s : State) : s.dropTurn.ctr.delivery = { s.ctr.delivery with
    linesDropped := s.ctr.delivery.linesDropped
      + (match s.delivery.turn with | some tu => if tu.line.isSome then 1 else 0 | none => 0) } := by
  unfold State.dropTurn
  split
  · next none_held => rw [none_held]; simp
  · next tu held =>
    rw [held]
    obtain ⟨tap, rows, sent, line, finish⟩ := tu
    cases line <;> simp [State.bump, countDelivery]

theorem dropTurn_turn (s : State) : s.dropTurn.delivery.turn = none := by
  unfold State.dropTurn
  split
  · next none_held => exact none_held
  · rfl

/-! ### The port while the link is down -/

theorem startFlushes_of_noneCollecting {s : State} (h : s.noneCollecting) : s.startFlushes = s := by
  unfold State.startFlushes
  generalize s.legPlaces = l
  induction l with
  | nil => rfl
  | cons q l ih =>
    refine Eq.trans (congrArg (List.foldl _ · l) ?_) ih
    dsimp only
    split
    · next p part => exact if_neg fun ended => h _ _ p part ended.1
    · rfl

theorem closed_of_only {S : List Piece} {s u : State} (only : Only S s u) (state_out : .state ∉ S := by decide)
    (timers_out : .timers ∉ S := by decide) : u.closed = s.closed := by
  unfold State.closed
  obtain ⟨-, -, -, byReset, -⟩ := only.timers_eq timers_out
  rw [show u.mem.state = s.mem.state from only .state state_out, byReset]

theorem settleTap_port {s : State} (quiet : s.closed = true ∨ s.noneCollecting) (t : Tap) :
    (s.settleTap t).delivery.port = s.delivery.port := by
  unfold State.settleTap
  dsimp only
  have judged : Only [.lines, .waiting, .deliveryCtr] s ((State.discardHeads t (s.taps[t]).lines s).judgeWait t) :=
    (discardHeads_only t (s.taps[t]).lines s).next (judgeWait_only _ t)
  generalize (State.discardHeads t (s.taps[t]).lines s).judgeWait t = v at judged ⊢
  have same : v.delivery.port = s.delivery.port := judged .port (by decide)
  split
  · unfold State.endCheck
    split
    · exact same
    · next opened =>
      have none_left : v.noneCollecting := by
        refine (quiet.resolve_left fun closed => opened ?_).ends (PartsEnd.of_only judged)
        rw [closed_of_only judged, closed]
      rw [startFlushes_of_noneCollecting (none_left.ends (PartsEnd.finishMarked v t))]
      exact (finishMarked_only v t .port (by decide)).trans same
  · exact same

/-- Without an open part the head decisions present nothing to the port. -/
theorem settle_port {s : State} (quiet : s.closed = true ∨ s.noneCollecting) : s.settle.delivery.port = s.delivery.port := by
  have second : (s.settleTap 0).closed = true ∨ (s.settleTap 0).noneCollecting :=
    quiet.imp (closed_of_only (settleTap_only s 0)).trans fun h => h.ends (PartsEnd.settleTap s 0)
  exact (settleTap_port second 1).trans (settleTap_port quiet 0)

/-- While the link is down the notice of a raise is lost (R181). -/
theorem raise_of_link_down {s : State} (down : s.delivery.linkUp = false) (k : FaultKind) :
    (s.raise k).delivery.port = s.delivery.port ∧ (s.raise k).ctr.window.noticesLost = s.ctr.window.noticesLost
      + (if s.faultSet k = false ∧ s.configured = true
            ∧ (cfgFaultNotices s.area).getLsbD k.bit.val = true then 1 else 0) := by
  have event (v : State) (e : EventKind) : (v.event e).delivery = v.delivery
      ∧ (v.event e).ctr.window.noticesLost = v.ctr.window.noticesLost := by
    unfold State.event
    dsimp only
    split <;> exact ⟨rfl, rfl⟩
  have lost (v : State) (no_link : v.delivery.linkUp = false) : v.notice.delivery.port = v.delivery.port
      ∧ v.notice.ctr.window.noticesLost = v.ctr.window.noticesLost + 1 := by
    unfold State.notice
    rw [if_neg (by simp [no_link])]
    exact ⟨rfl, rfl⟩
  unfold State.raise
  dsimp only
  generalize flagged : State.bump _ (countRaise k) = v
  have ctr : v.ctr.window.noticesLost = s.ctr.window.noticesLost := by rw [← flagged]; rfl
  have delivery : v.delivery = s.delivery := by rw [← flagged]; rfl
  obtain ⟨kept, count⟩ := event v (.fault k)
  split
  · next set => exact ⟨congrArg Delivery.port delivery, by simp [set, ctr]⟩
  · next clear =>
    unfold State.eventNoticed
    split
    · next enabled =>
      obtain ⟨port, more⟩ := lost (v.event (.fault k)) (by rw [kept, delivery, down])
      obtain ⟨configured, noticed⟩ := (Bool.and_eq_true _ _).mp enabled
      exact ⟨by rw [port, kept, delivery], by
        rw [more, count, ctr, if_pos ⟨Bool.eq_false_iff.mpr clear, configured, noticed⟩]⟩
    · next disabled =>
      refine ⟨by rw [kept, delivery], ?_⟩
      rw [count, ctr, if_neg fun both => disabled (by simp [both.2.1, both.2.2])]
      exact (BitVec.add_zero _).symm

/-! ### Link down (R139, R154, R181) -/

/-- The parts and the turn as link down leaves them. -/
def State.voided (s : State) : State := (if s.closed then s else s.voidParts).dropTurn

/-- The port is emptied and closed, and the record unit emptied, with what is lost counted. -/
def State.unplugged (s : State) : State :=
  ((({ s.emptyRecords with delivery := { s.emptyRecords.delivery with port := [], linkUp := false } }.bump
    (countWindow fun c => { c with noticesLost := c.noticesLost + BitVec.ofNat 32 (noticesWaiting s) })).bump
    (countLost s.records.queue.length)).bump (countDelivery fun c => { c with linkDowns := c.linkDowns + 1 }))

theorem exec_linkDown (t : Moment) (s : State) : exec (.linkDown t) s
    = .next (if s.delivery.linkUp then ((s.tick t).voided.unplugged.raise .link).settle else s.tick t) := rfl

theorem voided_only (s : State) : Only (.turn :: voidPieces) s s.voided :=
  (Only.ite (p := s.closed = true) (fun _ => .refl _ s) fun _ => (voidParts_only s).mono (by decide)).next (dropTurn_only _)

theorem unplugged_only (s : State) : Only [.records, .port, .link, .noticeCtr, .recordsCtr, .deliveryCtr] s s.unplugged := by
  refine Only.next ?_ (bumpDelivery_only _ _)
  refine Only.next ?_ (bumpRecords_only _ _)
  refine Only.next ?_ (bumpNotices_only _ _ fun _ => rfl)
  exact ((emptyRecords_only s).mono (by decide)).next (closePort_only _)

theorem voided_partsVoid (s : State) : PartsRel OwnPart.Voids s s.voided := by
  refine PartsRel.trans .trans (?_ : PartsRel OwnPart.Voids s (if s.closed then s else s.voidParts))
    (.of_only .refl (dropTurn_only _))
  split
  · exact .of_parts .refl rfl
  · exact voidParts_partsVoid s

theorem voided_ended {s : State} (opened : s.closed = false) {i : Fin 8} {j : Fin 2} {p : OwnPart}
    (part : s.voided.partAt i j = some p) : ¬ p.live := by
  unfold State.voided at part
  rw [if_neg (Bool.eq_false_iff.mp opened)] at part
  have same : s.voidParts.dropTurn.partAt = s.voidParts.partAt := dropTurn_only s.voidParts .parts (by decide)
  rw [same] at part
  exact voidParts_ended s part

/-- Voiding keeps the notices that wait, and counts the voided parts and the line of the turn. -/
theorem voided_counts (s : State) : noticesWaiting s.voided = noticesWaiting s
    ∧ ∃ n, s.voided.ctr.delivery = { s.ctr.delivery with
        partsVoid := n
        linesDropped := s.ctr.delivery.linesDropped
          + (match s.delivery.turn with | some tu => if tu.line.isSome then 1 else 0 | none => 0) } := by
  have parts : noticesWaiting (if s.closed then s else s.voidParts) = noticesWaiting s
      ∧ (if s.closed then s else s.voidParts).delivery.turn = s.delivery.turn
      ∧ ∃ n, (if s.closed then s else s.voidParts).ctr.delivery = { s.ctr.delivery with partsVoid := n } := by
    split
    · exact ⟨rfl, rfl, _, rfl⟩
    · obtain ⟨notices, n, count⟩ := voidParts_counts s
      have turn : (s.voidParts.delivery.turn, s.voidParts.delivery.lastTap) = _ := voidParts_only s .turn (by decide)
      exact ⟨notices, congrArg Prod.fst turn, n, count⟩
  unfold State.voided
  generalize (if s.closed then s else s.voidParts) = v at parts ⊢
  obtain ⟨notices, turn, n, count⟩ := parts
  refine ⟨(congrArg (List.countP _) (dropTurn_only v .port (by decide))).trans notices, n, ?_⟩
  rw [dropTurn_counts, count, turn]

end Sys2Proof.Machine

namespace Sys2Proof

open Machine

/-- Settles O47: `voided` and `unplugged` say what is lost; with no open part left the head decisions present nothing. -/
theorem linkGoesDownAndUp : Obligations.LinkGoesDownAndUp := by
  intro t s
  refine ⟨fun up => ?_, fun down => ?_, rfl⟩
  · have executed := exec_linkDown t s
    rw [if_pos up] at executed
    have voided := voided_only (s.tick t)
    have parts := voided_partsVoid (s.tick t)
    obtain ⟨notices, n, counts⟩ := voided_counts (s.tick t)
    have turned : (s.tick t).voided.delivery.turn = none := dropTurn_turn _
    have ended (opened : s.closed = false) (i : Fin 8) (j : Fin 2) (p : OwnPart) :
        (s.tick t).voided.partAt i j = some p → ¬ p.live :=
      voided_ended (s := s.tick t) opened
    generalize (s.tick t).voided = v at *
    have only_v : Only (.now :: .turn :: voidPieces) s v := ((tick_only s t).mono (by decide)).next voided
    have unplugged := unplugged_only v
    have counts_w : v.unplugged.ctr.delivery = { v.ctr.delivery with linkDowns := v.ctr.delivery.linkDowns + 1 } := rfl
    have notices_w : v.unplugged.ctr.window.noticesLost
        = v.ctr.window.noticesLost + BitVec.ofNat 32 (noticesWaiting v) := rfl
    have records_w : v.unplugged.ctr.records.recordLost
        = v.ctr.records.recordLost + BitVec.ofNat 32 v.records.queue.length := rfl
    have emptied : v.unplugged.records = { queue := [], step := .idle } ∧ v.unplugged.delivery.port = []
        ∧ v.unplugged.delivery.linkUp = false := ⟨rfl, rfl, rfl⟩
    generalize v.unplugged = w at *
    obtain ⟨records, port, down⟩ := emptied
    have raised := raise_only w .link
    have flag := raise_faultSet w .link
    obtain ⟨port_u, lost⟩ := raise_of_link_down down .link
    generalize w.raise .link = x at *
    have settled := settle_only x
    have only_w : Only (.now :: .turn :: .records :: .link :: .noticeCtr :: .recordsCtr :: voidPieces) s w :=
      (only_v.mono (by decide)).next unplugged
    have whole : Only (.now :: .turn :: .records :: .link :: .recordsCtr :: (voidPieces ++ raisePieces ++ settlePieces)) s
        x.settle := ((only_w.mono (by decide)).next raised).next settled
    have ended_x (opened : s.closed = false) : ∀ i j p, x.partAt i j = some p → ¬ p.live := by
      have same : x.partAt = v.partAt := (raised .parts (by decide)).trans (unplugged .parts (by decide))
      rw [same]
      exact ended opened
    have quiet : x.closed = true ∨ x.noneCollecting := by
      have stays : x.closed = s.closed :=
        ((closed_of_only raised).trans (closed_of_only unplugged)).trans (closed_of_only only_v)
      cases closed : s.closed with
      | true => exact .inl (stays.trans closed)
      | false => exact .inr fun i j p part collecting => ended_x closed i j p part (.inl collecting)
    have counts_u : x.settle.ctr.delivery.undecided = w.ctr.delivery.undecided :=
      (settle_counts x).trans (congrArg _ (raised .deliveryCtr (by decide)))
    rw [counts_w, counts] at counts_u
    have port_settled := (settle_port quiet).trans (port_u.trans port)
    have parts_u : PartsRel OwnPart.Ends x x.settle := PartsEnd.settle x
    generalize x.settle = u at *
    have turn_u : (u.delivery.turn, u.delivery.lastTap) = (v.delivery.turn, v.delivery.lastTap) :=
      (settled .turn (by decide)).trans ((raised .turn (by decide)).trans (unplugged .turn (by decide)))
    have records_u : u.records = w.records := (settled .records (by decide)).trans (raised .records (by decide))
    have link_u : u.delivery.linkUp = w.delivery.linkUp := (settled .link (by decide)).trans (raised .link (by decide))
    have lost_u : u.ctr.window.noticesLost = x.ctr.window.noticesLost := congrArg Prod.snd (settled .noticeCtr (by decide))
    have lost_v : v.ctr.window.noticesLost = s.ctr.window.noticesLost := congrArg Prod.snd (only_v .noticeCtr (by decide))
    have recordLost_u : u.ctr.records.recordLost = w.ctr.records.recordLost := congrArg RecordCounters.recordLost
      ((settled .recordsCtr (by decide)).trans (raised .recordsCtr (by decide)))
    have recordsCtr_v : v.ctr.records = s.ctr.records := only_v .recordsCtr (by decide)
    have records_v : v.records = s.records := only_v .records (by decide)
    have configured_w : w.configured = s.configured := by
      unfold State.configured
      rw [show w.mem.state = s.mem.state from only_w .state (by decide)]
    refine ⟨u, executed, link_u.trans down, (congrArg Prod.fst turn_u).trans turned, records_u.trans records,
      (faultSet_of_only settled _).trans flag, whole.mem_same, whole .handled (by decide), port_settled,
      congrArg DeliveryCounters.linkDowns counts_u, ?_, congrArg DeliveryCounters.linesDropped counts_u, ?_,
      fun opened i j p part live => ?_⟩
    · rw [lost_u, lost, notices_w, lost_v, notices, faultSet_of_only only_w, configured_w, only_w.area_eq.1]
      rfl
    · rw [recordLost_u, records_w, recordsCtr_v, records_v]
    · obtain ⟨p', part', voids⟩ := parts.part (i := i) (j := j) (p := p) part
      have part_x : x.partAt i j = some p' := by
        have same : x.partAt = v.partAt := (raised .parts (by decide)).trans (unplugged .parts (by decide))
        rw [same]
        exact part'
      have void : p'.state = .void := (voids.state live).resolve_left fun same => ended_x opened i j p' part_x (same ▸ live)
      obtain ⟨p'', part_u, ends⟩ := parts_u.part part_x
      obtain rfl := ends.kept (by rw [void]; decide)
      exact ⟨p'', part_u, void, voids.gapRows⟩
  · rw [exec_linkDown, if_neg (by rw [down]; decide)]

end Sys2Proof

/-! The decisions for the heads of the line queues (R127, R128, R129). -/

namespace Sys2Proof.Machine

-- One proof at a time: the proofs of many statements at once take more threads than the memory holds.
set_option Elab.async false

/-! ### The decision for a line (R127) -/

theorem headDecision_closed {s : State} (closed : s.closed = true) (l : Line) : s.headDecision l = .discard .closed :=
  if_pos closed

theorem headDecision_known {s : State} {l : Line} {e : Entry} (opened : s.closed = false)
    (entry : s.entryFor (frameOf s.area l.index) = some e) :
    (cfgPhaseStream s.area l.phase = none → s.headDecision l = .discard .noPart)
      ∧ ∀ j, cfgPhaseStream s.area l.phase = some j →
          ((e.legs[j]).own = none → s.headDecision l = .discard .noPart)
          ∧ ∀ p, (e.legs[j]).own = some p →
              (p.state = .collecting → s.headDecision l = .write)
                ∧ (p.state ≠ .collecting → s.headDecision l = .discard .partClosed) := by
  unfold State.headDecision
  dsimp only
  rw [if_neg (Bool.eq_false_iff.mp opened), entry]
  refine ⟨fun no_stream => ?_, fun j stream => ⟨fun no_part => ?_,
    fun p part => ⟨fun collecting => ?_, fun ended => ?_⟩⟩⟩
  · rw [no_stream]
  all_goals rw [stream]; dsimp only
  · rw [no_part]
  · rw [part]
    exact if_pos collecting
  · rw [part]
    exact if_neg ended

theorem headDecision_unknown {s : State} {l : Line} (opened : s.closed = false)
    (no_entry : s.entryFor (frameOf s.area l.index) = none) : s.headDecision l
      = if !s.allowed (frameOf s.area l.index) then .discard .notAllowed
        else if frameOf s.area l.index ≤ s.frames.h then .discard .notInTable
        else if s.pos.lineIndex < (frameOf s.area l.index + 2) * cfgL s.area then .wait
        else .discard .unopened := by
  unfold State.headDecision
  dsimp only
  rw [if_neg (Bool.eq_false_iff.mp opened), no_entry]

/-! ### The run of discards (R128) -/

/-- The line is to be discarded. -/
def State.discards (s : State) (l : Line) : Bool :=
  match s.headDecision l with
  | .discard _ => true
  | .write | .wait => false

theorem discards_iff {s : State} {l : Line} : s.discards l = true ↔ ∃ why, s.headDecision l = .discard why := by
  unfold State.discards
  split <;> simp_all

/-- The counters after a run of discards. -/
def DeliveryCounters.discarded (c : DeliveryCounters) (s : State) (gone : List Line) : DeliveryCounters :=
  let count (why : DiscardCase) : Counter := BitVec.ofNat 32 (gone.countP fun l => s.headDecision l == .discard why)
  { c with
    linesDiscarded := c.linesDiscarded + BitVec.ofNat 32 gone.length
    discardClosed := c.discardClosed + count .closed
    discardNoPart := c.discardNoPart + count .noPart
    discardPartClosed := c.discardPartClosed + count .partClosed
    discardNotAllowed := c.discardNotAllowed + count .notAllowed
    discardNotInTable := c.discardNotInTable + count .notInTable
    discardUnopened := c.discardUnopened + count .unopened }

theorem discarded_nil (c : DeliveryCounters) (s : State) : c.discarded s [] = c := by simp [DeliveryCounters.discarded]

/-- One discarded head. -/
def State.discardHead (s : State) (t : Tap) (rest : List Line) (why : DiscardCase) : State :=
  ((s.setLines t rest).setWaiting t false).bump (countDiscard why)

theorem headDecision_discardHead (s : State) (t : Tap) (rest : List Line) (why : DiscardCase) :
    (s.discardHead t rest why).headDecision = s.headDecision := rfl

theorem discards_discardHead (s : State) (t : Tap) (rest : List Line) (why : DiscardCase) :
    (s.discardHead t rest why).discards = s.discards := rfl

theorem ofNat_succ_add (c : Counter) (n : Nat) : c + 1#32 + BitVec.ofNat 32 n = c + BitVec.ofNat 32 (n + 1) := by
  rw [BitVec.ofNat_add, BitVec.add_assoc, BitVec.add_comm (BitVec.ofNat 32 n)]

theorem discarded_cons (s : State) (t : Tap) (l : Line) (rest gone : List Line) {why : DiscardCase}
    (discard : s.headDecision l = .discard why) :
    (s.discardHead t rest why).ctr.delivery.discarded (s.discardHead t rest why) gone
      = s.ctr.delivery.discarded s (l :: gone) := by
  unfold DeliveryCounters.discarded
  rw [headDecision_discardHead]
  cases why <;> simp [discard, State.discardHead, State.bump, countDiscard, countDelivery, State.setWaiting,
    State.setLines, State.setTap, ofNat_succ_add]

theorem discardHeads_discard (t : Tap) {s : State} {l : Line} (rest : List Line) {why : DiscardCase}
    (discard : s.headDecision l = .discard why) :
    State.discardHeads t (l :: rest) s = State.discardHeads t rest (s.discardHead t rest why) := by
  rw [State.discardHeads, discard]
  rfl

theorem discardHeads_stop (t : Tap) {s : State} {l : Line} (rest : List Line) (stays : ¬ s.discards l = true) :
    State.discardHeads t (l :: rest) s = s := by
  unfold State.discardHeads
  split
  · next why discard => exact absurd (discards_iff.mpr ⟨why, discard⟩) stays
  all_goals rfl

/-- What the run of discards at a tap leaves, and what it counts. -/
theorem discardHeads_values (t : Tap) (l : List Line) (s : State) (heads : (s.taps[t]).lines = l) :
    ((State.discardHeads t l s).taps[t]).lines = l.dropWhile s.discards
      ∧ (State.discardHeads t l s).delivery.waiting[t] = ((l.takeWhile s.discards).isEmpty && s.delivery.waiting[t])
      ∧ (State.discardHeads t l s).ctr.delivery = s.ctr.delivery.discarded s (l.takeWhile s.discards) := by
  induction l generalizing s with
  | nil => exact ⟨heads, rfl, (discarded_nil _ s).symm⟩
  | cons x rest ih =>
    by_cases gone : s.discards x = true
    · obtain ⟨why, decision⟩ := discards_iff.mp gone
      rw [List.dropWhile_cons_of_pos gone, List.takeWhile_cons_of_pos gone, discardHeads_discard t rest decision]
      have left : ((s.discardHead t rest why).taps[t]).lines = rest :=
        congrArg TapState.lines (setTap_taps_same s t { s.taps[t] with lines := rest })
      obtain ⟨lines, waiting, counts⟩ := ih (s.discardHead t rest why) left
      rw [discards_discardHead] at lines waiting counts
      refine ⟨lines, waiting.trans ?_, counts.trans (discarded_cons s t x rest _ decision)⟩
      have unset : (s.discardHead t rest why).delivery.waiting[t] = false := Vector.getElem_set_self ..
      rw [unset, Bool.and_false]
      rfl
    · rw [List.dropWhile_cons_of_neg gone, List.takeWhile_cons_of_neg gone, discardHeads_stop t rest gone]
      exact ⟨heads, rfl, (discarded_nil _ s).symm⟩

theorem discardHeads_headDecision (t : Tap) (l : List Line) (s : State) :
    (State.discardHeads t l s).headDecision = s.headDecision := by
  induction l generalizing s with
  | nil => rfl
  | cons x rest ih =>
    by_cases gone : s.discards x = true
    · obtain ⟨why, decision⟩ := discards_iff.mp gone
      rw [discardHeads_discard t rest decision, ih, headDecision_discardHead]
    · rw [discardHeads_stop t rest gone]

/-! ### The wait of a head (R129) -/

/-- The state but for what waits, and what is counted of it. -/
def State.judged (s : State) (w : Vector Bool 2) (n : Counter) : State :=
  { s with delivery := { s.delivery with waiting := w }
           ctr := { s.ctr with delivery := { s.ctr.delivery with openWaits := n } } }

/-- The head of a tap's queue begins a wait. -/
def State.waitBegins (s : State) (t : Tap) : Bool :=
  (s.taps[t]).lines.head?.any (fun l => s.headDecision l == .wait) && !s.delivery.waiting[t]

theorem judgeWait_eq (s : State) (t : Tap) : ∃ w, s.judgeWait t
    = s.judged w (s.ctr.delivery.openWaits + if s.waitBegins t then 1 else 0) := by
  have still : s.ctr.delivery.openWaits + 0 = s.ctr.delivery.openWaits := BitVec.add_zero _
  unfold State.judgeWait State.waitBegins
  cases lines : (s.taps[t]).lines with
  | nil =>
    refine ⟨s.delivery.waiting.set t false, ?_⟩
    simp only [List.head?_nil, Option.any_none, Bool.false_and, Bool.false_eq_true, if_false, still]
    rfl
  | cons l rest =>
    dsimp only
    split
    · next waits =>
      split
      · next known =>
        refine ⟨s.delivery.waiting, ?_⟩
        rw [if_neg (by simp [known]), still]
        rfl
      · next fresh =>
        refine ⟨s.delivery.waiting.set t true, ?_⟩
        rw [if_pos (by simp [waits, fresh])]
        rfl
    · next goes =>
      refine ⟨s.delivery.waiting.set t false, ?_⟩
      rw [if_neg (by simp [goes]), still]
      rfl

/-! ### A tap's heads decided -/

/-- What the decisions at a tap leave, and what they count (R127, R128, R129). -/
theorem settleTap_values (s : State) (t : Tap) :
    ((s.settleTap t).taps[t]).lines = (s.taps[t]).lines.dropWhile s.discards
      ∧ (s.settleTap t).ctr.delivery = { s.ctr.delivery.discarded s ((s.taps[t]).lines.takeWhile s.discards) with
          openWaits := s.ctr.delivery.openWaits
            + (if ((s.taps[t]).lines.dropWhile s.discards).head?.any (fun l => s.headDecision l == .wait)
                && (!((s.taps[t]).lines.takeWhile s.discards).isEmpty || !s.delivery.waiting[t]) then 1 else 0) } := by
  obtain ⟨lines, waiting, counts⟩ := discardHeads_values t _ s rfl
  have decisions := discardHeads_headDecision t (s.taps[t]).lines s
  unfold State.settleTap
  dsimp only
  generalize State.discardHeads t (s.taps[t]).lines s = v at *
  obtain ⟨w, judged⟩ := judgeWait_eq v t
  have begins : v.waitBegins t = (((s.taps[t]).lines.dropWhile s.discards).head?.any (fun l => s.headDecision l == .wait)
      && (!((s.taps[t]).lines.takeWhile s.discards).isEmpty || !s.delivery.waiting[t])) := by
    unfold State.waitBegins
    rw [lines, waiting, decisions, Bool.not_and]
  rw [judged, begins]
  generalize (if (_ && _) = true then (1 : Counter) else 0) = n
  have lines_u : ((v.judged w (v.ctr.delivery.openWaits + n)).taps[t]).lines = (s.taps[t]).lines.dropWhile s.discards := lines
  have counts_u : (v.judged w (v.ctr.delivery.openWaits + n)).ctr.delivery = {
      s.ctr.delivery.discarded s ((s.taps[t]).lines.takeWhile s.discards) with
      openWaits := s.ctr.delivery.openWaits + n } := by
    show { v.ctr.delivery with openWaits := v.ctr.delivery.openWaits + n } = _
    rw [counts]
    rfl
  generalize v.judged w (v.ctr.delivery.openWaits + n) = u at *
  split
  · exact ⟨((endCheck_only u t).lines_eq t).trans lines_u, (endCheck_deliveryCtr u t).trans counts_u⟩
  · exact ⟨lines_u, counts_u⟩

/-- Where no head is to be discarded the decisions only begin and end waits. -/
theorem settleTap_of_kept {s : State} {t : Tap}
    (kept : ∀ l, (s.taps[t]).lines.head? = some l → ∀ why, s.headDecision l ≠ .discard why) :
    ∃ w n, s.settleTap t = s.judged w n := by
  have stays : State.discardHeads t (s.taps[t]).lines s = s := by
    cases lines : (s.taps[t]).lines with
    | nil => rfl
    | cons l rest =>
      refine discardHeads_stop t rest fun gone => ?_
      obtain ⟨why, discard⟩ := discards_iff.mp gone
      exact kept l (by rw [lines]; rfl) why discard
  obtain ⟨w, judged⟩ := judgeWait_eq s t
  refine ⟨w, s.ctr.delivery.openWaits + (if s.waitBegins t = true then 1 else 0), ?_⟩
  unfold State.settleTap
  dsimp only
  rw [stays, judged]
  exact if_neg (Nat.lt_irrefl _)

theorem settle_of_headsKept {s : State} (kept : s.headsKept) : ∃ w n, s.settle = s.judged w n := by
  obtain ⟨w, n, first⟩ := settleTap_of_kept (kept 0)
  obtain ⟨w', n', second⟩ := settleTap_of_kept (s := s.judged w n) (kept 1)
  refine ⟨w', n', ?_⟩
  unfold State.settle
  rw [first, second]
  rfl

end Sys2Proof.Machine

/-! The rows to be filled, and the pixels that fill them (R130, R134). -/

namespace Sys2Proof.Machine

-- One proof at a time: the proofs of many statements at once take more threads than the memory holds.
set_option Elab.async false

/-! ### The known slots in increasing frame number -/

theorem insertByFrame_sorted (frame : Fin 8 → Nat) (i : Fin 8) {l : List (Fin 8)}
    (sorted : l.Pairwise fun a b => frame a ≤ frame b) : (insertByFrame frame i l).Pairwise fun a b => frame a ≤ frame b := by
  induction l with
  | nil => exact List.pairwise_singleton ..
  | cons j rest ih =>
    obtain ⟨first, rest_sorted⟩ := List.pairwise_cons.mp sorted
    unfold insertByFrame
    split
    · next low =>
      refine List.pairwise_cons.mpr ⟨fun k within => ?_, sorted⟩
      obtain rfl | later := List.mem_cons.mp within
      · exact low
      · exact low.trans (first k later)
    · next high =>
      refine List.pairwise_cons.mpr ⟨fun k within => ?_, ih rest_sorted⟩
      obtain rfl | later := (mem_insertByFrame ..).mp within
      · omega
      · exact first k later

theorem knownSlots_sorted (s : State) : s.knownSlots.Pairwise fun a b => s.frameAt a ≤ s.frameAt b := by
  have sorted (l : List (Fin 8)) : (l.foldr (insertByFrame s.frameAt) []).Pairwise fun a b => s.frameAt a ≤ s.frameAt b := by
    induction l with
    | nil => exact .nil
    | cons i rest ih => exact insertByFrame_sorted s.frameAt i ih
  exact sorted _

theorem frameAt_known {s : State} {i : Fin 8} {e : Entry} (entry : s.frames.slots[i].entry = some e) :
    s.frames.slots[i].frame = some e.frame ∧ s.frameAt i = e.frame := by
  unfold State.frameAt
  cases slot : s.frames.slots[i] with
  | free | foreign _ => rw [slot] at entry; cases entry
  | known e' => rw [slot] at entry; cases entry; exact ⟨rfl, rfl⟩

theorem slotOf_frameAt {s : State} (placed : s.slotsPlaced) {i : Fin 8} {e : Entry}
    (entry : s.frames.slots[i].entry = some e) : slotOf (s.frameAt i) = i := by
  obtain ⟨frame, same⟩ := frameAt_known entry
  rw [same]
  exact Fin.ext (placed i e.frame frame)

/-- Two known slots hold two frames. -/
theorem knownSlots_increasing {s : State} (placed : s.slotsPlaced) :
    s.knownSlots.Pairwise fun a b => s.frameAt a < s.frameAt b := by
  refine ((knownSlots_sorted s).and (knownSlots_nodup s)).imp_of_mem fun {a b} in_a in_b ⟨ordered, other⟩ => ?_
  obtain ⟨e, entry⟩ := (mem_knownSlots s a).mp in_a
  obtain ⟨e', entry'⟩ := (mem_knownSlots s b).mp in_b
  refine lt_of_le_of_ne ordered fun same => other ?_
  rw [← slotOf_frameAt placed entry, ← slotOf_frameAt placed entry', same]

/-! ### The rows to be filled (R130) -/

/-- A row of the frame in a slot belongs to a part in which the tap is not done. -/
def State.rowOpen (s : State) (t : Tap) (i : Fin 8) (r : Nat) : Bool :=
  match streamOf s.area r with
  | some j => (match s.partAt i j with | some p => p.tapOpen t | none => false)
  | none => false

theorem rowOpen_iff {s : State} {t : Tap} {i : Fin 8} {r : Nat} : s.rowOpen t i r = true
    ↔ ∃ j p, streamOf s.area r = some j ∧ s.partAt i j = some p ∧ p.state = .collecting ∧ (p.taps[t]).done = false := by
  unfold State.rowOpen
  cases stream : streamOf s.area r with
  | none => simp
  | some j =>
    cases part : s.partAt i j with
    | none => simp [part]
    | some p => simp [part, OwnPart.tapOpen]

/-- The rows to be filled in one slot. -/
def State.fillRowsAt (s : State) (t : Tap) (first last : Nat) (i : Fin 8) : List Nat :=
  (List.range' (max first (s.frameAt i * cfgL s.area))
    (min last ((s.frameAt i + 1) * cfgL s.area) - max first (s.frameAt i * cfgL s.area))).filter (s.rowOpen t i)

theorem fillRows_eq (s : State) (t : Tap) (first last : Nat) :
    s.fillRows t first last = s.knownSlots.flatMap (s.fillRowsAt t first last) := rfl

theorem mem_fillRowsAt {s : State} {t : Tap} {first last r : Nat} {i : Fin 8} (lines : 0 < cfgL s.area) :
    r ∈ s.fillRowsAt t first last i
      ↔ first ≤ r ∧ r < last ∧ frameOf s.area r = s.frameAt i ∧ s.rowOpen t i r = true := by
  have inside : frameOf s.area r = s.frameAt i ↔ s.frameAt i * cfgL s.area ≤ r ∧ r < (s.frameAt i + 1) * cfgL s.area :=
    Nat.div_eq_iff lines |>.trans (by rw [Nat.add_mul]; omega)
  unfold State.fillRowsAt
  rw [List.mem_filter, List.mem_range'_1, inside]
  generalize s.frameAt i * cfgL s.area = low
  generalize (s.frameAt i + 1) * cfgL s.area = high
  constructor
  · rintro ⟨⟨above, below⟩, row_open⟩
    exact ⟨by omega, by omega, ⟨by omega, by omega⟩, row_open⟩
  · rintro ⟨above, below, ⟨inside_low, inside_high⟩, row_open⟩
    exact ⟨⟨by omega, by omega⟩, row_open⟩

theorem fillRows_increasing {s : State} (placed : s.slotsPlaced) (lines : 0 < cfgL s.area) (t : Tap) (first last : Nat) :
    (s.fillRows t first last).Pairwise (· < ·) := by
  rw [fillRows_eq, List.pairwise_flatMap]
  refine ⟨fun i _ => (List.pairwise_lt_range' ..).filter _,
    (knownSlots_increasing placed).imp fun {a b} below x in_a y in_b => ?_⟩
  obtain ⟨-, -, frame_x, -⟩ := (mem_fillRowsAt lines).mp in_a
  obtain ⟨-, -, frame_y, -⟩ := (mem_fillRowsAt lines).mp in_b
  refine lt_of_not_ge fun above => ?_
  have ordered : frameOf s.area y ≤ frameOf s.area x := Nat.div_le_div_right above
  omega

theorem mem_fillRows {s : State} (placed : s.slotsPlaced) (lines : 0 < cfgL s.area) (t : Tap) (first last r : Nat) :
    r ∈ s.fillRows t first last ↔ first ≤ r ∧ r < last ∧ ∃ e j p, s.entryFor (frameOf s.area r) = some e
      ∧ streamOf s.area r = some j ∧ (e.legs[j]).own = some p ∧ p.state = .collecting ∧ (p.taps[t]).done = false := by
  rw [fillRows_eq, List.mem_flatMap]
  constructor
  · rintro ⟨i, known, row⟩
    obtain ⟨e, entry⟩ := (mem_knownSlots s i).mp known
    obtain ⟨low, high, frame, row_open⟩ := (mem_fillRowsAt lines).mp row
    obtain ⟨j, p, stream, part, collecting, undone⟩ := rowOpen_iff.mp row_open
    have here : slotOf (frameOf s.area r) = i := by rw [frame, slotOf_frameAt placed entry]
    subst here
    have found : s.entryFor (frameOf s.area r) = some e :=
      Option.filter_eq_some_iff.mpr ⟨entry, beq_iff_eq.mpr ((frameAt_known entry).2.symm.trans frame.symm)⟩
    refine ⟨low, high, e, j, p, found, stream, ?_, collecting, undone⟩
    unfold State.partAt State.legAt at part
    rw [entry] at part
    exact part
  · rintro ⟨low, high, e, j, p, found, stream, own, collecting, undone⟩
    obtain ⟨slot, frame⟩ := entryFor_eq_some found
    have entry : s.frames.slots[slotOf (frameOf s.area r)].entry = some e := by rw [slot]; rfl
    refine ⟨_, (mem_knownSlots s _).mpr ⟨e, entry⟩, (mem_fillRowsAt lines).mpr ⟨low, high, ?_, rowOpen_iff.mpr
      ⟨j, p, stream, ?_, collecting, undone⟩⟩⟩
    · rw [(frameAt_known entry).2, frame]
    · unfold State.partAt State.legAt
      rw [entry]
      exact own

/-! ### The pixels of a filled row (R134) -/

theorem fillPixels_zero {s : State} (fill : cfgFill s.area = .zero) (t : Tap) (r : Nat) :
    s.fillPixels t r = List.replicate (s.tapWidth t) 0 := by
  unfold State.fillPixels
  rw [fill]
  rfl

theorem fillPixels_repeated {s : State} (fill : cfgFill s.area = .repeated) (t : Tap) {r : Nat} {phase : Fin 4}
    (at_phase : phaseOf s.area r = phase.val) :
    (∀ row, (s.delivery.store[t])[phase] = some row → row.frame = frameOf s.area r → s.fillPixels t r = row.pixels)
      ∧ ((∀ row, (s.delivery.store[t])[phase] = some row → row.frame ≠ frameOf s.area r) →
          s.fillPixels t r = List.replicate (s.tapWidth t) 0) := by
  have below : phaseOf s.area r < 4 := by omega
  have stored : (s.delivery.store[t])[phaseOf s.area r] = (s.delivery.store[t])[phase] := getElem_congr_idx at_phase
  unfold State.fillPixels
  dsimp only
  rw [fill]
  dsimp only
  rw [dif_pos below, stored]
  refine ⟨fun row held frame => ?_, fun other => ?_⟩
  · rw [held]
    exact if_pos frame
  · cases held : (s.delivery.store[t])[phase] with
    | none => rfl
    | some row => exact if_neg (other row held)

end Sys2Proof.Machine

/-! What the head decisions carry over, and the record-class requests of the host write port (R125, R136, R139, R152,
R181). -/

namespace Sys2Proof.Machine

-- One proof at a time: the proofs of many statements at once take more threads than the memory holds.
set_option Elab.async false

/-! ### What head decisions and end checks carry over -/

/-- From s to u head decisions and end checks have happened. -/
structure Settles (s u : State) : Prop where
  only : Only settlePieces s u
  counts : u.ctr.delivery.undecided = s.ctr.delivery.undecided
  parts : PartsEnd s u
  port : s.delivery.port <+: u.delivery.port
  lines : ∀ t : Tap, (u.taps[t]).lines <:+ (s.taps[t]).lines

theorem startFlushes_port (s : State) : s.delivery.port <+: s.startFlushes.delivery.port := by
  unfold State.startFlushes
  generalize s.legPlaces = l
  induction l generalizing s with
  | nil => exact List.prefix_rfl
  | cons q l ih =>
    refine List.IsPrefix.trans ?_ (ih _)
    dsimp only
    split
    · split
      · rw [show s.delivery.port = _ from (modifyPart_only s q.1 q.2 _ .port (by decide)).symm]
        exact List.prefix_append ..
      · exact List.prefix_rfl
    · exact List.prefix_rfl

theorem endCheck_port (s : State) (t : Tap) : s.delivery.port <+: (s.endCheck t).delivery.port := by
  unfold State.endCheck
  split
  · exact List.prefix_rfl
  · rw [← show (s.finishMarked t).delivery.port = s.delivery.port from finishMarked_only s t .port (by decide)]
    exact startFlushes_port _

theorem discardHeads_taps_of_ne {t n : Tap} (other : n ≠ t) (l : List Line) (s : State) :
    (State.discardHeads t l s).taps[n] = s.taps[n] := by
  induction l generalizing s with
  | nil => rfl
  | cons x rest ih =>
    by_cases gone : s.discards x = true
    · obtain ⟨why, decision⟩ := discards_iff.mp gone
      rw [discardHeads_discard t rest decision, ih]
      exact getElem_set_of_ne s.taps _ other
    · rw [discardHeads_stop t rest gone]

theorem settleTap_taps_of_ne {t n : Tap} (other : n ≠ t) (s : State) : ((s.settleTap t).taps[n]).lines = (s.taps[n]).lines := by
  have gone := discardHeads_taps_of_ne other (s.taps[t]).lines s
  unfold State.settleTap
  dsimp only
  generalize State.discardHeads t (s.taps[t]).lines s = v at gone ⊢
  have judged : ((v.judgeWait t).taps[n]).lines = (s.taps[n]).lines := by
    rw [(judgeWait_only v t).lines_eq n, gone]
  split
  · exact ((endCheck_only _ t).lines_eq n).trans judged
  · exact judged

namespace Settles

theorem refl (s : State) : Settles s s := ⟨.refl _ s, rfl, .same s, List.prefix_rfl, fun _ => List.suffix_rfl⟩

theorem trans {s u v : State} (first : Settles s u) (second : Settles u v) : Settles s v :=
  ⟨first.only.trans second.only, second.counts.trans first.counts, first.parts.next second.parts,
    first.port.trans second.port, fun t => (second.lines t).trans (first.lines t)⟩

theorem endCheck (s : State) (t : Tap) : Settles s (s.endCheck t) :=
  ⟨(endCheck_only s t).mono (by decide), congrArg _ (endCheck_deliveryCtr s t), .endCheck s t, endCheck_port s t,
    fun n => (endCheck_only s t).lines_eq n ▸ List.suffix_rfl⟩

theorem settleTap (s : State) (t : Tap) : Settles s (s.settleTap t) := by
  refine ⟨settleTap_only s t, settleTap_counts s t, .settleTap s t, ?_, fun n => ?_⟩
  · have judged : Only [.lines, .waiting, .deliveryCtr] s ((State.discardHeads t (s.taps[t]).lines s).judgeWait t) :=
      (discardHeads_only t (s.taps[t]).lines s).next (judgeWait_only _ t)
    unfold State.settleTap
    dsimp only
    generalize (State.discardHeads t (s.taps[t]).lines s).judgeWait t = v at judged ⊢
    rw [← show v.delivery.port = s.delivery.port from judged .port (by decide)]
    split
    · exact endCheck_port v t
    · exact List.prefix_rfl
  · by_cases here : n = t
    · subst here
      rw [(settleTap_values s n).1]
      exact List.dropWhile_suffix _
    · rw [settleTap_taps_of_ne here]

theorem settle (s : State) : Settles s s.settle := (settleTap s 0).trans (settleTap _ 1)

section Values

variable {s u : State} (h : Settles s u)
include h

theorem turn : u.delivery.turn = s.delivery.turn ∧ u.delivery.lastTap = s.delivery.lastTap := by
  have same : (u.delivery.turn, u.delivery.lastTap) = _ := h.only .turn (by decide)
  exact Prod.mk.inj same

theorem handled : u.delivery.handled = s.delivery.handled := h.only .handled (by decide)

theorem store : u.delivery.store = s.delivery.store := h.only .store (by decide)

theorem lastRequest : u.lastRequest = s.lastRequest := h.only .lastRequest (by decide)

theorem records : u.records = s.records := h.only .records (by decide)

theorem flushCount : u.delivery.flushCount = s.delivery.flushCount := h.only .flushCount (by decide)

/-- A part that is not COLLECTING stays. -/
theorem kept {i : Fin 8} {j : Fin 2} {p : OwnPart} (part : s.partAt i j = some p) (ended : p.state ≠ .collecting) :
    u.partAt i j = some p := by
  obtain ⟨p', part', ends⟩ := h.parts.part part
  rw [part', ends.kept ended]

end Values

end Settles

/-- The window's counters. -/
theorem windowCtr_of_only {S : List Piece} {s u : State} (h : Only S s u) (out : .windowCtr ∉ S := by decide)
    (notices_out : .noticeCtr ∉ S := by decide) : u.ctr.window = s.ctr.window := by
  have others : { u.ctr.window with eventsOverwritten := 0, noticesLost := 0 }
      = { s.ctr.window with eventsOverwritten := 0, noticesLost := 0 } := h .windowCtr out
  have notices : (u.ctr.window.eventsOverwritten, u.ctr.window.noticesLost) = _ := h .noticeCtr notices_out
  obtain ⟨overwritten, lost⟩ := Prod.mk.inj notices
  refine (congrArg (fun c : WindowCounters => { c with
    eventsOverwritten := u.ctr.window.eventsOverwritten, noticesLost := u.ctr.window.noticesLost }) others).trans ?_
  dsimp only
  rw [overwritten, lost]

/-! ### The port's choice (R125) -/

theorem exec_portIssue {t : Moment} {s : State} (up : s.delivery.linkUp = true) :
    exec (.portIssue t) s = .next (State.portIssue 100 (s.tick t).settle).settle :=
  congrArg Host.Outcome.next (if_pos up)

theorem portIssue_request {fuel : Nat} {s : State} {r : PortRequest} {rest : List PortRequest}
    (port : s.delivery.port = r :: rest) :
    State.portIssue (fuel + 1) s = ({ s with delivery := { s.delivery with port := rest } }).issueRecordClass r := by
  unfold State.portIssue
  split
  · next r' rest' port' => cases port.symm.trans port'; rfl
  · next empty => cases port.symm.trans empty

theorem portIssue_issued {fuel : Nat} {s v : State} {tu : Turn} (port : s.delivery.port = [])
    (turn : s.delivery.turn = some tu) (burst : s.turnBurst tu = (v, true)) : State.portIssue (fuel + 1) s = v := by
  unfold State.portIssue
  split
  · next r' rest' port' => cases port.symm.trans port'
  · rw [turn]
    dsimp only
    rw [burst]

theorem portIssue_ended {fuel : Nat} {s v : State} {tu : Turn} (port : s.delivery.port = [])
    (turn : s.delivery.turn = some tu) (burst : s.turnBurst tu = (v, false)) :
    State.portIssue (fuel + 1) s = State.portIssue fuel v := by
  rw [State.portIssue]
  split
  · next r' rest' port' => cases port.symm.trans port'
  · rw [turn]
    dsimp only
    rw [burst]

theorem portIssue_start {fuel : Nat} {s : State} {t : Tap} (port : s.delivery.port = []) (turn : s.delivery.turn = none)
    (opened : s.closed = false) (next : s.nextTap = some t) :
    State.portIssue (fuel + 1) s = State.portIssue fuel (s.startTurn t) := by
  rw [State.portIssue]
  split
  · next r' rest' port' => cases port.symm.trans port'
  · rw [turn]
    dsimp only
    rw [if_neg (Bool.eq_false_iff.mp opened), next]

/-- What PORT_ISSUE with a request waiting does: it is issued between two rounds of head decisions. -/
theorem exec_portIssue_request {t : Moment} {s : State} {r : PortRequest} {more : List PortRequest}
    (up : s.delivery.linkUp = true) (port : s.delivery.port = r :: more) :
    ∃ v u, exec (.portIssue t) s = .next u ∧ Only (.now :: settlePieces) s v ∧ v.now = max s.now t ∧ PartsEnd s v
      ∧ v.ctr.delivery.undecided = s.ctr.delivery.undecided ∧ Settles (v.issueRecordClass r) u := by
  have settled := Settles.settle (s.tick t)
  have executed := exec_portIssue (t := t) up
  generalize (s.tick t).settle = v at settled executed
  obtain ⟨rest, appended⟩ := settled.port
  have port_v : v.delivery.port = r :: (more ++ rest) := by
    rw [← appended, show (s.tick t).delivery.port = _ from port]
    rfl
  rw [portIssue_request port_v] at executed
  have taken : Only settlePieces v { v with delivery := { v.delivery with port := more ++ rest } } := by
    intro p out
    cases p
    case port => exact absurd (by decide) out
    all_goals rfl
  exact ⟨{ v with delivery := { v.delivery with port := more ++ rest } }, _, executed,
    (((tick_only s t).mono (by decide)).next settled.only).next taken, settled.only .now (by decide), settled.parts,
    settled.counts, .settle _⟩

/-! ### The record-class requests (R136, R152, R181) -/

theorem issue_notice {t : Moment} {s : State} {address : Nat} {data : Word} {more : List PortRequest}
    (up : s.delivery.linkUp = true) (port : s.delivery.port = .notice address data :: more) :
    ∃ u, exec (.portIssue t) s = .next u ∧ u.lastRequest = some (.messageWrite address data)
      ∧ u.ctr.window = { s.ctr.window with noticesIssued := s.ctr.window.noticesIssued + 1 }
      ∧ u.records = s.records ∧ u.delivery.flushCount = s.delivery.flushCount := by
  obtain ⟨v, u, executed, before, -, -, -, after⟩ := exec_portIssue_request (t := t) up port
  refine ⟨u, executed, after.lastRequest, (windowCtr_of_only after.only).trans ?_,
    after.records.trans (before .records (by decide)), after.flushCount.trans (before .flushCount (by decide))⟩
  exact congrArg (fun c : WindowCounters => { c with noticesIssued := c.noticesIssued + 1 }) (windowCtr_of_only before)

theorem issue_recordWrite {t : Moment} {s : State} {r : FrameRecord} {others : List FrameRecord}
    {more : List PortRequest} (up : s.delivery.linkUp = true) (port : s.delivery.port = .recordWrite :: more)
    (queue : s.records.queue = r :: others) :
    ∃ u, exec (.portIssue t) s = .next u
      ∧ u.lastRequest = some (.memoryWrite (recordAddress s.area r) (recordBytes r))
      ∧ u.records = { queue := s.records.queue, step := .flushWaiting } ∧ .recordFlush ∈ u.delivery.port := by
  obtain ⟨v, u, executed, before, -, -, -, after⟩ := exec_portIssue_request (t := t) up port
  have records : v.records = s.records := before .records (by decide)
  have issued : v.issueRecordClass .recordWrite = { v with
      lastRequest := some (.memoryWrite (recordAddress v.area r) (recordBytes r))
      records := { v.records with step := .flushWaiting } }.present .recordFlush := by
    unfold State.issueRecordClass
    dsimp only
    rw [show v.records.queue = _ from (congrArg Records.queue records).trans queue]
  rw [issued] at after
  refine ⟨u, executed, after.lastRequest.trans ?_, after.records.trans ?_, ?_⟩
  · rw [← before.area_eq.1]
    rfl
  · exact congrArg (fun x : Records => { x with step := .flushWaiting }) records
  · exact after.port.subset (List.mem_append_right _ (List.mem_singleton_self _))

theorem issue_recordFlush {t : Moment} {s : State} {more : List PortRequest} (up : s.delivery.linkUp = true)
    (port : s.delivery.port = .recordFlush :: more) :
    ∃ u, exec (.portIssue t) s = .next u ∧ u.lastRequest = some (.flush (s.delivery.flushCount + 1))
      ∧ u.delivery.flushCount = s.delivery.flushCount + 1
      ∧ u.ctr.delivery.flushesIssued = s.ctr.delivery.flushesIssued + 1
      ∧ u.records = { queue := s.records.queue, step := .flushIssued (s.delivery.flushCount + 1) (max s.now t) } := by
  obtain ⟨v, u, executed, before, now, -, counts, after⟩ := exec_portIssue_request (t := t) up port
  have count : v.delivery.flushCount = s.delivery.flushCount := before .flushCount (by decide)
  have records : v.records = s.records := before .records (by decide)
  have issued : v.ctr.delivery.flushesIssued = s.ctr.delivery.flushesIssued :=
    (congrArg DeliveryCounters.flushesIssued counts :)
  refine ⟨u, executed, after.lastRequest.trans ?_, after.flushCount.trans ?_,
    ((congrArg DeliveryCounters.flushesIssued after.counts :) : u.ctr.delivery.flushesIssued = _).trans ?_,
    after.records.trans ?_⟩
  · rw [← count]
    rfl
  · rw [← count]
    rfl
  · rw [← issued]
    rfl
  · rw [← count, ← now, ← records]
    rfl

theorem issue_recordMessage {t : Moment} {s : State} {r : FrameRecord} {others : List FrameRecord}
    {more : List PortRequest} (up : s.delivery.linkUp = true) (port : s.delivery.port = .recordMessage :: more)
    (queue : s.records.queue = r :: others) :
    ∃ u, exec (.portIssue t) s = .next u
      ∧ u.lastRequest
        = some (.messageWrite (cfgMessageAddress s.area r.steer.channel) (cfgMessageData s.area r.steer.channel))
      ∧ u.records = { queue := others, step := if others = [] then .idle else .write }
      ∧ u.ctr.records.recordsWritten = s.ctr.records.recordsWritten + 1 := by
  obtain ⟨v, u, executed, before, -, -, -, after⟩ := exec_portIssue_request (t := t) up port
  have queue_v : v.records.queue = r :: others := (congrArg Records.queue (before .records (by decide))).trans queue
  have issued : v.issueRecordClass .recordMessage
      = ((v.issueMessage (cfgMessageAddress v.area r.steer.channel) (cfgMessageData v.area r.steer.channel)).bump
        (countRecords fun c => { c with recordsWritten := c.recordsWritten + 1 })).dropHeadRecord := by
    unfold State.issueRecordClass
    dsimp only
    rw [queue_v]
  rw [issued, before.area_eq.1] at after
  generalize msg : (v.issueMessage (cfgMessageAddress s.area r.steer.channel) (cfgMessageData s.area r.steer.channel)).bump
    (countRecords fun c => { c with recordsWritten := c.recordsWritten + 1 }) = w at after
  have dropped := dropHeadRecord_only w
  have queue_w : w.records.queue = r :: others := by
    rw [← msg]
    exact queue_v
  refine ⟨u, executed, after.lastRequest.trans ((dropped .lastRequest (by decide)).trans ?_),
    after.records.trans (dropHeadRecord_values queue_w).1, ?_⟩
  · rw [← msg]
    rfl
  · have counted : u.ctr.records = w.ctr.records :=
      (after.only .recordsCtr (by decide)).trans (dropped .recordsCtr (by decide))
    rw [counted, ← show v.ctr.records = s.ctr.records from before .recordsCtr (by decide), ← msg]
    rfl

theorem issue_partFlush {t : Moment} {s : State} {i : Fin 8} {j : Fin 2} {p : OwnPart} {more : List PortRequest}
    (up : s.delivery.linkUp = true) (port : s.delivery.port = .partFlush i j :: more) (part : s.partAt i j = some p)
    (flushing : p.state = .flushing) (waits : p.flush = .waiting) :
    ∃ u p', exec (.portIssue t) s = .next u ∧ u.lastRequest = some (.flush (s.delivery.flushCount + 1))
      ∧ u.partAt i j = some p' ∧ p'.state = .flushing
      ∧ p'.flush = .issued (s.delivery.flushCount + 1) (max s.now t) := by
  obtain ⟨v, u, executed, before, now, ends, -, after⟩ := exec_portIssue_request (t := t) up port
  have count : v.delivery.flushCount = s.delivery.flushCount := before .flushCount (by decide)
  have collected : p.state ≠ .collecting := by rw [flushing]; decide
  have part_v : v.issueFlush.partAt i j = some p := by
    obtain ⟨p', part', kept⟩ := ends.part part
    rw [← kept.kept collected]
    exact part'
  have issued : (v.issueRecordClass (.partFlush i j)).partAt i j
      = some { p with flush := .issued (s.delivery.flushCount + 1) (max s.now t) } := by
    rw [← count, ← now]
    refine (modifyPart_partAt_same v.issueFlush i j _).trans ?_
    rw [part_v, Option.map_some, if_pos waits]
    rfl
  have requested := modifyPart_only v.issueFlush i j fun p =>
    if p.flush = .waiting then { p with flush := .issued v.issueFlush.delivery.flushCount v.now } else p
  refine ⟨u, _, executed, after.lastRequest.trans ((requested .lastRequest (by decide)).trans ?_),
    after.kept issued collected, flushing, rfl⟩
  rw [← count]
  rfl

end Sys2Proof.Machine

/-! The bursts of the current turn: of a fill row, and of the line (R124, R130 to R135). -/

namespace Sys2Proof.Machine

-- One proof at a time: the proofs of many statements at once take more threads than the memory holds.
set_option Elab.async false

/-! ### A burst (R131, R132) -/

/-- The row's frame is in the table, and the row's stream j is steered there to x. -/
def State.steered (s : State) (r : Nat) (j : Fin 2) (x : Steer) : Prop :=
  ∃ e, s.entryFor (frameOf s.area r) = some e ∧ streamOf s.area r = some j ∧ (e.legs[j]).steer = some x

/-- The slot of a row's frame. -/
def State.rowSlot (s : State) (r : Nat) : Fin 8 := slotOf (frameOf s.area r)

theorem State.steered.rowPlace {s : State} {r : Nat} {j : Fin 2} {x : Steer} (h : s.steered r j x) :
    s.rowPlace r = some (s.rowSlot r, j) := by
  obtain ⟨e, entry, stream, -⟩ := h
  unfold State.rowPlace
  rw [entry, stream]
  rfl

theorem State.steered.steer {s : State} {r : Nat} {j : Fin 2} {x : Steer} (h : s.steered r j x) :
    (s.legAt (s.rowSlot r) j).bind Leg.steer = some x := by
  obtain ⟨e, entry, -, steer⟩ := h
  obtain ⟨slot, -⟩ := entryFor_eq_some entry
  exact (congrArg (Option.bind · Leg.steer) (legAt_known slot j)).trans steer

theorem State.steered.of_only {S : List Piece} {s u : State} {r : Nat} {j : Fin 2} {x : Steer} (h : s.steered r j x)
    (only : Only S s u) (out : .entries ∉ S := by decide) (area_out : .area ∉ S := by decide) : u.steered r j x := by
  obtain ⟨e, entry, stream, steer⟩ := h
  obtain ⟨slot, frame⟩ := entryFor_eq_some entry
  have bare := map_eq_getElem (only .entries out) (slotOf (frameOf s.area r))
  unfold State.steered
  rw [(only.area_eq area_out).1]
  cases slot_u : u.frames.slots[slotOf (frameOf s.area r)] with
  | free | foreign _ => rw [slot, slot_u] at bare; cases bare
  | known e' =>
    have same := only.leg_bare (slotOf (frameOf s.area r)) j out
    rw [legAt_known slot j, legAt_known slot_u j] at same
    have steers : (e'.legs[j]).steer = (e.legs[j]).steer := congrArg (Option.bind · Leg.steer) same
    have frames : e'.frame = e.frame := by
      rw [slot, slot_u] at bare
      exact Option.some.inj (congrArg Slot.frame bare)
    refine ⟨e', Option.filter_eq_some_iff.mpr ⟨?_, ?_⟩, stream, steers.trans steer⟩
    · rw [slot_u]
      rfl
    · exact beq_iff_eq.mpr (frames.trans frame)

/-- Where the next burst of a row goes. -/
def State.burstAt (s : State) (t : Tap) (j : Fin 2) (x : Steer) (r sent : Nat) : Nat :=
  rowAddress s.area s.self t j x.base r + sent

/-- The length of the next burst of a row. -/
def State.burstCount (s : State) (t : Tap) (j : Fin 2) (x : Steer) (r sent : Nat) : Nat :=
  min (cfgMaxPayload s.area) (min (4096 - s.burstAt t j x r sent % 4096) (s.tapWidth t - sent))

/-- The state with the next burst of a row issued. -/
def State.sendBurst (s : State) (t : Tap) (j : Fin 2) (x : Steer) (r sent : Nat) (pixels : List Byte) : State :=
  { s with lastRequest := some (.memoryWrite (s.burstAt t j x r sent)
            ((pixels.drop sent).take (s.burstCount t j x r sent))) }.bump (countDelivery fun c =>
    { c with burstsIssued := c.burstsIssued + 1
             bytesWritten := c.bytesWritten + BitVec.ofNat 32 (s.burstCount t j x r sent) })

theorem burst_eq {s : State} {r : Nat} {j : Fin 2} {x : Steer} (steered : s.steered r j x) (t : Tap) (sent : Nat)
    (pixels : List Byte) : s.burst t (s.rowSlot r) j r sent pixels
      = (s.sendBurst t j x r sent pixels, sent + s.burstCount t j x r sent) := by
  unfold State.burst
  rw [steered.steer]
  rfl

theorem sendBurst_only (s : State) (t : Tap) (j : Fin 2) (x : Steer) (r sent : Nat) (pixels : List Byte) :
    Only [.lastRequest, .deliveryCtr] s (s.sendBurst t j x r sent pixels) :=
  ((setLastRequest_only s _).mono (by decide)).next (bumpDelivery_only _ _)

theorem sendBurst_values (s : State) (t : Tap) (j : Fin 2) (x : Steer) (r sent : Nat) (pixels : List Byte) :
    (s.sendBurst t j x r sent pixels).lastRequest = some (.memoryWrite (s.burstAt t j x r sent)
        ((pixels.drop sent).take (s.burstCount t j x r sent)))
      ∧ (s.sendBurst t j x r sent pixels).ctr.delivery = { s.ctr.delivery with
          burstsIssued := s.ctr.delivery.burstsIssued + 1
          bytesWritten := s.ctr.delivery.bytesWritten + BitVec.ofNat 32 (s.burstCount t j x r sent) } := ⟨rfl, rfl⟩

theorem tapWidth_of_only {S : List Piece} {s u : State} (only : Only S s u) (t : Tap) (area_out : .area ∉ S := by decide)
    (roster_out : .roster ∉ S := by decide) : u.tapWidth t = s.tapWidth t := by
  obtain ⟨number, -⟩ := only.roster_eq roster_out
  unfold State.tapWidth State.self
  rw [(only.area_eq area_out).1, number]

/-! ### A row filled, and a tap done (R133, R135) -/

/-- A part with one more row of a tap filled. -/
def OwnPart.filled (p : OwnPart) (t : Tap) : OwnPart :=
  { p.setTap t fun x => { x with filled := x.filled + 1 } with gapRows := p.gapRows + 1 }

theorem setTap_tap (p : OwnPart) (t n : Tap) (f : TapProgress → TapProgress) :
    (p.setTap t f).taps[n] = if n = t then f p.taps[n] else p.taps[n] := by
  split
  · next here => rw [here]; exact Vector.getElem_set_self ..
  · next other => exact getElem_set_of_ne p.taps _ other

theorem rowFilled_eq {s : State} {r : Nat} {j : Fin 2} {x : Steer} (steered : s.steered r j x) (t : Tap) :
    s.rowFilled t r = (((s.modifyPart (s.rowSlot r) j fun p => p.filled t).setHandled t r).bump
      (countDelivery fun c => { c with rowsFilled := c.rowsFilled + 1 })) := by
  unfold State.rowFilled
  rw [steered.rowPlace]
  rfl

/-- A walk reaches what one of its steps reaches, when every step keeps the start and the end. -/
theorem foldl_reaches {α : Type} {f : State → α → State} {P Q : State → Prop} {a : α}
    (start : ∀ s b, P s → P (f s b)) (kept : ∀ s b, Q s → Q (f s b)) (reached : ∀ s, P s → Q (f s a)) {l : List α}
    (here : a ∈ l) {s : State} (begun : P s) : Q (l.foldl f s) := by
  have stays (l : List α) (s : State) (ended : Q s) : Q (l.foldl f s) := by
    induction l generalizing s with
    | nil => exact ended
    | cons b l ih => exact ih _ (kept s b ended)
  induction l generalizing s with
  | nil => cases here
  | cons b l ih =>
    obtain rfl | later := List.mem_cons.mp here
    · exact stays l _ (reached s begun)
    · exact ih later (start s b begun)

/-- A part keeps its state, and the taps that are done in it. -/
def OwnPart.Stays (p q : OwnPart) : Prop := q.state = p.state ∧ ∀ t : Tap, (p.taps[t]).done = true → (q.taps[t]).done = true

theorem OwnPart.Stays.refl (p : OwnPart) : p.Stays p := ⟨rfl, fun _ done => done⟩

theorem OwnPart.Stays.trans (p q r : OwnPart) (first : p.Stays q) (second : q.Stays r) : p.Stays r :=
  ⟨second.1.trans first.1, fun t done => second.2 t (first.2 t done)⟩

/-- What tapDone makes of one part. -/
def OwnPart.tapEnded (p : OwnPart) (t : Tap) : OwnPart :=
  if p.state = .collecting then p.setTap t fun x => { x with done := true } else p

theorem OwnPart.tapEnded_stays (p : OwnPart) (t : Tap) : p.Stays (p.tapEnded t) := by
  unfold OwnPart.tapEnded
  split
  · refine ⟨rfl, fun n done => ?_⟩
    rw [setTap_tap]
    split
    · rfl
    · exact done
  · exact .refl p

/-- One place of the walk that ends a tap's parts. -/
def State.tapDoneAt (t : Tap) (k : Nat) (s : State) (q : Fin 8 × Fin 2) : State :=
  if s.frameAt q.1 ≤ k then s.modifyPart q.1 q.2 fun p => p.tapEnded t else s

theorem tapDone_eq (s : State) (t : Tap) (k : Nat) : s.tapDone t k = s.legPlaces.foldl (State.tapDoneAt t k) s := rfl

theorem tapDoneAt_stays (t : Tap) (k : Nat) (s : State) (q : Fin 8 × Fin 2) :
    PartsRel OwnPart.Stays s (State.tapDoneAt t k s q) := by
  unfold State.tapDoneAt
  split
  · exact PartsRel.modifyPart .refl fun p _ => p.tapEnded_stays t
  · exact PartsRel.of_parts .refl rfl

theorem tapDoneAt_only (t : Tap) (k : Nat) (s : State) (q : Fin 8 × Fin 2) : Only [.parts] s (State.tapDoneAt t k s q) :=
  .ite (fun _ => modifyPart_only s _ _ _) fun _ => .refl _ s

/-- The tap is done in every COLLECTING part of a frame at or below k (R135). -/
theorem tapDone_finished (s : State) (t : Tap) (k : Nat) : s.tapFinished (s.tapDone t k) t k := by
  intro i j p part collecting low
  rw [tapDone_eq]
  refine foldl_reaches (P := fun v => v.frameAt i ≤ k ∧ ∃ p, v.partAt i j = some p ∧ p.state = .collecting)
    (Q := fun v => ∃ p, v.partAt i j = some p ∧ (p.taps[t]).done = true) (a := (i, j)) ?_ ?_ ?_
    (mem_legPlaces_of_part part) ⟨low, p, part, collecting⟩
  · rintro v q ⟨low, p, part, collecting⟩
    obtain ⟨p', part', state, -⟩ := (tapDoneAt_stays t k v q).part part
    exact ⟨by rw [frameAt_of_only (tapDoneAt_only t k v q)]; exact low, p', part', state.trans collecting⟩
  · rintro v q ⟨p, part, done⟩
    obtain ⟨p', part', -, kept⟩ := (tapDoneAt_stays t k v q).part part
    exact ⟨p', part', kept t done⟩
  · rintro v ⟨low, p, part, collecting⟩
    refine ⟨p.tapEnded t, ?_, ?_⟩
    · unfold State.tapDoneAt
      rw [if_pos low, modifyPart_partAt_same, part]
      rfl
    · unfold OwnPart.tapEnded
      rw [if_pos collecting, setTap_tap, if_pos rfl]

/-! ### The end of a turn (R130, R135) -/

/-- The state with its turn over. -/
def State.withoutTurn (s : State) (t : Tap) : State :=
  { s with delivery := { s.delivery with turn := none, lastTap := t } }

theorem endTurn_unfinished {s : State} {tu : Turn} (finish : tu.finish = none) :
    s.endTurn tu = (s.withoutTurn tu.tap).endCheck tu.tap := by
  unfold State.endTurn
  rw [finish]
  rfl

theorem endTurn_finished {s : State} {tu : Turn} {k : Nat} (finish : tu.finish = some k) : s.endTurn tu
    = (((s.withoutTurn tu.tap).setHandled tu.tap ((k + 1) * cfgL s.area - 1)).tapDone tu.tap k).endCheck tu.tap := by
  unfold State.endTurn
  rw [finish]
  rfl

theorem endTurn_counts (s : State) (tu : Turn) : (s.endTurn tu).ctr.delivery = s.ctr.delivery :=
  endTurn_only s tu .deliveryCtr (by decide)

/-! ### The burst of the turn's line (R124, R130) -/

theorem lineWritten_counts (s : State) (t : Tap) (l : Line) (i : Fin 8) (j : Fin 2) :
    (s.lineWritten t l i j).ctr.delivery = { s.ctr.delivery with linesWritten := s.ctr.delivery.linesWritten + 1 } := by
  have stored : ((s.storeRow t l).modifyPart i j fun p => p.setTap t fun x => { x with written := x.written + 1 }).ctr.delivery
      = s.ctr.delivery :=
    (modifyPart_only (s.storeRow t l) i j _ .deliveryCtr (by decide)).trans (storeRow_only s t l .deliveryCtr (by decide))
  exact congrArg (fun c : DeliveryCounters => { c with linesWritten := c.linesWritten + 1 }) stored

theorem lineWritten_handled (s : State) (t : Tap) (l : Line) (i : Fin 8) (j : Fin 2) :
    (s.lineWritten t l i j).delivery.handled[t] = l.index := Vector.getElem_set_self ..

/-- The line written last is the repeat store's row of its phase (R124). -/
theorem lineWritten_store (s : State) (t : Tap) {l : Line} (i : Fin 8) (j : Fin 2) {phase : Fin 4}
    (at_phase : l.phase = phase.val) : ((s.lineWritten t l i j).delivery.store[t])[phase]
      = some { frame := frameOf s.area l.index, pixels := l.pixels.take (s.tapWidth t) } := by
  have below : l.phase < 4 := by omega
  have written : (s.lineWritten t l i j).delivery.store = (s.storeRow t l).delivery.store :=
    modifyPart_only (s.storeRow t l) i j (fun p => p.setTap t fun x => { x with written := x.written + 1 }) .store
      (by decide)
  have stored : (s.storeRow t l).delivery.store[t] = (s.delivery.store[t]).set l.phase
      (some { frame := frameOf s.area l.index, pixels := l.pixels.take (s.tapWidth t) }) := by
    unfold State.storeRow
    rw [dif_pos below]
    exact Vector.getElem_set_self ..
  rw [written, stored]
  exact (getElem_congr_idx at_phase.symm).trans (Vector.getElem_set_self below)

theorem turnBurst_line {s : State} {tu : Turn} {l : Line} {j : Fin 2} {x : Steer} (rows : tu.rows = [])
    (line : tu.line = some l) (steered : s.steered l.index j x) : s.turnBurst tu
      = (if s.tapWidth tu.tap ≤ tu.sent + s.burstCount tu.tap j x l.index tu.sent then
          (((s.sendBurst tu.tap j x l.index tu.sent l.pixels).lineWritten tu.tap l (s.rowSlot l.index) j).endTurn tu)
        else (s.sendBurst tu.tap j x l.index tu.sent l.pixels).setTurn
          (some { tu with sent := tu.sent + s.burstCount tu.tap j x l.index tu.sent }), true) := by
  unfold State.turnBurst
  rw [rows, line]
  dsimp only
  rw [steered.rowPlace]
  dsimp only
  rw [burst_eq steered]
  split <;> rfl

/-- What stands after the burst of a turn's line, through the head decisions that follow. -/
theorem lineBurst_values {s u : State} {tu : Turn} {l : Line} {j : Fin 2} {x : Steer} (rows : tu.rows = [])
    (line : tu.line = some l) (steered : s.steered l.index j x) (after : Settles (s.turnBurst tu).1 u) :
    u.lastRequest = some (.memoryWrite (s.burstAt tu.tap j x l.index tu.sent)
        ((l.pixels.drop tu.sent).take (s.burstCount tu.tap j x l.index tu.sent)))
      ∧ u.ctr.delivery.burstsIssued = s.ctr.delivery.burstsIssued + 1
      ∧ u.ctr.delivery.bytesWritten
        = s.ctr.delivery.bytesWritten + BitVec.ofNat 32 (s.burstCount tu.tap j x l.index tu.sent)
      ∧ (tu.sent + s.burstCount tu.tap j x l.index tu.sent < s.tapWidth tu.tap →
          u.delivery.turn = some { tu with sent := tu.sent + s.burstCount tu.tap j x l.index tu.sent }
            ∧ u.delivery.handled = s.delivery.handled ∧ u.ctr.delivery.linesWritten = s.ctr.delivery.linesWritten
            ∧ u.ctr.delivery.rowsFilled = s.ctr.delivery.rowsFilled)
      ∧ (s.tapWidth tu.tap ≤ tu.sent + s.burstCount tu.tap j x l.index tu.sent → tu.finish = none →
          u.delivery.turn = none ∧ u.delivery.lastTap = tu.tap ∧ u.delivery.handled[tu.tap] = l.index
            ∧ u.ctr.delivery.linesWritten = s.ctr.delivery.linesWritten + 1
            ∧ ∀ phase : Fin 4, l.phase = phase.val → (u.delivery.store[tu.tap])[phase]
                = some { frame := frameOf s.area l.index, pixels := l.pixels.take (s.tapWidth tu.tap) }) := by
  rw [turnBurst_line rows line steered] at after
  have sent := sendBurst_only s tu.tap j x l.index tu.sent l.pixels
  obtain ⟨request, counts⟩ := sendBurst_values s tu.tap j x l.index tu.sent l.pixels
  generalize s.sendBurst tu.tap j x l.index tu.sent l.pixels = b at *
  generalize s.burstCount tu.tap j x l.index tu.sent = n at *
  have last (whole : s.tapWidth tu.tap ≤ tu.sent + n) :
      Settles ((b.lineWritten tu.tap l (s.rowSlot l.index) j).endTurn tu) u := by
    rw [if_pos whole] at after
    exact after
  have more (part : tu.sent + n < s.tapWidth tu.tap) : Settles (b.setTurn (some { tu with sent := tu.sent + n })) u := by
    rw [if_neg (Nat.not_le.mpr part)] at after
    exact after
  have written := lineWritten_only b tu.tap l (s.rowSlot l.index) j
  have ended := endTurn_only (b.lineWritten tu.tap l (s.rowSlot l.index) j) tu
  have counts_u : u.lastRequest = b.lastRequest ∧ ∃ m, u.ctr.delivery.undecided
      = DeliveryCounters.undecided { b.ctr.delivery with linesWritten := m } := by
    obtain part | whole := Nat.lt_or_ge (tu.sent + n) (s.tapWidth tu.tap)
    · exact ⟨(more part).lastRequest, _, (more part).counts⟩
    · refine ⟨(last whole).lastRequest.trans ((ended .lastRequest (by decide)).trans (written .lastRequest (by decide))),
        _, (last whole).counts.trans (congrArg _ ((endTurn_counts _ tu).trans (lineWritten_counts ..)))⟩
  obtain ⟨same, m, issued⟩ := counts_u
  rw [counts] at issued
  refine ⟨same.trans request, congrArg DeliveryCounters.burstsIssued issued, congrArg DeliveryCounters.bytesWritten issued,
    fun part => ?_, fun whole unfinished => ?_⟩
  · have settled := more part
    have counts_m := settled.counts
    rw [show (b.setTurn (some { tu with sent := tu.sent + n })).ctr.delivery = _ from counts] at counts_m
    exact ⟨settled.turn.1, settled.handled.trans (sent .handled (by decide)),
      (congrArg DeliveryCounters.linesWritten counts_m :), (congrArg DeliveryCounters.rowsFilled counts_m :)⟩
  · have settled := last whole
    rw [endTurn_unfinished unfinished] at settled
    have closed := (Settles.endCheck _ _).trans settled
    have handled := lineWritten_handled b tu.tap l (s.rowSlot l.index) j
    have store {phase : Fin 4} (at_phase : l.phase = phase.val) :=
      lineWritten_store b tu.tap (s.rowSlot l.index) j at_phase
    have counts_w := lineWritten_counts b tu.tap l (s.rowSlot l.index) j
    rw [counts] at counts_w
    rw [sent.area_eq.1, show b.tapWidth tu.tap = s.tapWidth tu.tap from tapWidth_of_only sent tu.tap] at store
    generalize b.lineWritten tu.tap l (s.rowSlot l.index) j = w at *
    have counts_l := closed.counts
    rw [show (w.withoutTurn tu.tap).ctr.delivery = _ from counts_w] at counts_l
    refine ⟨closed.turn.1, closed.turn.2, ?_, congrArg DeliveryCounters.linesWritten counts_l, fun phase at_phase => ?_⟩
    · rw [closed.handled]
      exact handled
    · rw [closed.store]
      exact store at_phase

/-! ### The burst of the turn's first fill row (R130, R133, R135) -/

theorem turnBurst_row {s : State} {tu : Turn} {r : Nat} {rest : List Nat} {j : Fin 2} {x : Steer} (rows : tu.rows = r :: rest)
    (steered : s.steered r j x) : s.turnBurst tu
      = (if s.tapWidth tu.tap ≤ tu.sent + s.burstCount tu.tap j x r tu.sent then
          if rest.isEmpty && tu.line.isNone then
            ((s.sendBurst tu.tap j x r tu.sent (s.fillPixels tu.tap r)).rowFilled tu.tap r).endTurn
              { tu with rows := rest, sent := 0 }
          else ((s.sendBurst tu.tap j x r tu.sent (s.fillPixels tu.tap r)).rowFilled tu.tap r).setTurn
            (some { tu with rows := rest, sent := 0 })
        else (s.sendBurst tu.tap j x r tu.sent (s.fillPixels tu.tap r)).setTurn
          (some { tu with sent := tu.sent + s.burstCount tu.tap j x r tu.sent }), true) := by
  unfold State.turnBurst
  rw [rows]
  dsimp only
  rw [steered.rowPlace]
  dsimp only
  rw [burst_eq steered]
  dsimp only
  split
  · split <;> rfl
  · rfl

/-- A row filled: its part counts it, and nothing else of the part changes (R133). -/
theorem rowFilled_values {s : State} {r : Nat} {j : Fin 2} {x : Steer} (steered : s.steered r j x) (t : Tap) :
    (s.rowFilled t r).ctr.delivery = { s.ctr.delivery with rowsFilled := s.ctr.delivery.rowsFilled + 1 }
      ∧ (s.rowFilled t r).delivery.handled[t] = r
      ∧ (∀ p, s.partAt (s.rowSlot r) j = some p → (s.rowFilled t r).partAt (s.rowSlot r) j = some (p.filled t)) := by
  rw [rowFilled_eq steered]
  have modified := modifyPart_only s (s.rowSlot r) j fun p => p.filled t
  refine ⟨?_, Vector.getElem_set_self .., fun p part => ?_⟩
  · exact congrArg (fun c : DeliveryCounters => { c with rowsFilled := c.rowsFilled + 1 }) (modified .deliveryCtr (by decide))
  · refine (modifyPart_partAt_same s (s.rowSlot r) j fun p => p.filled t).trans ?_
    rw [part]
    rfl

theorem filled_stays (p : OwnPart) (t : Tap) : p.Stays (p.filled t) := by
  refine ⟨rfl, fun n done => ?_⟩
  show ((p.setTap t fun x => { x with filled := x.filled + 1 }).taps[n]).done = true
  rw [setTap_tap]
  split <;> exact done

theorem rowFilled_stays (s : State) (t : Tap) (r : Nat) : PartsRel OwnPart.Stays s (s.rowFilled t r) := by
  have filled : PartsRel OwnPart.Stays s (match s.rowPlace r with
      | some (i, j) => s.modifyPart i j fun p => p.filled t
      | none => s) := by
    split
    · exact PartsRel.modifyPart .refl fun p _ => filled_stays p t
    · exact PartsRel.of_parts .refl rfl
  exact filled

/-- What a finish turn leaves done in a later state is done in every part of an earlier one. -/
theorem State.tapFinished.of_stays {s v u : State} {t : Tap} {k : Nat} (h : v.tapFinished u t k)
    (stays : PartsRel OwnPart.Stays s v) (frames : ∀ i, v.frameAt i = s.frameAt i) : s.tapFinished u t k := by
  intro i j p part collecting low
  obtain ⟨p', part', state, -⟩ := stays.part part
  exact h i j p' part' (state.trans collecting) (by rw [frames]; exact low)

theorem State.tapFinished.ends {s v u : State} {t : Tap} {k : Nat} (h : s.tapFinished v t k) (ends : PartsEnd v u) :
    s.tapFinished u t k := by
  intro i j p part collecting low
  obtain ⟨p', part', done⟩ := h i j p part collecting low
  obtain ⟨p'', part'', kept⟩ := ends.part part'
  exact ⟨p'', part'', kept.done t done⟩

theorem PartsEnd.endTurn (s : State) (tu : Turn) : PartsEnd s (s.endTurn tu) := by
  cases finish : tu.finish with
  | none =>
    rw [endTurn_unfinished finish]
    exact PartsEnd.endCheck (s.withoutTurn tu.tap) tu.tap
  | some k =>
    rw [endTurn_finished finish]
    exact (PartsEnd.tapDone ((s.withoutTurn tu.tap).setHandled tu.tap ((k + 1) * cfgL s.area - 1)) tu.tap k).next
      (PartsEnd.endCheck _ tu.tap)

/-- A finish turn that ends leaves its tap done (R135). -/
theorem endTurn_values {s u : State} {tu : Turn} {k : Nat} (finish : tu.finish = some k)
    (after : Settles (s.endTurn tu) u) : u.delivery.turn = none ∧ u.delivery.lastTap = tu.tap
      ∧ u.delivery.handled[tu.tap] = (k + 1) * cfgL s.area - 1 ∧ s.tapFinished u tu.tap k := by
  rw [endTurn_finished finish] at after
  have ended := (Settles.endCheck _ _).trans after
  have done := tapDone_finished ((s.withoutTurn tu.tap).setHandled tu.tap ((k + 1) * cfgL s.area - 1)) tu.tap k
  have only := tapDone_only ((s.withoutTurn tu.tap).setHandled tu.tap ((k + 1) * cfgL s.area - 1)) tu.tap k
  have handled : ((s.withoutTurn tu.tap).setHandled tu.tap ((k + 1) * cfgL s.area - 1)).delivery.handled[tu.tap]
      = (k + 1) * cfgL s.area - 1 := Vector.getElem_set_self ..
  obtain ⟨turn, last⟩ : ((s.withoutTurn tu.tap).setHandled tu.tap ((k + 1) * cfgL s.area - 1)).delivery.turn = none
      ∧ ((s.withoutTurn tu.tap).setHandled tu.tap ((k + 1) * cfgL s.area - 1)).delivery.lastTap = tu.tap := ⟨rfl, rfl⟩
  have finished : s.tapFinished u tu.tap k := done.ends ended.parts
  generalize (s.withoutTurn tu.tap).setHandled tu.tap ((k + 1) * cfgL s.area - 1) = v at *
  have same : ((v.tapDone tu.tap k).delivery.turn, (v.tapDone tu.tap k).delivery.lastTap) = _ := only .turn (by decide)
  obtain ⟨turn_w, last_w⟩ := Prod.mk.inj same
  have handled_w : (v.tapDone tu.tap k).delivery.handled = v.delivery.handled := only .handled (by decide)
  refine ⟨ended.turn.1.trans (turn_w.trans turn), ended.turn.2.trans (last_w.trans last), ?_, finished⟩
  rw [ended.handled, handled_w]
  exact handled

/-- What stands after the burst of a turn's first fill row, through the head decisions that follow. -/
theorem rowBurst_values {s u : State} {tu : Turn} {r : Nat} {rest : List Nat} {j : Fin 2} {x : Steer} (rows : tu.rows = r :: rest)
    (steered : s.steered r j x) (after : Settles (s.turnBurst tu).1 u) :
    u.lastRequest = some (.memoryWrite (s.burstAt tu.tap j x r tu.sent)
        (((s.fillPixels tu.tap r).drop tu.sent).take (s.burstCount tu.tap j x r tu.sent)))
      ∧ u.ctr.delivery.burstsIssued = s.ctr.delivery.burstsIssued + 1
      ∧ u.ctr.delivery.bytesWritten = s.ctr.delivery.bytesWritten + BitVec.ofNat 32 (s.burstCount tu.tap j x r tu.sent)
      ∧ (tu.sent + s.burstCount tu.tap j x r tu.sent < s.tapWidth tu.tap →
          u.delivery.turn = some { tu with sent := tu.sent + s.burstCount tu.tap j x r tu.sent }
            ∧ u.delivery.handled = s.delivery.handled ∧ u.ctr.delivery.rowsFilled = s.ctr.delivery.rowsFilled)
      ∧ (s.tapWidth tu.tap ≤ tu.sent + s.burstCount tu.tap j x r tu.sent →
          u.ctr.delivery.rowsFilled = s.ctr.delivery.rowsFilled + 1
            ∧ (∀ p, s.partAt (s.rowSlot r) j = some p → ∃ p', u.partAt (s.rowSlot r) j = some p'
                ∧ p'.gapRows = p.gapRows + 1 ∧ (p'.taps[tu.tap]).filled = (p.taps[tu.tap]).filled + 1)
            ∧ (rest ≠ [] ∨ tu.line ≠ none → u.delivery.turn = some { tu with rows := rest, sent := 0 }
                ∧ u.delivery.handled[tu.tap] = r)
            ∧ (∀ k, rest = [] → tu.line = none → tu.finish = some k → u.delivery.turn = none
                ∧ u.delivery.lastTap = tu.tap ∧ u.delivery.handled[tu.tap] = (k + 1) * cfgL s.area - 1
                ∧ s.tapFinished u tu.tap k)) := by
  rw [turnBurst_row rows steered] at after
  have sent := sendBurst_only s tu.tap j x r tu.sent (s.fillPixels tu.tap r)
  obtain ⟨request, counts⟩ := sendBurst_values s tu.tap j x r tu.sent (s.fillPixels tu.tap r)
  generalize s.sendBurst tu.tap j x r tu.sent (s.fillPixels tu.tap r) = b at *
  generalize s.burstCount tu.tap j x r tu.sent = n at *
  have more (part : tu.sent + n < s.tapWidth tu.tap) : Settles (b.setTurn (some { tu with sent := tu.sent + n })) u := by
    rw [if_neg (Nat.not_le.mpr part)] at after
    exact after
  have onward (whole : s.tapWidth tu.tap ≤ tu.sent + n) (left : rest ≠ [] ∨ tu.line ≠ none) :
      Settles ((b.rowFilled tu.tap r).setTurn (some { tu with rows := rest, sent := 0 })) u := by
    rw [if_pos whole, if_neg (by
      rw [Bool.and_eq_true, List.isEmpty_iff, Option.isNone_iff_eq_none, not_and_or]
      exact left)] at after
    exact after
  have ended (whole : s.tapWidth tu.tap ≤ tu.sent + n) (last : rest = []) (no_line : tu.line = none) :
      Settles ((b.rowFilled tu.tap r).endTurn { tu with rows := rest, sent := 0 }) u := by
    rw [if_pos whole, if_pos (by
      rw [Bool.and_eq_true, List.isEmpty_iff, Option.isNone_iff_eq_none]
      exact ⟨last, no_line⟩)] at after
    exact after
  have filled_only := rowFilled_only b tu.tap r
  have stays := rowFilled_stays b tu.tap r
  have steered_b : b.steered r j x := steered.of_only sent
  obtain ⟨counts_f, handled_f, part_f⟩ := rowFilled_values steered_b tu.tap
  have slot_b : b.rowSlot r = s.rowSlot r := congrArg slotOf (congrArg (frameOf · r) sent.area_eq.1)
  generalize b.rowFilled tu.tap r = w at *
  rw [slot_b] at part_f
  have parts_b : b.partAt = s.partAt := sent .parts (by decide)
  /- A row filled whole: the turn goes on, or ends with the row. -/
  have whole_u (whole : s.tapWidth tu.tap ≤ tu.sent + n) : u.lastRequest = w.lastRequest
      ∧ u.ctr.delivery.undecided = w.ctr.delivery.undecided
      ∧ ∀ p, w.partAt (s.rowSlot r) j = some p → ∃ p', u.partAt (s.rowSlot r) j = some p' ∧ p'.gapRows = p.gapRows
          ∧ (p'.taps[tu.tap]).filled = (p.taps[tu.tap]).filled := by
    have carried {v : State} (ends : PartsEnd v u) (p : OwnPart) (part : v.partAt (s.rowSlot r) j = some p) :
        ∃ p', u.partAt (s.rowSlot r) j = some p' ∧ p'.gapRows = p.gapRows
          ∧ (p'.taps[tu.tap]).filled = (p.taps[tu.tap]).filled := by
      obtain ⟨p', part', kept⟩ := ends.part part
      exact ⟨p', part', kept.gapRows, (kept.rows tu.tap).2⟩
    by_cases left : rest ≠ [] ∨ tu.line ≠ none
    · exact ⟨(onward whole left).lastRequest, (onward whole left).counts, carried (onward whole left).parts⟩
    · obtain ⟨last, no_line⟩ := not_or.mp left
      have settled := ended whole (not_not.mp last) (not_not.mp no_line)
      exact ⟨settled.lastRequest.trans (endTurn_only w _ .lastRequest (by decide)),
        settled.counts.trans (congrArg _ (endTurn_counts w _)), carried ((PartsEnd.endTurn w _).next settled.parts)⟩
  have counted : u.lastRequest = b.lastRequest ∧ ∃ m, u.ctr.delivery.undecided
      = DeliveryCounters.undecided { b.ctr.delivery with rowsFilled := m } := by
    obtain part | whole := Nat.lt_or_ge (tu.sent + n) (s.tapWidth tu.tap)
    · exact ⟨(more part).lastRequest, _, (more part).counts⟩
    · obtain ⟨same, counts_u, -⟩ := whole_u whole
      exact ⟨same.trans (filled_only .lastRequest (by decide)), _, counts_u.trans (congrArg _ counts_f)⟩
  obtain ⟨same, m, issued⟩ := counted
  rw [counts] at issued counts_f
  refine ⟨same.trans request, (congrArg DeliveryCounters.burstsIssued issued :),
    (congrArg DeliveryCounters.bytesWritten issued :), fun part => ?_, fun whole => ⟨?_, fun p part => ?_, fun left => ?_,
    fun k last no_line finish => ?_⟩⟩
  · have settled := more part
    have counts_m := settled.counts
    rw [show (b.setTurn (some { tu with sent := tu.sent + n })).ctr.delivery = _ from counts] at counts_m
    exact ⟨settled.turn.1, settled.handled.trans (sent .handled (by decide)),
      (congrArg DeliveryCounters.rowsFilled counts_m :)⟩
  · obtain ⟨-, counts_u, -⟩ := whole_u whole
    rw [counts_f] at counts_u
    exact (congrArg DeliveryCounters.rowsFilled counts_u :)
  · obtain ⟨-, -, carried⟩ := whole_u whole
    obtain ⟨p', part', gaps, filled⟩ := carried _ (part_f p (parts_b ▸ part))
    refine ⟨p', part', gaps, filled.trans ?_⟩
    show ((p.setTap tu.tap fun x => { x with filled := x.filled + 1 }).taps[tu.tap]).filled = _
    rw [setTap_tap, if_pos rfl]
  · have settled := onward whole left
    refine ⟨settled.turn.1, ?_⟩
    rw [settled.handled]
    exact handled_f
  · obtain ⟨turn, lastTap, handled, finished⟩ := endTurn_values (tu := { tu with rows := rest, sent := 0 }) finish
      (ended whole last no_line)
    have area_w : w.area = s.area := filled_only.area_eq.1.trans sent.area_eq.1
    rw [area_w] at handled
    have parts_w : PartsRel OwnPart.Stays s w := PartsRel.trans .trans (.of_only .refl sent) stays
    have frames (i : Fin 8) : w.frameAt i = s.frameAt i := (frameAt_of_only filled_only i).trans (frameAt_of_only sent i)
    exact ⟨turn, lastTap, handled, finished.of_stays parts_w frames⟩

end Sys2Proof.Machine

/-! Taps that are done stay done through the host write port's work (R125, R135), and the start of a turn (R126, R130,
R134, R135). -/

namespace Sys2Proof.Machine

-- One proof at a time: the proofs of many statements at once take more threads than the memory holds.
set_option Elab.async false

/-! ### Done taps through the port's work -/

/-- The taps that are done in a part stay done. -/
def OwnPart.DoneKept (p q : OwnPart) : Prop := ∀ t : Tap, (p.taps[t]).done = true → (q.taps[t]).done = true

theorem PartsRel.mono {R R' : OwnPart → OwnPart → Prop} (fits : ∀ p q, R p q → R' p q) {s u : State}
    (h : PartsRel R s u) : PartsRel R' s u := by
  intro i j
  have rel := h i j
  cases p : s.partAt i j <;> cases q : u.partAt i j <;> rw [p, q] at rel <;> cases rel
  · exact .none
  · next related => exact .some (fits _ _ related)

/-- From s to u taps that are done in own parts stay done. -/
abbrev DoneStays (s u : State) : Prop := PartsRel OwnPart.DoneKept s u

namespace DoneStays

theorem kept_refl (p : OwnPart) : p.DoneKept p := fun _ done => done

theorem next {s u v : State} (first : DoneStays s u) (second : DoneStays u v) : DoneStays s v :=
  PartsRel.trans (fun _ _ _ a b t done => b t (a t done)) first second

theorem same {s u : State} (parts : u.partAt = s.partAt) : DoneStays s u := PartsRel.of_parts kept_refl parts

theorem of_only {S : List Piece} {s u : State} (only : Only S s u) (out : .parts ∉ S := by decide) : DoneStays s u :=
  PartsRel.of_only kept_refl only out

theorem of_ends {s u : State} (ends : PartsEnd s u) : DoneStays s u := PartsRel.mono (fun _ _ h => h.done) ends

theorem of_stays {s u : State} (stays : PartsRel OwnPart.Stays s u) : DoneStays s u := PartsRel.mono (fun _ _ h => h.2) stays

theorem issueRecordClass (s : State) (r : PortRequest) : DoneStays s (s.issueRecordClass r) := by
  cases r with
  | notice address data => exact same rfl
  | partFlush i j =>
    refine (of_only (issueFlush_only s)).next (PartsRel.modifyPart kept_refl fun p _ => ?_)
    split <;> exact kept_refl p
  | recordWrite =>
    unfold State.issueRecordClass
    dsimp only
    split <;> exact same rfl
  | recordFlush => exact same rfl
  | recordMessage =>
    unfold State.issueRecordClass
    dsimp only
    split
    · exact same rfl
    · exact of_only (S := [.lastRequest, .recordsCtr, .records, .port])
        ((((setLastRequest_only s _).mono (by decide)).next (bumpRecords_only _ _)).next (dropHeadRecord_only _))

theorem lineWritten (s : State) (t : Tap) (l : Line) (i : Fin 8) (j : Fin 2) : DoneStays s (s.lineWritten t l i j) := by
  have counted : DoneStays (s.storeRow t l)
      ((s.storeRow t l).modifyPart i j fun p => p.setTap t fun x => { x with written := x.written + 1 }) := by
    refine PartsRel.modifyPart kept_refl fun p _ n done => ?_
    rw [setTap_tap]
    split <;> exact done
  exact (of_only (storeRow_only s t l)).next counted

theorem turnBurst (s : State) (tu : Turn) : DoneStays s (s.turnBurst tu).1 := by
  unfold State.turnBurst
  split
  · next r rest rows =>
    split
    · exact same rfl
    · next i j place =>
      have filled := of_stays (rowFilled_stays (s.burst tu.tap i j r tu.sent (s.fillPixels tu.tap r)).1 tu.tap r)
      dsimp only
      split
      · split
        · exact DoneStays.next (u := State.rowFilled _ tu.tap r) filled (of_ends (PartsEnd.endTurn _ _))
        · exact filled
      · exact same rfl
  · next l rows line =>
    split
    · exact of_only (dropTurn_only s)
    · next i j place =>
      have written := lineWritten (s.burst tu.tap i j l.index tu.sent l.pixels).1 tu.tap l i j
      dsimp only
      split
      · exact DoneStays.next (u := State.lineWritten _ tu.tap l i j) written (of_ends (PartsEnd.endTurn _ _))
      · exact same rfl
  · exact of_ends (PartsEnd.endTurn s tu)

end DoneStays

/-! ### The start of a turn (R126, R130, R134) -/

/-- A turn begun: under SKIP its fill rows are filled at once. -/
def State.begun (s : State) (t : Tap) (rows : List Nat) (line : Option Line) (finish : Option Nat) : State :=
  if cfgFill s.area = .skip then
    (rows.foldl (fun s r => s.rowFilled t r) s).setTurn (some { tap := t, rows := [], sent := 0, line, finish })
  else s.setTurn (some { tap := t, rows, sent := 0, line, finish })

theorem startTurn_finish {s : State} {t : Tap} {k : Nat} (ready : s.finishReady t = some k) : s.startTurn t
    = s.begun t (s.fillRows t (s.delivery.handled[t] + 1) ((k + 1) * cfgL s.area)) none (some k) := by
  unfold State.startTurn
  dsimp only
  rw [ready]
  rfl

theorem writeReady_of_write {s : State} {t : Tap} {l : Line} {more : List Line} (lines : (s.taps[t]).lines = l :: more)
    (write : s.headDecision l = .write) : s.writeReady t = some l := by
  unfold State.writeReady
  rw [lines]
  exact if_pos write

theorem startTurn_write {s : State} {t : Tap} {l : Line} {more : List Line} (unfinished : s.finishReady t = none)
    (lines : (s.taps[t]).lines = l :: more) (write : s.headDecision l = .write) : s.startTurn t
      = ((s.setLines t more).setWaiting t false).begun t (s.fillRows t (s.delivery.handled[t] + 1) l.index) (some l) none := by
  unfold State.startTurn
  dsimp only
  rw [unfinished]
  dsimp only
  rw [writeReady_of_write lines write, lines]
  rfl

theorem rowFilled_counts (s : State) (t : Tap) (r : Nat) :
    (s.rowFilled t r).ctr.delivery = { s.ctr.delivery with rowsFilled := s.ctr.delivery.rowsFilled + 1 } := by
  have filled : (match s.rowPlace r with
      | some (i, j) => s.modifyPart i j fun p => p.filled t
      | none => s).ctr.delivery = s.ctr.delivery := by
    split
    · exact modifyPart_only s _ _ _ .deliveryCtr (by decide)
    · rfl
  exact congrArg (fun c : DeliveryCounters => { c with rowsFilled := c.rowsFilled + 1 }) filled

/-- A run of rows filled at once. -/
theorem rowsFilled_values (t : Tap) (rows : List Nat) (s : State) :
    Only [.parts, .handled, .deliveryCtr] s (rows.foldl (fun s r => s.rowFilled t r) s)
      ∧ PartsRel OwnPart.Stays s (rows.foldl (fun s r => s.rowFilled t r) s)
      ∧ (rows.foldl (fun s r => s.rowFilled t r) s).ctr.delivery
        = { s.ctr.delivery with rowsFilled := s.ctr.delivery.rowsFilled + BitVec.ofNat 32 rows.length } := by
  refine ⟨.foldl (fun v r => rowFilled_only v t r) rows s,
    PartsRel.foldl .refl .trans (fun v r => rowFilled_stays v t r) rows s, ?_⟩
  induction rows generalizing s with
  | nil => exact congrArg (fun n => { s.ctr.delivery with rowsFilled := n }) (BitVec.add_zero _).symm
  | cons r rows ih =>
    rw [List.foldl_cons, ih, rowFilled_counts, List.length_cons]
    exact congrArg (fun n => { s.ctr.delivery with rowsFilled := n }) (ofNat_succ_add _ _)

/-- A turn begun: the turn, what else it touches, and what it counts. -/
theorem begun_values (s : State) (t : Tap) (rows : List Nat) (line : Option Line) (finish : Option Nat) :
    (s.begun t rows line finish).delivery.turn
        = some { tap := t, rows := if cfgFill s.area = .skip then [] else rows, sent := 0, line, finish }
      ∧ Only [.parts, .handled, .deliveryCtr, .turn] s (s.begun t rows line finish)
      ∧ PartsRel OwnPart.Stays s (s.begun t rows line finish)
      ∧ (s.begun t rows line finish).ctr.delivery = { s.ctr.delivery with rowsFilled := s.ctr.delivery.rowsFilled
          + (if cfgFill s.area = .skip then BitVec.ofNat 32 rows.length else 0) } := by
  unfold State.begun
  split
  · obtain ⟨only, stays, counts⟩ := rowsFilled_values t rows s
    exact ⟨rfl, (only.mono (by decide)).next (setTurn_only _ _), stays, counts⟩
  · refine ⟨rfl, (setTurn_only s _).mono (by decide), PartsRel.of_parts .refl rfl, ?_⟩
    exact congrArg (fun n => { s.ctr.delivery with rowsFilled := n }) (BitVec.add_zero _).symm

theorem startTurn_doneStays (s : State) (t : Tap) : DoneStays s (s.startTurn t) := by
  have begun (v : State) (rows : List Nat) (line : Option Line) (finish : Option Nat) :
      DoneStays v (v.begun t rows line finish) := .of_stays (begun_values v t rows line finish).2.2.1
  unfold State.startTurn
  dsimp only
  split
  · exact begun s _ _ _
  · split
    · exact begun ((s.setLines t ((s.taps[t]).lines.drop 1)).setWaiting t false) _ _ _
    · exact .same rfl

theorem portIssue_doneStays (fuel : Nat) (s : State) : DoneStays s (State.portIssue fuel s) :=
  portIssue_related (R := DoneStays) (fun _ => .same rfl) DoneStays.next
    (fun v r rest _ => DoneStays.issueRecordClass { v with delivery := { v.delivery with port := rest } } r)
    (fun v tu _ => .turnBurst v tu) (fun v t _ _ => startTurn_doneStays v t) fuel s

theorem State.tapFinished.done {s v u : State} {t : Tap} {k : Nat} (h : s.tapFinished v t k) (stays : DoneStays v u) :
    s.tapFinished u t k := by
  intro i j p part collecting low
  obtain ⟨p', part', done⟩ := h i j p part collecting low
  obtain ⟨p'', part'', kept⟩ := stays.part part'
  exact ⟨p'', part'', kept t done⟩

theorem nextTap_of_offered {s : State} {t : Tap} (offered : s.offered t) (ready : s.turnReady t = true) :
    s.nextTap = some t := by
  unfold State.nextTap
  obtain rfl | ⟨rfl, unready⟩ := offered
  · exact if_pos ready
  · rw [if_neg (Bool.eq_false_iff.mp unready), if_pos ready]

end Sys2Proof.Machine

/-! New turns, and what PORT_ISSUE issues (R124 to R136). -/

namespace Sys2Proof.Machine

-- One proof at a time: the proofs of many statements at once take more threads than the memory holds.
set_option Elab.async false

/-! ### What a burst reads -/

theorem burstAt_of_only {S : List Piece} {s u : State} (only : Only S s u) (t : Tap) (j : Fin 2) (x : Steer) (r sent : Nat)
    (area_out : .area ∉ S := by decide) (roster_out : .roster ∉ S := by decide) :
    u.burstAt t j x r sent = s.burstAt t j x r sent := by
  obtain ⟨number, -⟩ := only.roster_eq roster_out
  unfold State.burstAt State.self
  rw [(only.area_eq area_out).1, number]

theorem burstCount_of_only {S : List Piece} {s u : State} (only : Only S s u) (t : Tap) (j : Fin 2) (x : Steer)
    (r sent : Nat) (area_out : .area ∉ S := by decide) (roster_out : .roster ∉ S := by decide) :
    u.burstCount t j x r sent = s.burstCount t j x r sent := by
  unfold State.burstCount
  rw [burstAt_of_only only t j x r sent area_out roster_out, tapWidth_of_only only t area_out roster_out,
    (only.area_eq area_out).1]

theorem burstAt_zero (s : State) (t : Tap) (j : Fin 2) (x : Steer) (r : Nat) :
    s.burstAt t j x r 0 = rowAddress s.area s.self t j x.base r := Nat.add_zero _

theorem burstCount_zero (s : State) (t : Tap) (j : Fin 2) (x : Steer) (r : Nat) : s.burstCount t j x r 0
    = min (cfgMaxPayload s.area)
        (min (4096 - rowAddress s.area s.self t j x.base r % 4096) (s.tapWidth t)) := by
  unfold State.burstCount
  rw [burstAt_zero, Nat.sub_zero]

theorem fillPixels_of_only {S : List Piece} {s u : State} (only : Only S s u) (t : Tap) (r : Nat)
    (area_out : .area ∉ S := by decide) (roster_out : .roster ∉ S := by decide) (store_out : .store ∉ S := by decide) :
    u.fillPixels t r = s.fillPixels t r := by
  have store : u.delivery.store = s.delivery.store := only .store store_out
  unfold State.fillPixels
  rw [tapWidth_of_only only t area_out roster_out, (only.area_eq area_out).1, store]

/-- The pieces that a burst of the current turn touches. -/
def burstPieces : List Piece := [.lastRequest, .deliveryCtr, .turn, .parts, .handled, .port, .store]

theorem rowBurst_only {s : State} {tu : Turn} {r : Nat} {rest : List Nat} {j : Fin 2} {x : Steer} (rows : tu.rows = r :: rest)
    (steered : s.steered r j x) : Only burstPieces s (s.turnBurst tu).1 := by
  rw [turnBurst_row rows steered]
  have sent := (sendBurst_only s tu.tap j x r tu.sent (s.fillPixels tu.tap r)).mono (S := burstPieces) (by decide)
  have filled := sent.next (rowFilled_only _ tu.tap r)
  exact .ite (fun _ => .ite (fun _ => filled.next (endTurn_only _ _)) fun _ => filled.next (setTurn_only _ _)) fun _ =>
    sent.next (setTurn_only _ _)

theorem lineBurst_only {s : State} {tu : Turn} {l : Line} {j : Fin 2} {x : Steer} (rows : tu.rows = [])
    (line : tu.line = some l) (steered : s.steered l.index j x) : Only burstPieces s (s.turnBurst tu).1 := by
  rw [turnBurst_line rows line steered]
  have sent := (sendBurst_only s tu.tap j x l.index tu.sent l.pixels).mono (S := burstPieces) (by decide)
  exact .ite (fun _ => (sent.next (lineWritten_only _ tu.tap l _ j)).next (endTurn_only _ _)) fun _ =>
    sent.next (setTurn_only _ _)

/-! ### The first burst of a new turn (R126, R130, R134) -/

/-- What stands after the start of a write turn and its first burst. -/
theorem writeTurn_values {v u : State} {tap : Tap} {l : Line} {more : List Line} {j : Fin 2} {x : Steer}
    {due rows : List Nat} {r : Nat} (rows_eq : rows = if cfgFill v.area = .skip then [] else due)
    (r_eq : r = rows.headD l.index) (steered : v.steered r j x)
    (after : Settles (((((v.setLines tap more).setWaiting tap false).begun tap due (some l) none)).turnBurst
      { tap := tap, rows := rows, sent := 0, line := some l, finish := none }).1 u) :
    u.lastRequest = some (.memoryWrite (v.burstAt tap j x r 0)
        ((if rows = [] then l.pixels else v.fillPixels tap r).take (v.burstCount tap j x r 0)))
      ∧ (u.taps[tap]).lines <:+ more
      ∧ u.ctr.delivery.burstsIssued = v.ctr.delivery.burstsIssued + 1
      ∧ (v.burstCount tap j x r 0 < v.tapWidth tap →
          u.delivery.turn = some { tap := tap, rows := rows, sent := v.burstCount tap j x r 0, line := some l, finish := none }
            ∧ u.ctr.delivery.rowsFilled
              = v.ctr.delivery.rowsFilled + (if cfgFill v.area = .skip then BitVec.ofNat 32 due.length else 0))
      ∧ (v.tapWidth tap ≤ v.burstCount tap j x r 0 → rows = [] → u.delivery.turn = none ∧ u.delivery.lastTap = tap
          ∧ u.delivery.handled[tap] = l.index ∧ u.ctr.delivery.linesWritten = v.ctr.delivery.linesWritten + 1)
      ∧ (∀ rest, v.tapWidth tap ≤ v.burstCount tap j x r 0 → rows = r :: rest →
          u.delivery.turn = some { tap := tap, rows := rest, sent := 0, line := some l, finish := none }
            ∧ u.delivery.handled[tap] = r ∧ u.ctr.delivery.rowsFilled = v.ctr.delivery.rowsFilled + 1) := by
  have popped : Only [.lines, .waiting] v ((v.setLines tap more).setWaiting tap false) :=
    ((setLines_only v tap more).mono (by decide)).next (setWaiting_only _ tap false)
  have left : ((((v.setLines tap more).setWaiting tap false).taps[tap]).lines) = more :=
    congrArg TapState.lines (setTap_taps_same v tap { v.taps[tap] with lines := more })
  obtain ⟨-, begun, -, counts⟩ := begun_values ((v.setLines tap more).setWaiting tap false) tap due (some l) none
  have counts_v : ((v.setLines tap more).setWaiting tap false).ctr.delivery = v.ctr.delivery := rfl
  rw [counts_v, popped.area_eq.1] at counts
  generalize (v.setLines tap more).setWaiting tap false = v₁ at *
  generalize v₁.begun tap due (some l) none = w at *
  have only : Only [.lines, .waiting, .parts, .handled, .deliveryCtr, .turn] v w := (popped.mono (by decide)).next begun
  have lines_w : (w.taps[tap]).lines = more := (begun.lines_eq tap).trans left
  have steered_w : w.steered r j x := steered.of_only only
  have at_w := burstAt_of_only only tap j x r 0
  have count_w := burstCount_of_only only tap j x r 0
  have width_w := tapWidth_of_only only tap
  have pixels_w := fillPixels_of_only only tap r
  cases rows with
  | nil =>
    obtain rfl : r = l.index := r_eq
    have touched := lineBurst_only (tu := { tap := tap, rows := [], sent := 0, line := some l, finish := none }) rfl rfl steered_w
    obtain ⟨request, bursts, -, part, whole⟩ := lineBurst_values rfl rfl steered_w after
    simp only [Nat.zero_add, at_w, count_w, width_w, List.drop_zero] at request part whole
    refine ⟨request, ?_, ?_, fun less => ⟨(part less).1, ?_⟩, fun all _ => ?_, fun rest _ more_rows => nomatch more_rows⟩
    · rw [← lines_w, ← touched.lines_eq tap]
      exact after.lines tap
    · rw [bursts, counts]
    · rw [(part less).2.2.2, counts]
    · obtain ⟨turn, lastTap, handled, written, -⟩ := whole all trivial
      rw [counts] at written
      exact ⟨turn, lastTap, handled, written⟩
  | cons r' rest =>
    obtain rfl : r = r' := r_eq
    have filled : ¬ cfgFill v.area = .skip := fun skip => by
      rw [if_pos skip] at rows_eq
      cases rows_eq
    have touched := rowBurst_only (tu := { tap := tap, rows := r :: rest, sent := 0, line := some l, finish := none })
      rfl steered_w
    obtain ⟨request, bursts, -, part, whole⟩ := rowBurst_values rfl steered_w after
    simp only [Nat.zero_add, at_w, count_w, width_w, pixels_w, List.drop_zero] at request part whole
    rw [if_neg filled] at counts
    refine ⟨request, ?_, ?_, fun less => ⟨(part less).1, ?_⟩, fun _ none_left => absurd none_left (List.cons_ne_nil r rest),
      fun rest' all rows' => ?_⟩
    · rw [← lines_w, ← touched.lines_eq tap]
      exact after.lines tap
    · rw [bursts, counts]
    · rw [(part less).2.2, counts, if_neg filled]
    · obtain ⟨-, rfl⟩ := List.cons.inj rows'
      obtain ⟨count, -, onward, -⟩ := whole all
      obtain ⟨turn, handled⟩ := onward (.inr (by simp))
      rw [counts] at count
      exact ⟨turn, handled, count.trans (by simp)⟩

/-! ### PORT_ISSUE with no request waiting (R125, R126) -/

theorem exec_portIssue_kept {t : Moment} {s : State} (up : s.delivery.linkUp = true) (kept : s.headsKept) :
    ∃ w n, exec (.portIssue t) s = .next (State.portIssue 100 ((s.tick t).judged w n)).settle := by
  obtain ⟨w, n, judged⟩ := settle_of_headsKept (s := s.tick t) kept
  exact ⟨w, n, by rw [exec_portIssue up, judged]⟩

theorem portIssue_burst {fuel : Nat} {s : State} {tu : Turn} (port : s.delivery.port = [])
    (turn : s.delivery.turn = some tu) (issues : (s.turnBurst tu).2 = true) :
    State.portIssue (fuel + 1) s = (s.turnBurst tu).1 := portIssue_issued port turn (Prod.ext rfl issues)

theorem rowBurst_issues {s : State} {tu : Turn} {r : Nat} {rest : List Nat} {j : Fin 2} {x : Steer}
    (rows : tu.rows = r :: rest) (steered : s.steered r j x) : (s.turnBurst tu).2 = true := by
  rw [turnBurst_row rows steered]

theorem lineBurst_issues {s : State} {tu : Turn} {l : Line} {j : Fin 2} {x : Steer} (rows : tu.rows = [])
    (line : tu.line = some l) (steered : s.steered l.index j x) : (s.turnBurst tu).2 = true := by
  rw [turnBurst_line rows line steered]

theorem writeTurn_issues {s : State} {l : Line} {rows : List Nat} {r : Nat} {j : Fin 2} {x : Steer} (tap : Tap)
    (r_eq : r = rows.headD l.index) (steered : s.steered r j x) :
    (s.turnBurst { tap := tap, rows := rows, sent := 0, line := some l, finish := none }).2 = true := by
  cases rows with
  | nil =>
    obtain rfl : r = l.index := r_eq
    exact lineBurst_issues rfl rfl steered
  | cons r' rest =>
    obtain rfl : r = r' := r_eq
    exact rowBurst_issues rfl steered

/-- With no turn, PORT_ISSUE starts one at the offered tap. -/
theorem exec_portIssue_start {t : Moment} {s : State} {tap : Tap} (up : s.delivery.linkUp = true)
    (empty : s.delivery.port = []) (kept : s.headsKept) (no_turn : s.delivery.turn = none) (opened : s.closed = false)
    (offered : s.offered tap) (ready : s.turnReady tap = true) : ∃ w n, exec (.portIssue t) s
      = .next (State.portIssue 99 (((s.tick t).judged w n).startTurn tap)).settle := by
  obtain ⟨w, n, executed⟩ := exec_portIssue_kept (t := t) up kept
  have next : ((s.tick t).judged w n).nextTap = some tap := nextTap_of_offered (s := s) offered ready
  exact ⟨w, n, executed.trans (congrArg (fun v : State => Host.Outcome.next v.settle)
    (portIssue_start (s := (s.tick t).judged w n) empty no_turn opened next))⟩

/-- A write turn started: its first burst is issued. -/
theorem exec_portIssue_write {t : Moment} {s : State} {tap : Tap} {l : Line} {more : List Line} {j : Fin 2} {x : Steer}
    {rows : List Nat} {r : Nat} (up : s.delivery.linkUp = true) (empty : s.delivery.port = []) (kept : s.headsKept)
    (no_turn : s.delivery.turn = none) (opened : s.closed = false) (offered : s.offered tap)
    (unfinished : s.finishReady tap = none) (lines : (s.taps[tap]).lines = l :: more) (write : s.headDecision l = .write)
    (rows_eq : rows = if cfgFill s.area = .skip then [] else s.fillRows tap (s.delivery.handled[tap] + 1) l.index)
    (r_eq : r = rows.headD l.index) (steered : s.steered r j x) :
    ∃ w n u, exec (.portIssue t) s = .next u ∧ Settles ((((((s.tick t).judged w n).setLines tap more).setWaiting tap
      false).begun tap (s.fillRows tap (s.delivery.handled[tap] + 1) l.index) (some l) none).turnBurst
        { tap := tap, rows := rows, sent := 0, line := some l, finish := none }).1 u := by
  have ready : s.turnReady tap = true := by
    unfold State.turnReady
    rw [writeReady_of_write lines write, Option.isSome_some, Bool.or_true]
  obtain ⟨w, n, executed⟩ := exec_portIssue_start (t := t) up empty kept no_turn opened offered ready
  rw [startTurn_write (s := (s.tick t).judged w n) unfinished lines write] at executed
  have popped : Only [.lines, .waiting] ((s.tick t).judged w n) ((((s.tick t).judged w n).setLines tap more).setWaiting tap
      false) := ((setLines_only _ tap more).mono (by decide)).next (setWaiting_only _ tap false)
  have empty_v : ((((s.tick t).judged w n).setLines tap more).setWaiting tap false).delivery.port = [] := empty
  have steered_v := State.steered.of_only (s := (s.tick t).judged w n) steered popped
  obtain ⟨turn, begun, -, -⟩ := begun_values ((((s.tick t).judged w n).setLines tap more).setWaiting tap false) tap
    (s.fillRows tap (s.delivery.handled[tap] + 1) l.index) (some l) none
  have empty_w := (begun .port (by decide)).trans empty_v
  have steered_w := steered_v.of_only begun
  have rows_same : (if cfgFill ((((s.tick t).judged w n).setLines tap more).setWaiting tap false).area = .skip then []
      else s.fillRows tap (s.delivery.handled[tap] + 1) l.index) = rows := rows_eq.symm
  rw [rows_same] at turn
  have issued := portIssue_burst (fuel := 98) empty_w turn (writeTurn_issues tap r_eq steered_w)
  exact ⟨w, n, _, executed.trans (congrArg (fun v : State => Host.Outcome.next v.settle) issued), .settle _⟩

theorem turnReady_of_finish {s : State} {tap : Tap} {k : Nat} (ready : s.finishReady tap = some k) : s.turnReady tap = true := by
  unfold State.turnReady
  rw [ready]
  rfl

/-- A finish turn with rows to fill started: the first burst of its first row is issued. -/
theorem exec_portIssue_finish {t : Moment} {s : State} {tap : Tap} {k r : Nat} {rest : List Nat} {j : Fin 2} {x : Steer}
    (up : s.delivery.linkUp = true) (empty : s.delivery.port = []) (kept : s.headsKept)
    (no_turn : s.delivery.turn = none) (opened : s.closed = false) (offered : s.offered tap)
    (ready : s.finishReady tap = some k) (filled : cfgFill s.area ≠ .skip)
    (due : s.fillRows tap (s.delivery.handled[tap] + 1) ((k + 1) * cfgL s.area) = r :: rest) (steered : s.steered r j x) :
    ∃ w n u, exec (.portIssue t) s = .next u ∧ Settles ((((s.tick t).judged w n).setTurn
        (some { tap := tap, rows := r :: rest, sent := 0, line := none, finish := some k })).turnBurst
          { tap := tap, rows := r :: rest, sent := 0, line := none, finish := some k }).1 u := by
  obtain ⟨w, n, executed⟩ := exec_portIssue_start (t := t) up empty kept no_turn opened offered (turnReady_of_finish ready)
  have begun : ((s.tick t).judged w n).startTurn tap = ((s.tick t).judged w n).setTurn
      (some { tap := tap, rows := r :: rest, sent := 0, line := none, finish := some k }) := by
    rw [← due, startTurn_finish (s := (s.tick t).judged w n) ready]
    exact if_neg filled
  rw [begun] at executed
  have issued := portIssue_burst (fuel := 98) (s := ((s.tick t).judged w n).setTurn
    (some { tap := tap, rows := r :: rest, sent := 0, line := none, finish := some k })) empty rfl
    (rowBurst_issues rfl steered)
  exact ⟨w, n, _, executed.trans (congrArg (fun v : State => Host.Outcome.next v.settle) issued), .settle _⟩

/-- A finish turn that needs no write is carried out at once (R135). -/
theorem exec_portIssue_finish_at_once {t : Moment} {s : State} {tap : Tap} {k : Nat} (up : s.delivery.linkUp = true)
    (empty : s.delivery.port = []) (kept : s.headsKept) (no_turn : s.delivery.turn = none) (opened : s.closed = false)
    (offered : s.offered tap) (ready : s.finishReady tap = some k)
    (no_write : cfgFill s.area = .skip ∨ s.fillRows tap (s.delivery.handled[tap] + 1) ((k + 1) * cfgL s.area) = []) :
    ∃ u, exec (.portIssue t) s = .next u ∧ s.tapFinished u tap k := by
  obtain ⟨w, n, executed⟩ := exec_portIssue_start (t := t) up empty kept no_turn opened offered (turnReady_of_finish ready)
  rw [startTurn_finish (s := (s.tick t).judged w n) ready] at executed
  obtain ⟨turn, only, stays, -⟩ := begun_values ((s.tick t).judged w n) tap
    (s.fillRows tap (s.delivery.handled[tap] + 1) ((k + 1) * cfgL s.area)) none (some k)
  have no_rows : (if cfgFill ((s.tick t).judged w n).area = .skip then []
      else s.fillRows tap (s.delivery.handled[tap] + 1) ((k + 1) * cfgL s.area)) = [] := by
    split
    · rfl
    · next filled => exact no_write.resolve_left filled
  rw [no_rows] at turn
  have port := (only .port (by decide)).trans (empty : ((s.tick t).judged w n).delivery.port = [])
  have frames (i : Fin 8) := frameAt_of_only only i
  have ended := portIssue_ended (fuel := 98) port turn rfl
  refine ⟨_, executed.trans (congrArg (fun v : State => Host.Outcome.next v.settle) ended), ?_⟩
  obtain ⟨-, -, -, finished⟩ := endTurn_values (tu := { tap := tap, rows := [], sent := 0, line := none, finish := some k })
    rfl (Settles.refl (State.endTurn _ _))
  exact ((finished.of_stays (s := s) stays frames).done (portIssue_doneStays 98 _)).ends (PartsEnd.settle _)

end Sys2Proof.Machine

namespace Sys2Proof

open Machine

/-- Settles O44: the record-class requests one by one; the bursts of the current turn and of a new one by what stands after
a row's burst and a line's; and the laws of the fill rows, their pixels and the head decisions. -/
theorem portIssues : Obligations.PortIssues := by
  refine ⟨fun t s => ⟨fun down => ?_, fun _ _ _ up port => issue_notice up port,
    fun _ _ _ up port queue => issue_recordWrite up port queue, fun _ up port => issue_recordFlush up port,
    fun _ _ _ up port queue => issue_recordMessage up port queue,
    fun _ _ _ _ up port part flushing waits => issue_partFlush up port part flushing waits⟩,
    fun t s tu l e j x up empty kept turn rows line entry stream steer => ?_,
    fun t s tu r rest e j x p up empty kept turn rows entry stream steer own => ?_,
    fun t s tap up empty kept no_turn opened offered => ⟨fun l more e j x unfinished lines write => ?_,
      fun k ready => ⟨fun r rest e j x filled due entry stream steer => ?_, fun no_write =>
        exec_portIssue_finish_at_once up empty kept no_turn opened offered ready no_write⟩⟩,
    fun s tap => ⟨fun first last r placed lines => ⟨fillRows_increasing placed lines tap first last,
      mem_fillRows placed lines tap first last r⟩, fun r => ⟨fun fill => fillPixels_zero fill tap r,
        fun phase fill at_phase => fillPixels_repeated fill tap at_phase⟩, fun l => ⟨fun closed =>
          headDecision_closed closed l, fun e opened entry => headDecision_known opened entry,
            fun opened no_entry => ?_⟩, ?_⟩⟩
  · exact congrArg Host.Outcome.next (if_neg (by rw [show (s.tick t).delivery.linkUp = _ from down]; decide))
  · obtain ⟨w, n, executed⟩ := exec_portIssue_kept (t := t) up kept
    have steered : ((s.tick t).judged w n).steered l.index j x := ⟨e, entry, stream, steer⟩
    rw [portIssue_burst (s := (s.tick t).judged w n) empty turn (lineBurst_issues rows line steered)] at executed
    obtain ⟨request, bursts, bytes, part, whole⟩ := lineBurst_values rows line steered (.settle _)
    exact ⟨_, executed, request, bursts, bytes, fun less => ⟨(part less).1, (part less).2.1, (part less).2.2.1⟩, whole⟩
  · obtain ⟨w, n, executed⟩ := exec_portIssue_kept (t := t) up kept
    have steered : ((s.tick t).judged w n).steered r j x := ⟨e, entry, stream, steer⟩
    rw [portIssue_burst (s := (s.tick t).judged w n) empty turn (rowBurst_issues rows steered)] at executed
    obtain ⟨request, bursts, bytes, part, whole⟩ := rowBurst_values rows steered (.settle _)
    obtain ⟨slot, -⟩ := entryFor_eq_some entry
    have here : s.partAt (slotOf (frameOf s.area r)) j = some p :=
      (congrArg (Option.bind · Leg.own) (legAt_known slot j)).trans own
    refine ⟨_, executed, request, bursts, bytes, part, fun all => ?_⟩
    obtain ⟨count, part_u, onward, ended⟩ := whole all
    exact ⟨count, part_u p here, onward, ended⟩
  · intro due rows r entry stream steer address n pixels
    have steered : s.steered r j x := ⟨e, entry, stream, steer⟩
    obtain ⟨w, m, u, executed, after⟩ := exec_portIssue_write (t := t) up empty kept no_turn opened offered unfinished lines
      write (rows := rows) rfl rfl steered
    have values := writeTurn_values (v := (s.tick t).judged w m) (rows := rows) rfl rfl steered after
    rw [burstAt_zero, burstCount_zero] at values
    exact ⟨u, executed, values⟩
  · have steered : s.steered r j x := ⟨e, entry, stream, steer⟩
    obtain ⟨w, m, u, executed, after⟩ := exec_portIssue_finish (t := t) up empty kept no_turn opened offered ready filled due
      steered
    rw [due]
    have values := rowBurst_values (s := ((s.tick t).judged w m).setTurn
      (some { tap := tap, rows := r :: rest, sent := 0, line := none, finish := some k })) rfl steered after
    simp only [Nat.zero_add, List.drop_zero, burstAt_zero, burstCount_zero] at values
    obtain ⟨request, bursts, -, part, whole⟩ := values
    refine ⟨u, executed, request, bursts, fun less => (part less).1, fun all => ?_⟩
    obtain ⟨count, -, onward, ended⟩ := whole all
    refine ⟨count, fun left => ⟨(onward (.inl left)).2, (onward (.inl left)).1⟩, fun last => ?_⟩
    obtain ⟨turn, lastTap, handled, finished⟩ := ended k last trivial rfl
    exact ⟨turn, lastTap, handled, finished⟩
  · have decided := headDecision_unknown opened no_entry
    refine ⟨fun barred => ?_, fun allowed low => ?_, fun allowed high early => ?_, fun allowed high late => ?_⟩
    · rw [decided, barred]
      rfl
    all_goals rw [decided, if_neg (by rw [allowed]; decide)]
    · exact if_pos low
    all_goals rw [if_neg (Nat.not_le.mpr high)]
    · exact if_pos early
    · exact if_neg (Nat.not_lt.mpr late)
  · intro u kept c
    obtain ⟨lines, counts⟩ := settleTap_values s tap
    refine ⟨(s.taps[tap]).lines.takeWhile s.discards, ?_, fun l gone => discards_iff.mp (List.mem_takeWhile_imp gone),
      fun l head why discard => ?_, (Settles.settleTap s tap).handled, (Settles.settleTap s tap).lastRequest, ?_⟩
    · show _ = _ ++ ((s.settleTap tap).taps[tap]).lines
      rw [lines, List.takeWhile_append_dropWhile]
    · rw [show kept = _ from lines, ← List.find?_not_eq_head?_dropWhile] at head
      have stays := List.find?_some head
      rw [discards_iff.mpr ⟨why, discard⟩] at stays
      cases stays
    · intro count waits
      have waits_eq : waits = (((s.taps[tap]).lines.dropWhile s.discards).head?.any (fun l => s.headDecision l == .wait)
          && (!((s.taps[tap]).lines.takeWhile s.discards).isEmpty || !s.delivery.waiting[tap])) := by
        simp only [waits, show kept = _ from lines]
      rw [waits_eq]
      exact counts

end Sys2Proof
